-- ==== Sys2Proof/Word.lean ====
section
/-! DEFINITION. The words of the hub: bytes, 64-bit register words, sequence numbers, and the sparse table in which
every piece of state that is indexed by a large number is kept. -/

namespace Sys2Proof

/-- One byte. Every structure the hub holds in memory is a little-endian string of bytes (R9). -/
abbrev Byte := BitVec 8

/-- One register of the Hub Control Space (R51). -/
abbrev Word := BitVec 64

/-- A descriptor sequence number (R174). -/
abbrev Seq48 := BitVec 48

/-- A table indexed by a number: keys strictly rising, absent keys hold the reader's default. -/
abbrev Tbl (α : Type) := List (Nat × α)

/-- Modular comparison of sequence numbers: `a` comes before `b` (R175). -/
def Seq48.before (a b : Seq48) : Bool :=
  let d := (b - a).toNat
  decide (1 ≤ d ∧ d ≤ 2 ^ 47 - 1)

/-- `a` is `b` or comes before it. -/
def Seq48.notAfter (a b : Seq48) : Bool := a == b || Seq48.before a b

end Sys2Proof
end

