-- ==== Sys2Proof/Config.lean ====
section
/-! DEFINITION. What one part fixes, and the values the spec leaves open. A constant declared here without a body is a
free value: nothing can be proved of the value it takes. Constants with a number are the figures of the spec. -/

namespace Sys2Proof.Config

/-- The 16 random bits one lane draws for stochastic rounding (R113); not repeatable, so free. -/
opaque srDraw : Nat → BitVec 16

/-- A byte that a rule calls undefined (R165, R213). -/
opaque freeByte : Nat → BitVec 8

/-- A number that a rule leaves open, such as a length of compressed form or a random value. -/
opaque freeNat : Nat → Nat

/-- A fresh DEBUG_NONCE, from the random bit generator of R479. -/
opaque nonce : Nat → BitVec 64

/-- Length in 512-byte sectors of the LZ form of a 4 KiB unit holding these bytes (R129 gives its bounds only). -/
opaque lzSectors : List (BitVec 8) → Nat

/-- One of the four hashes that choose a row's Clove counters (R264 does not give them). -/
opaque cloveHash : Nat → Nat → Nat → Nat

/-- The slice that homes a sector on one E-die (R148: a hash of its SA that the spec does not give). -/
opaque homeSlice : Nat → Nat

/-- Whether this hub reaches a 128-byte line of another node by the Held protocol: no rule says how a requester learns the
class of a page homed elsewhere (R371, R375). -/
opaque heldPath : Nat → Bool

/-- Whether a 128-byte sector read from another node enters the far cache as Published data (R387); no rule says how the
reader learns the class. -/
opaque publishedPath : Nat → Bool

/-- The bank queue of a unit that serves an SA offset (R71 names it, no rule gives the mapping). -/
opaque bankQueue : Nat → Nat

/-- The stack whose controller checks an address that has no page (R58, R71). -/
opaque refusingStack : Nat → Nat

/-- DEVICE_ID of the part: a fused value (R511). -/
opaque deviceId : BitVec 64

/-- Assembly lot code: a fused value (R600). -/
opaque lot : BitVec 16

/-- Factory calibration value of an item and instance, in steps (R534). -/
opaque factoryCal : Nat → Nat → BitVec 16

/-- A byte of the plaintext of a 16-byte block of bound content, by its content key, its 4 KiB data unit, its block in the
unit, its ciphertext and its place (R494: AES-256-XTS, whose keys no rule lets be read). -/
opaque xtsByte : Nat → Nat → Nat → List (BitVec 8) → Nat → BitVec 8

/-- Whether a cryptographic check of some bytes holds: kind 0 key hash, 1 ECDSA, 2 LMS, 3 body hash, 4 key unwrap. -/
opaque verifies : Nat → List (BitVec 8) → Bool

/-- A hash of some bytes, as the hub shows it. -/
opaque hashOf : List (BitVec 8) → Nat

/-- The bits a signature, digest, certificate, session key exchange or other cryptographic answer carries. -/
opaque crypto : Nat → Nat

/-- The content of a standard CXL, SPDM or DOE answer that the spec names and does not lay out. -/
opaque standardAnswer : Nat → Nat

/-- HUB_REFCLK period in nanoseconds: 100 MHz (R586). -/
def refclkNs : Nat := 10

/-- Submission queues of a hub (R170). -/
def queues : Nat := 16384

/-- Queues a tenant may hold (R170). -/
def queuesPerTenant : Nat := 256

/-- Bytes of a page (R55). -/
def pageBytes : Nat := 2097152

/-- First offset past the page space (R55). -/
def pageSpace : Nat := 0xC00000000000

end Sys2Proof.Config
end

