-- ==== Sys2Proof/Types.lean ====
section
/-! DEFINITION. The objects the spec defines: status codes, shapes, descriptors, records, table and index descriptors,
bindings, the composition of a domain, the Vilex image, and the bodies of messages. Commands carry them and State
holds them. -/

namespace Sys2Proof

/-- Who sends a command that the spec restricts by sender: a logical device, or the management port (R526, R13). -/
inductive Sender where
  | mgmt
  | ld (n : Nat)
deriving DecidableEq, Repr, Inhabited

/-- The shared status names (R17), in the order of the precedence table of R18, highest first. -/
inductive Status where
  | permission | translationFault | scopeUnsupported | formatUnsupported | quotaExceeded
  | aborted | abortedPartial | stateLost | lineOwnerLost | nodeUnreachable | poison
  | conflict | staleMap | kvMiss | okPartialK | ok | degraded | calOverride
deriving DecidableEq, Repr, Inhabited

/-- Pipeline shapes (R134). -/
inductive Shape where
  | gather | pool | scatterAdd | copyConvert | pqScan | hamScan | topkMerge | layerStream
  | kvPush | kvFetch | pageOut | pageIn | atomicBatch | fill
deriving DecidableEq, Repr, Inhabited

/-- Memory tiers (R304). -/
inductive Tier where
  | near | far | deep
deriving DecidableEq, Repr, Inhabited

/-- Region classes of pages (R371). -/
inductive PageClass where
  | plain | held | published
deriving DecidableEq, Repr, Inhabited

/-- PHASE of a page map entry (R316). -/
inductive PagePhase where
  | resident | moving | promoted | lost
deriving DecidableEq, Repr, Inhabited

/-- Kinds of unit that leave and return to service and that fault records name (R562). -/
inductive UnitKind where
  | cluster | hbm | ddr | flash | ifl | cxl | region | chip | d2d | core | sensor
deriving DecidableEq, Repr, Inhabited

/-- A descriptor (R182), decoded from the 64 bytes of its submission slot. -/
structure Descriptor where
  seq     : Seq48
  opcode  : Nat
  flags   : Nat
  srcFmt  : Nat
  dstFmt  : Nat
  param   : Nat
  count   : Nat
  ptr0    : Nat
  ptr1    : Nat
  ptr2    : Nat
  ptr3    : Nat
  arg0    : Nat
  arg1    : Nat
  userTag : Nat
deriving DecidableEq, Repr, Inhabited

/-- A completion record (R187); CONV_FLAGS, COUNT, RESULT, DETAIL and INFO as numbers. -/
structure Completion where
  seq     : Seq48
  status  : Status
  conv    : Nat
  userTag : Nat
  count   : Nat
  result  : Nat
  detail  : Nat
  info    : Nat
deriving DecidableEq, Repr, Inhabited

/-- A shard map entry (R227). STATE: 0 HELD, 1 MOVING, 2 OUT_OF_DATE. -/
structure ShardEntry where
  node  : Nat
  state : Nat
  base  : Nat
deriving DecidableEq, Repr, Inhabited

/-- A table descriptor with the maps of epochs E, E − 1 and E − 2 (R222, R230). PLACE: 0 REPLICATED, 1 HASH, 2 RANGE. -/
structure TableDesc where
  tenant     : Nat
  rowElems   : Nat
  storeFmt   : Nat
  place      : Nat
  gatherOnly : Bool
  noCache    : Bool
  rows       : Nat
  mapEpoch   : Nat
  shards     : Nat
  stride     : Nat
  shardRows  : Nat
  shardGroup : Nat
  map0       : List ShardEntry
  map1       : List ShardEntry
  map2       : List ShardEntry
deriving DecidableEq, Repr, Inhabited

/-- An index descriptor (R271). KIND: 0 product-code, 1 binary. METRIC: 0 L2SQ or Hamming, 1 NEG_IP. -/
structure IndexDesc where
  tenant     : Nat
  kind       : Nat
  metric     : Nat
  m          : Nat
  cbFmt      : Nat
  dim        : Nat
  lists      : Nat
  listTable  : Nat
  codebook   : Nat
  sealed     : Nat
  sealTarget : Nat
deriving DecidableEq, Repr, Inhabited

/-- A binding of a tenant to a logical device (R74, R444). -/
structure TenantBind where
  ld     : Nat
  tenant : Nat
  pasid  : Nat
  admin  : Bool
deriving DecidableEq, Repr, Inhabited

/-- A binding of a queue under a template (R171, R450), with the SAs of its rings (R172). -/
structure QueueBind where
  tenant   : Nat
  template : Nat
  shape    : Nat
  log2n    : Nat
  region   : Nat
  vector   : Nat
  irqLd    : Nat
  sqBase   : Nat
  cqBase   : Nat
deriving DecidableEq, Repr, Inhabited

/-- HDM_SA_MAP and HDM_TENANT of one decoder (R91, R97). -/
structure HdmMap where
  saBase : Nat
  target : Nat
  tenant : Nat
  valid  : Bool
deriving DecidableEq, Repr, Inhabited

/-- FLOOR and CEILING of a tenant in one tier, in 2 MiB pages (R318). -/
structure Quota where
  floor   : Nat
  ceiling : Nat
deriving DecidableEq, Repr, Inhabited

/-- A key-value pool (R468): pages of capacity per hub, and its consumer nodes. -/
structure KvPool where
  tenant    : Nat
  spill     : Bool
  capacity  : Tbl Nat
  consumers : List Nat
deriving DecidableEq, Repr, Inhabited

/-- A route table entry (R411): primary and three alternate ports, 15 for none. -/
structure Route where
  primary : Nat
  alt1    : Nat
  alt2    : Nat
  alt3    : Nat
deriving DecidableEq, Repr, Inhabited

/-- A shard move in its grace or copy (R463). `step` is the last step reached, 1 to 5; 0 of a move that a reset cut (R466). -/
structure ShardMove where
  table   : Nat
  shard   : Nat
  oldNode : Nat
  oldBase : Nat
  newNode : Nat
  newBase : Nat
  step    : Nat
deriving DecidableEq, Repr, Inhabited

/-- What the fabric manager may change (chapter 12), with the CHANGE_SEQ of the last change applied. -/
structure Composition where
  tenantBinds : List TenantBind
  queueBinds  : Tbl QueueBind
  hdm         : Tbl HdmMap
  quotas      : Tbl Quota
  tables      : Tbl TableDesc
  indexes     : Tbl IndexDesc
  pools       : Tbl KvPool
  routes      : Tbl Route
  moves       : List ShardMove
  lastSeq     : Nat
deriving DecidableEq, Repr, Inhabited

/-- The command of a composition change (R444, R450), and the changes the hubs themselves ask for: the flip and the
grace advance of a move, its end, and a replica's state (R463, R466, R467, R263). -/
inductive CompCmd where
  | bindTenant (ld tenant pasid : Nat) (admin : Bool)
  | unbindTenant (ld tenant : Nat)
  | setHdmMap (ld decoder : Nat) (valid : Bool) (tenant target saBase : Nat)
  | bindQueue (queue tenant template irqLd : Nat)
  | unbindQueue (queue : Nat)
  | setQuota (tenant tier floor ceiling : Nat)
  | putTable (id : Nat) (desc : TableDesc)
  | dropTable (id : Nat)
  | moveShard (table shard baseEpoch newNode newBase : Nat)
  | refreshReplica (table entry : Nat)
  | putIndex (id : Nat) (desc : IndexDesc) (hub : Nat)
  | dropIndex (id hub : Nat)
  | setRoute (hub dest : Nat) (route : Route)
  | setKvPool (pool : Nat) (spill : Bool) (tenant hub pages : Nat)
  | kvAttach (pool node : Nat)
  | kvDetach (pool node : Nat)
  | flip (table shard epoch : Nat)
  | grace (table : Nat)
  | moveEnded (table shard : Nat)
  | replicaState (table entry state : Nat)
deriving DecidableEq, Repr, Inhabited

/-- What the hub finds when it checks a signed object (R482, R483): the header fields, and the outcome of each check. -/
structure SignedObject where
  typ       : Nat
  signer    : Nat
  maelcy    : Bool
  svn       : Nat
  keyHashOk : Bool
  ecdsaOk   : Bool
  lmsOk     : Bool
  bodyOk    : Bool
deriving DecidableEq, Repr, Inhabited

/-- A tenant entry of the image (R517). -/
structure TenantEntry where
  tenant    : Nat
  saffron   : Bool
  maxQueues : Nat
  near      : Quota
  far       : Quota
  deep      : Quota
deriving DecidableEq, Repr, Inhabited

/-- A queue template of the image (R517). -/
structure Template where
  shape  : Nat
  log2n  : Nat
  region : Nat
  vector : Nat
deriving DecidableEq, Repr, Inhabited

/-- What the envelope lets one composition command name (R517, section 0x09). `none` permits every value. -/
structure EnvelopeRule where
  opcode  : Nat
  tenants : Option (List Nat)
  lds     : Option (List Nat)
  nodes   : Option (List Nat)
  values  : List (Nat × Nat)
deriving DecidableEq, Repr, Inhabited

/-- A tally send channel (R358). -/
structure TallySend where
  queue   : Nat
  dest    : Nat
  counter : Nat
deriving DecidableEq, Repr, Inhabited

/-- A tally counter's binding (R358): `queue` is the queue behind the source channel. -/
structure TallyRecv where
  src       : Nat
  channel   : Nat
  tenant    : Nat
  queue     : Nat
deriving DecidableEq, Repr, Inhabited

/-- One entry of the CALIBRATION section (R535). -/
structure CalEntry where
  item     : Nat
  inst     : Nat
  offset   : Int
deriving DecidableEq, Repr, Inhabited

/-- The CALIBRATION section (R535). -/
structure CalSection where
  powerLo : Nat
  powerHi : Nat
  tjLo    : Nat
  tjHi    : Nat
  entries : List CalEntry
deriving DecidableEq, Repr, Inhabited

/-- The Vilex image (R516, R517), parsed. `sectionIds` lists the section table; `sectionsOk` that every section lies
within the body and its CRC checks. -/
structure Image where
  formatMajor : Nat
  formatMinor : Nat
  sectionIds  : List Nat
  sectionsOk  : Bool
  imageSeq    : Nat
  baseNode    : Nat
  domain      : Nat
  hash        : Nat
  hubs        : List Nat
  members     : List Nat
  compHubs    : List Nat
  weights     : Tbl Nat
  tenants     : List TenantEntry
  templates   : List Template
  starting    : List CompCmd
  envelope    : List EnvelopeRule
  routes      : Tbl Route
  votes       : List Nat
  tieNode     : Nat
  tallySend   : Tbl TallySend
  tallyRecv   : Tbl TallyRecv
  ownerKeys   : Nat
  svnAuto     : Bool
  injectOk    : Bool
  mutualAuth  : Bool
  lock        : Nat
  cal         : Option CalSection
  limitW      : Nat
  controls    : List (Nat × Nat)
  readyMask   : Option Nat
  network     : Bool
  hopsOk      : Bool
deriving DecidableEq, Repr, Inhabited

/-- The header of an exchange message (R249). -/
structure ExHeader where
  op     : Nat
  table  : Nat
  tenant : Nat
  src    : Nat
  epoch  : Nat
  queue  : Nat
  seq    : Seq48
  part   : Nat
  status : Status
deriving DecidableEq, Repr, Inhabited

/-- A POOL_REQ entry (R250): `weight` is the count c for SUM and MAX, the FP32 weight sum for WSUM. -/
structure PoolEntry where
  index  : Nat
  bag    : Nat
  weight : Nat
deriving DecidableEq, Repr, Inhabited

/-- A bag partial of a POOL_RSP (R250), its elements as FP32 bit patterns. -/
structure Partial where
  bag    : Nat
  rows   : Nat
  poison : Bool
  elems  : List Nat
deriving DecidableEq, Repr, Inhabited

/-- An item of a DELTA (R250): a row and its summed delta in FP32. -/
structure DeltaItem where
  index : Nat
  elems : List Nat
deriving DecidableEq, Repr, Inhabited

/-- An atomic entry (R364). `rsvd` is set when a Reserved bit of the entry is set (R365). -/
structure AtomicEntry where
  target  : Nat
  op      : Nat
  wide    : Bool
  operand : Nat
  compare : Nat
  rsvd    : Bool
deriving DecidableEq, Repr, Inhabited

/-- The header of an Ifeverlink message (R406), with the source node of its flits. -/
structure MsgHeader where
  src    : Nat
  tenant : Nat
  tag    : Nat
  offset : Nat
deriving DecidableEq, Repr, Inhabited

/-- How a CXL.io read of host memory ended (R446). -/
inductive HostReply where
  | data (bytes : List Byte)
  | unsupportedOrAbort
  | poisoned
deriving DecidableEq, Repr, Inhabited

/-- How an ATS request was answered (R75, R78, R79): the translated range and whether it may be written, or no access. -/
inductive AtsReply where
  | translated (hpa size : Nat) (write : Bool)
  | noAccess
deriving DecidableEq, Repr, Inhabited

/-- States of a Held line (R373). -/
inductive LineState where
  | shared | exclusive | modified | owned
deriving DecidableEq, Repr, Inhabited

/-- Requests of a member for a Held line (R376). -/
inductive LineRequest where
  | readShared | readOwn | upgrade | evict
deriving DecidableEq, Repr, Inhabited

/-- A DMTF signed binding record as read (R492): members by node with the key-hash and unwrap outcome for this hub. -/
structure BindingRecord where
  object    : SignedObject
  hash      : Nat
  namesHub  : Bool
  unwrapOk  : Bool
  consumers : List Nat
deriving DecidableEq, Repr, Inhabited

/-- A debug token as read (R509). -/
structure DebugToken where
  object   : SignedObject
  deviceId : BitVec 64
  nonce    : BitVec 64
  level    : Nat
  expires  : Nat
deriving DecidableEq, Repr, Inhabited

/-- STATE of a key directory entry (R470). -/
inductive KeyState where
  | opened | ready | lost
deriving DecidableEq, Repr, Inhabited

/-- A key directory entry (R470). `pageList` numbers its pool pages, with `noPage` where a page was
dropped; `release` that it is freed when its push ends (R476). -/
structure KeyEntry where
  key       : Nat
  pool      : Nat
  state     : KeyState
  tenant    : Nat
  pages     : Nat
  layers    : Nat
  stored    : Nat
  missing   : Nat
  pageList  : List Nat
  lostLayer : Nat
  release   : Bool
deriving DecidableEq, Repr, Inhabited

end Sys2Proof
end

