-- ==== Sys2Proof/Syntax.lean ====
section
/-! DEFINITION. The commands of the hub: one constructor per row of spec/opcode_table.json, with the row's operands. The
spec gives the rows no bits; an operand is what the step's rule reads from outside the hub: who sends it, which unit,
queue or message it concerns, and the data it carries. -/

namespace Sys2Proof

/-- What the cells of a memory access find (R37): nothing, a corrected error, an uncorrectable error that a retry in the
block repairs no more than twice, or a third consecutive failed attempt. -/
inductive CellEvent where
  | clean
  | corrected (bits : Nat)
  | uncorrected
  | exhausted
deriving DecidableEq, Repr, Inhabited

/-- What a host commits, or takes back, in an HDM decoder (R90, R431). -/
structure DecoderSetup where
  commit   : Bool
  base     : Nat
  size     : Nat
  ways     : Nat
  gran     : Nat
  position : Nat
  skip     : Nat
  lock     : Bool
deriving DecidableEq, Repr, Inhabited

/-- One DDR5 channel as the board populates it (R332): `ok` that it keeps the population rules. -/
structure DdrFit where
  dimms : Nat
  ranks : Nat
  speed : Nat
  gib   : Nat
  ok    : Bool
deriving DecidableEq, Repr, Inhabited

/-- One flash channel as the board fits it (R333). -/
structure FlashFit where
  luns : Nat
  tbit : Bool
  ok   : Bool
deriving DecidableEq, Repr, Inhabited

/-- What the hub finds on its DDR5 and flash channels at power-up. -/
structure Board where
  ddr   : List DdrFit
  flash : List FlashFit
deriving DecidableEq, Repr, Inhabited

/-- What reading one image slot gives (R518, R519). -/
inductive SlotRead where
  | unreadable
  | object (check : SignedObject) (image : Image)
deriving DecidableEq, Repr, Inhabited

/-- A unit that ends its training or bring-up (R531, R532). A CXL link reports its width and rate (R426), a returning
DDR5 channel nothing more. -/
inductive ReadyUnit where
  | hbm (stack : Nat)
  | ddr (channel : Nat)
  | flash (channel : Nat)
  | cxl (link width rate : Nat)
  | clusters
  | journal (region : Nat)
  | mgmtAddress
deriving DecidableEq, Repr, Inhabited

/-- A file of the firmware fetch as checked against the manifest and R483 (R528, R529, R542). -/
structure FwFile where
  object  : SignedObject
  hashOk  : Bool
  sizeOk  : Bool
  major   : Nat
  minor   : Nat
deriving DecidableEq, Repr, Inhabited

/-- The commands. -/
inductive Instr where
  /-- REGISTER_WRITE (R13). -/
  | registerWrite (who : Sender) (offset : Nat) (data : List Byte)
  /-- FAULT_SUMMARY_CLEAR (R569). -/
  | faultSummaryClear (who : Sender) (value : Word)
  /-- SQ_TAIL (R178). -/
  | sqTail (ld queue : Nat) (tail : Seq48)
  /-- CQ_HEAD (R179). -/
  | cqHead (ld queue : Nat) (head : Seq48)
  /-- BAD_SEQ (R181). -/
  | badSeq (queue : Nat)
  /-- DESCRIPTOR_ACCEPT (R190). -/
  | descriptorAccept (queue : Nat)
  /-- SEGMENT_PLACE (R156). -/
  | segmentPlace (queue : Nat) (seq : Seq48)
  /-- SHAPE_CHANGE (R158). -/
  | shapeChange (cluster : Nat)
  /-- DWELL_EXPIRY (R159). -/
  | dwellExpiry (shape : Nat)
  /-- NOP (R184). -/
  | nop (queue : Nat) (seq : Seq48)
  /-- GATHER (R234). -/
  | gather (queue : Nat) (seq : Seq48)
  /-- POOL (R234). -/
  | pool (queue : Nat) (seq : Seq48)
  /-- SCATTER_ADD (R254). -/
  | scatterAdd (queue : Nat) (seq : Seq48)
  /-- COPY_CONVERT (R603). -/
  | copyConvert (queue : Nat) (seq : Seq48)
  /-- PQ_SCAN (R290). -/
  | pqScan (queue : Nat) (seq : Seq48)
  /-- HAM_SCAN (R288). -/
  | hamScan (queue : Nat) (seq : Seq48)
  /-- APPEND (R280). -/
  | append (queue : Nat) (seq : Seq48)
  /-- DELETE (R281). -/
  | delete (queue : Nat) (seq : Seq48)
  /-- SEAL (R278). -/
  | seal (queue : Nat) (seq : Seq48)
  /-- TOPK_MERGE (R300). -/
  | topkMerge (queue : Nat) (seq : Seq48)
  /-- LAYER_STREAM (R338). -/
  | layerStream (queue : Nat) (seq : Seq48)
  /-- KV_PUSH (R473). -/
  | kvPush (queue : Nat) (seq : Seq48)
  /-- KV_FETCH (R475); `held` is what the directory of a holder on another hub shows: its BOOT_GEN, and its entry. -/
  | kvFetch (queue : Nat) (seq : Seq48) (bootGen : Nat) (held : Option KeyEntry)
  /-- PAGE_OUT (R335). -/
  | pageOut (queue : Nat) (seq : Seq48)
  /-- PAGE_IN (R334). -/
  | pageIn (queue : Nat) (seq : Seq48)
  /-- ATOMIC_BATCH (R363). -/
  | atomicBatch (queue : Nat) (seq : Seq48)
  /-- FILL (R604). -/
  | fill (queue : Nat) (seq : Seq48)
  /-- FENCE_QUEUE (R353). -/
  | fenceQueue (queue : Nat) (seq : Seq48)
  /-- FENCE_HUB (R353). -/
  | fenceHub (queue : Nat) (seq : Seq48)
  /-- FENCE_FABRIC (R353). -/
  | fenceFabric (queue : Nat) (seq : Seq48)
  /-- WAIT_TALLY (R362). -/
  | waitTally (queue : Nat) (seq : Seq48)
  /-- GLAZE_PUBLISH (R385). -/
  | glazePublish (queue : Nat) (seq : Seq48)
  /-- GLAZE_DISCARD (R385). -/
  | glazeDiscard (queue : Nat) (seq : Seq48)
  /-- GLAZE_REFRESH (R385). -/
  | glazeRefresh (queue : Nat) (seq : Seq48)
  /-- GLAZE_VERSION (R385). -/
  | glazeVersion (queue : Nat) (seq : Seq48)
  /-- REDO_APPLY (R199). -/
  | redoApply (queue : Nat) (seq : Seq48)
  /-- DESCRIPTOR_COMPLETE (R196). -/
  | descriptorComplete (queue : Nat)
  /-- MSIX_PENDING_SEND (R447). -/
  | msixPendingSend (ld vector : Nat)
  /-- STRIP_QUEUE (R213). -/
  | stripQueue (who : Sender) (queue : Nat)
  /-- STRIP_TENANT (R213). -/
  | stripTenant (who : Sender) (tenant : Nat)
  /-- STRIP_CLUSTER (R213). -/
  | stripCluster (who : Sender) (cluster : Nat)
  /-- STRIP_DONE (R216). -/
  | stripDone (who : Sender)
  /-- RESUME (R216). -/
  | resume (ld queue : Nat) (tail : Seq48)
  /-- REPLAY (R204). -/
  | replay (journal : Nat)
  /-- JOURNAL_REBUILD_DONE (R202). -/
  | journalRebuildDone (journal : Nat)
  /-- TLB_INV (R83). -/
  | tlbInv (ld tenant : Nat)
  /-- TLB_INV_DONE (R83). -/
  | tlbInvDone (ld : Nat)
  /-- ATS_COMPLETION (R78). -/
  | atsCompletion (tag : Nat) (reply : AtsReply)
  /-- ATS_TIMEOUT (R82). -/
  | atsTimeout (tag : Nat)
  /-- ATS_INVALIDATE_REQUEST (R86). -/
  | atsInvalidateRequest (ld pasid addr size : Nat)
  /-- ATS_INVALIDATE_COMPLETION (R86). -/
  | atsInvalidateCompletion (ld : Nat)
  /-- CLOVE_CLEAR (R268). -/
  | cloveClear (who : Sender)
  /-- CLOVE_HALVE (R265). -/
  | cloveHalve (cluster : Nat)
  /-- SR_SOURCE_FAIL (R114). -/
  | srSourceFail (cluster lane : Nat)
  /-- SR_SOURCE_PASS (R114). -/
  | srSourcePass (cluster lane : Nat)
  /-- POOL_REQ (R245). -/
  | poolReq (src : Nat) (h : ExHeader) (entries : List PoolEntry)
  /-- POOL_RSP (R246). -/
  | poolRsp (src : Nat) (h : ExHeader) (partials : List Partial) (stale : List PoolEntry)
  /-- BUSY (R252). -/
  | busy (src : Nat) (h : ExHeader)
  /-- STRAGGLE (R245). -/
  | straggle (queue : Nat) (seq : Seq48) (part : Nat)
  /-- PREP (R254). -/
  | prep (src : Nat) (h : ExHeader) (indices : List Nat)
  /-- PREP_RSP (R254). -/
  | prepRsp (src : Nat) (h : ExHeader)
  /-- DELTA (R256). -/
  | delta (src : Nat) (h : ExHeader) (items : List DeltaItem)
  /-- DELTA_ACK (R254). -/
  | deltaAck (src : Nat) (h : ExHeader)
  /-- RELEASE (R257). -/
  | release (src : Nat) (h : ExHeader)
  /-- LOAD (R355). -/
  | load (m : MsgHeader) (len : Nat) (row : Option (Nat × Nat × Nat))
  /-- STORE (R355). -/
  | store (m : MsgHeader) (data : List Byte)
  /-- ATOMIC (R370). -/
  | atomic (m : MsgHeader) (scope queue : Nat) (seq : Seq48) (part : Nat) (entries : List AtomicEntry)
  /-- ATOMIC_CHECK (R370). -/
  | atomicCheck (m : MsgHeader) (scope queue : Nat) (seq : Seq48) (part : Nat) (entries : List AtomicEntry)
  /-- LOAD_RSP (R419). -/
  | loadRsp (src tag : Nat) (status : Status) (epoch : Nat) (data : List Byte)
  /-- STORE_ACK (R344). -/
  | storeAck (src tag : Nat) (status : Status)
  /-- ATOMIC_RSP (R370). -/
  | atomicRsp (src tag : Nat) (status : Status) (olds : List Nat)
  /-- IFL_TIMEOUT (R419). -/
  | iflTimeout (tag : Nat)
  /-- READ_SHARED (R376). -/
  | readShared (m : MsgHeader)
  /-- READ_OWN (R376). -/
  | readOwn (m : MsgHeader)
  /-- UPGRADE (R376). -/
  | upgrade (m : MsgHeader)
  /-- EVICT (R376). -/
  | evict (m : MsgHeader) (dirty : List Byte)
  /-- RETRY (R378). -/
  | retry (m : MsgHeader) (request : LineRequest) (ticket : Nat)
  /-- FWD_SHARED (R376). -/
  | fwdShared (m : MsgHeader) (requester : Nat)
  /-- FWD_OWN (R376). -/
  | fwdOwn (m : MsgHeader) (requester : Nat)
  /-- INV (R376). -/
  | inv (m : MsgHeader)
  /-- RECALL (R374). -/
  | recall (m : MsgHeader)
  /-- DATA (R376). -/
  | data (m : MsgHeader) (status : Status) (granted : LineState) (line : List Byte)
  /-- GRANT (R376). -/
  | grant (m : MsgHeader)
  /-- NACK (R378). -/
  | nack (m : MsgHeader) (ticket : Nat)
  /-- INV_ACK (R376). -/
  | invAck (m : MsgHeader) (line : List Byte)
  /-- VERSION_NOTICE (R387). -/
  | versionNotice (m : MsgHeader) (version : Nat)
  /-- VERSION_REQ (R385). -/
  | versionReq (m : MsgHeader)
  /-- VERSION_RSP (R385). -/
  | versionRsp (m : MsgHeader) (status : Status) (version : Nat)
  /-- DRAFT_LEASE_EXPIRY (R389). -/
  | draftLeaseExpiry (region tenant writer : Nat)
  /-- TALLY_STORE (R359). -/
  | tallyStore (m : MsgHeader) (data : List Byte)
  /-- TALLY_CREDIT_SEND (R360). -/
  | tallyCreditSend (queue : Nat) (seq : Seq48)
  /-- TALLY_CREDIT (R360). -/
  | tallyCredit (src channel tag : Nat) (seq : Seq48) (bytes packets : Nat)
  /-- CREDIT_ACK (R353). -/
  | creditAck (src tag : Nat)
  /-- CONTROL_FLIT (R400). -/
  | controlFlit (port ackSeq : Nat) (retry : Bool) (lanes : Nat) (credits : List Nat) (tagOk : Bool)
  /-- FLIT_FORWARD (R413). -/
  | flitForward (port src dst vc hopsLeft kind : Nat) (payload : List Byte)
  /-- LANE_LOCK_LOSS (R395). -/
  | laneLockLoss (port lane : Nat)
  /-- LANE_ERROR_WINDOW (R395). -/
  | laneErrorWindow (port lane : Nat)
  /-- LINK_RETRAIN (R397). -/
  | linkRetrain (who : Sender) (port : Nat)
  /-- LINK_TRAINING_DONE (R397). -/
  | linkTrainingDone (port lanes partner domain : Nat) (device : BitVec 64) (encrypt : Bool)
  /-- HELLO_TIMEOUT (R398). -/
  | helloTimeout (port reason : Nat)
  /-- LINK_KEY_UPDATE_DUE (R410). -/
  | linkKeyUpdateDue (port : Nat)
  /-- BARRIER (R415). -/
  | barrier (src vc : Nat)
  /-- BARRIER_ACK (R415). -/
  | barrierAck (src : Nat)
  /-- LINK_FATE (R415). -/
  | linkFate (port fseq : Nat)
  /-- LINK_FATE_TIMEOUT (R415). -/
  | linkFateTimeout (port : Nat)
  /-- HEARTBEAT_INTERVAL (R416). -/
  | heartbeatInterval
  /-- HEARTBEAT (R417). -/
  | heartbeat (src : Nat) (seen : List Nat) (votes : Nat) (authority : Bool) (device : BitVec 64)
  /-- MEMBER_UNREACHABLE (R417). -/
  | memberUnreachable (node : Nat)
  /-- CHANGE (R455). -/
  | change (src changeSeq : Nat) (cmd : CompCmd)
  /-- CHANGE_ANSWER (R454). -/
  | changeAnswer (src changeSeq : Nat) (status : Status)
  /-- FORWARD (R452). -/
  | forward (src tag : Nat) (cmd : CompCmd)
  /-- FORWARD_ANSWER (R452). -/
  | forwardAnswer (src tag : Nat) (status : Status)
  /-- FLIP_REQUEST (R463). -/
  | flipRequest (src table shard epoch : Nat)
  /-- GRACE_ADVANCE (R463). -/
  | graceAdvance (table : Nat)
  /-- CATCH_UP (R456). -/
  | catchUp (src changeSeq : Nat)
  /-- SNAPSHOT (R456). -/
  | snapshot (src changeSeq : Nat) (comp : Composition)
  /-- SEQ_QUERY (R453). -/
  | seqQuery (src changeSeq : Nat)
  /-- SEQ_REPORT (R453). -/
  | seqReport (src changeSeq : Nat) (changes : List (Nat × CompCmd))
  /-- REPLICA_STALE (R263). -/
  | replicaStale (src table entry epoch : Nat)
  /-- BIND_TENANT (R444). -/
  | bindTenant (ld tenant pasid : Nat) (admin : Bool)
  /-- UNBIND_TENANT (R461). -/
  | unbindTenant (ld tenant : Nat)
  /-- SET_HDM_MAP (R444). -/
  | setHdmMap (ld decoder : Nat) (valid : Bool) (tenant target saBase : Nat)
  /-- BIND_QUEUE (R460). -/
  | bindQueue (queue tenant template irqLd : Nat)
  /-- UNBIND_QUEUE (R460). -/
  | unbindQueue (queue : Nat)
  /-- SET_QUOTA (R462). -/
  | setQuota (tenant tier floor ceiling : Nat)
  /-- PUT_TABLE (R450). -/
  | putTable (id : Nat) (desc : TableDesc)
  /-- DROP_TABLE (R450). -/
  | dropTable (id : Nat)
  /-- MOVE_SHARD (R463). -/
  | moveShard (table shard baseEpoch newNode newBase : Nat)
  /-- REFRESH_REPLICA (R467). -/
  | refreshReplica (table entry : Nat)
  /-- PUT_INDEX (R450). -/
  | putIndex (id : Nat) (desc : IndexDesc) (hub : Nat)
  /-- DROP_INDEX (R450). -/
  | dropIndex (id hub : Nat)
  /-- SET_ROUTE (R415). -/
  | setRoute (hub dest : Nat) (route : Route)
  /-- SET_KV_POOL (R468). -/
  | setKvPool (pool : Nat) (spill : Bool) (tenant hub pages : Nat)
  /-- KV_ATTACH (R468). -/
  | kvAttach (pool node : Nat)
  /-- KV_DETACH (R468). -/
  | kvDetach (pool node : Nat)
  /-- SKIM_CONTEXT (R501). -/
  | skimContext (tenant : Nat)
  /-- SKIM_MEMORY (R502). -/
  | skimMemory (tenant : Nat)
  /-- SKIM_DONE (R504). -/
  | skimDone (tenant : Nat)
  /-- FM_IDENTIFY (R441). -/
  | fmIdentify
  /-- GET_LD_INFO (R441). -/
  | getLdInfo (port : Nat)
  /-- GET_LD_ALLOCATIONS (R441). -/
  | getLdAllocations (port : Nat)
  /-- SET_LD_ALLOCATIONS (R428). -/
  | setLdAllocations (port start : Nat) (amounts : List Nat)
  /-- GET_QOS_CONTROL (R441). -/
  | getQosControl (port : Nat)
  /-- SET_QOS_CONTROL (R441). -/
  | setQosControl (port value : Nat)
  /-- GET_QOS_STATUS (R441). -/
  | getQosStatus (port : Nat)
  /-- GET_QOS_ALLOCATED_BW (R441). -/
  | getQosAllocatedBw (port : Nat)
  /-- SET_QOS_ALLOCATED_BW (R442). -/
  | setQosAllocatedBw (port start : Nat) (amounts : List Nat)
  /-- GET_QOS_BW_LIMIT (R441). -/
  | getQosBwLimit (port : Nat)
  /-- SET_QOS_BW_LIMIT (R442). -/
  | setQosBwLimit (port start : Nat) (amounts : List Nat)
  /-- GET_EVENT_RECORDS (R438). -/
  | getEventRecords (ld log : Nat)
  /-- CLEAR_EVENT_RECORDS (R438). -/
  | clearEventRecords (ld log : Nat) (all : Bool) (handles : List Nat)
  /-- GET_EVENT_INTERRUPT_POLICY (R438). -/
  | getEventInterruptPolicy (ld : Nat)
  /-- SET_EVENT_INTERRUPT_POLICY (R438). -/
  | setEventInterruptPolicy (ld : Nat) (policy : List Nat)
  /-- GET_FW_INFO (R438). -/
  | getFwInfo (ld : Nat)
  /-- GET_TIMESTAMP (R438). -/
  | getTimestamp (ld : Nat)
  /-- SET_TIMESTAMP (R438). -/
  | setTimestamp (ld value : Nat)
  /-- GET_SUPPORTED_LOGS (R438). -/
  | getSupportedLogs (ld : Nat)
  /-- GET_LOG (R438). -/
  | getLog (ld : Nat) (commandEffects : Bool)
  /-- IDENTIFY_MEMORY_DEVICE (R438). -/
  | identifyMemoryDevice (ld : Nat)
  /-- GET_HEALTH_INFO (R438). -/
  | getHealthInfo (ld : Nat)
  /-- GET_ALERT_CONFIGURATION (R438). -/
  | getAlertConfiguration (ld : Nat)
  /-- SET_ALERT_CONFIGURATION (R438). -/
  | setAlertConfiguration (ld : Nat) (thresholds : List Nat)
  /-- GET_POISON_LIST (R439). -/
  | getPoisonList (ld dpa len : Nat)
  /-- INJECT_POISON (R439). -/
  | injectPoison (ld dpa : Nat)
  /-- CLEAR_POISON (R605). -/
  | clearPoison (ld dpa : Nat) (data : List Byte)
  /-- GET_SCAN_MEDIA_CAPABILITIES (R439). -/
  | getScanMediaCapabilities (ld dpa len : Nat)
  /-- SCAN_MEDIA (R439). -/
  | scanMedia (ld dpa len : Nat)
  /-- GET_SCAN_MEDIA_RESULTS (R439). -/
  | getScanMediaResults (ld : Nat)
  /-- GET_HUB_INFO (R443). -/
  | getHubInfo (ld : Nat)
  /-- READ_RBS (R576). -/
  | readRbs (ld address len : Nat) (freeze : Bool)
  /-- READ_FAULTS (R568). -/
  | readFaults (ld level count first : Nat)
  /-- RBS_READ (R575). -/
  | rbsRead (tag address len : Nat) (freeze : Bool)
  /-- FAULT_READ (R575). -/
  | faultRead (tag level count first : Nat)
  /-- ALLOC_PAGES (R313). -/
  | allocPages (who : Sender) (tag tenant count flags format cls pub : Nat)
  /-- FREE_PAGES (R315). -/
  | freePages (who : Sender) (tag tenant count firstSa : Nat)
  /-- EVICTION_WAIT_EXPIRY (R313). -/
  | evictionWaitExpiry (ticket : Nat)
  /-- LINE_SALVAGE (R380). -/
  | lineSalvage (who : Sender) (tag tenant lines firstSa : Nat)
  /-- BIND_CONTENT (R493). -/
  | bindContent (who : Sender) (tag tenant pages firstSa : Nat) (record : BindingRecord)
  /-- UNBIND_CONTENT (R493). -/
  | unbindContent (who : Sender) (tag tenant handle : Nat)
  /-- DEBUG_UNLOCK (R509). -/
  | debugUnlock (who : Sender) (tag : Nat) (token : DebugToken)
  /-- DEBUG_PATHS_OPEN (R510). -/
  | debugPathsOpen
  /-- IMAGE_WRITE (R515). -/
  | imageWrite (who : Sender) (tag slot offset len sa : Nat)
  /-- DIR_SET (R515). -/
  | dirSet (who : Sender) (tag active : Nat)
  /-- GET_VERSION (R490). -/
  | getVersion (who : Sender)
  /-- GET_CAPABILITIES (R490). -/
  | getCapabilities (who : Sender)
  /-- NEGOTIATE_ALGORITHMS (R489). -/
  | negotiateAlgorithms (who : Sender) (supported : Bool)
  /-- GET_DIGESTS (R490). -/
  | getDigests (who : Sender)
  /-- GET_CERTIFICATE (R490). -/
  | getCertificate (who : Sender) (slot : Nat)
  /-- CHALLENGE (R490). -/
  | challenge (who : Sender) (slot transcript : Nat)
  /-- GET_MEASUREMENTS (R490). -/
  | getMeasurements (who : Sender) (signed : Bool) (transcript : Nat)
  /-- KEY_EXCHANGE (R490). -/
  | keyExchange (who : Sender) (mutualAuth : Bool)
  /-- FINISH (R490). -/
  | finish (who : Sender) (authOk : Bool)
  /-- KEY_UPDATE (R410). -/
  | keyUpdate (who : Sender) (link : Option Nat)
  /-- SPDM_HEARTBEAT (R490). -/
  | spdmHeartbeat (who : Sender)
  /-- END_SESSION (R490). -/
  | endSession (who : Sender)
  /-- GET_LMS_SIGNATURE (R491). -/
  | getLmsSignature (who : Sender)
  /-- DOE_DISCOVERY (R435). -/
  | doeDiscovery (ld : Nat)
  /-- CDAT_TABLE_ACCESS (R436). -/
  | cdatTableAccess (ld : Nat)
  /-- COMPLIANCE (R435). -/
  | compliance (ld : Nat)
  /-- BYPASS (R508). -/
  | bypass
  /-- IDCODE (R508). -/
  | idcode
  /-- SAMPLE_PRELOAD (R508). -/
  | samplePreload
  /-- EXTEST (R508). -/
  | extest
  /-- CLAMP (R508). -/
  | clamp
  /-- HIGHZ (R508). -/
  | highz
  /-- CXL_MEM_READ (R432). -/
  | cxlMemRead (ld tag hpa len : Nat) (cell : CellEvent)
  /-- CXL_MEM_WRITE (R432). -/
  | cxlMemWrite (ld tag hpa : Nat) (data : List Byte) (poison : Bool) (cell : CellEvent)
  /-- MEM_HOLD_EXPIRY (R433). -/
  | memHoldExpiry (ld tag : Nat)
  /-- HDM_DECODER_COMMIT (R431). -/
  | hdmDecoderCommit (ld decoder : Nat) (setup : DecoderSetup)
  /-- CXL_LINK_DOWN (R445). -/
  | cxlLinkDown (link : Nat)
  /-- HOST_HOLD_EXPIRY (R446). -/
  | hostHoldExpiry (link : Nat)
  /-- PERST_N (R445). -/
  | perstN (port : Nat)
  /-- HOT_RESET (R445). -/
  | hotReset (link : Nat)
  /-- FUNCTION_LEVEL_RESET (R445). -/
  | functionLevelReset (ld : Nat)
  /-- CXL_RESET (R445). -/
  | cxlReset (ld : Nat)
  /-- CXL_IO_COMPLETION (R446). -/
  | cxlIoCompletion (tag : Nat) (reply : HostReply)
  /-- CXL_IO_TIMEOUT (R446). -/
  | cxlIoTimeout (tag : Nat)
  /-- IDE_INTEGRITY_FAILURE (R437). -/
  | ideIntegrityFailure (link : Nat)
  /-- D2D_LANE_FAULT (R25). -/
  | d2dLaneFault (link : Nat)
  /-- CELL_RETIRED (R38). -/
  | cellRetired (kind : UnitKind) (unit cell cause : Nat)
  /-- BLOCK_UNRESPONSIVE (R40). -/
  | blockUnresponsive (kind : UnitKind) (unit : Nat)
  /-- REGION_ISOLATED (R43). -/
  | regionIsolated (region : Nat)
  /-- E_DIE_FAILURE (R42). -/
  | eDieFailure (die : Nat)
  /-- X_DIE_FAILURE (R42). -/
  | xDieFailure
  /-- PORT_FAILED (R602). -/
  | portFailed (kind : UnitKind) (port cause : Nat)
  /-- FLASH_DIE_FAILURE (R331). -/
  | flashDieFailure (channel : Nat) (pages : List Nat)
  /-- TIER_EVICTION (R319). -/
  | tierEviction (tier : Tier)
  /-- PROMOTION (R321). -/
  | promotion
  /-- MOVE_FLIP (R325). -/
  | moveFlip (page : Nat)
  /-- DEEP_PROMOTION_DONE (R323). -/
  | deepPromotionDone (page : Nat)
  /-- PROMOTED_RETURN (R323). -/
  | promotedReturn (page : Nat)
  /-- PWR_GOOD_RISE (R521). -/
  | pwrGoodRise (straps : Nat) (board : Board)
  /-- SLOT_CHECK (R519). -/
  | slotCheck (slotB : Bool) (read : SlotRead)
  /-- UNIT_READY (R532). -/
  | unitReady (unit : ReadyUnit)
  /-- UNIT_TRAIN_TIMEOUT (R522). -/
  | unitTrainTimeout (kind : UnitKind) (unit : Nat)
  /-- FLUSH_RESTORE (R212). -/
  | flushRestore
  /-- DHCP_LEASE (R527). -/
  | dhcpLease (address : Nat)
  /-- NO_LEASE (R530). -/
  | noLease
  /-- TFTP_BLOCK (R527). -/
  | tftpBlock (block : Nat)
  /-- TFTP_TIMEOUT (R530). -/
  | tftpTimeout
  /-- TFTP_ERROR (R530). -/
  | tftpError
  /-- FW_FILE_ACCEPT (R529). -/
  | fwFileAccept (cls : Nat) (file : FwFile)
  /-- FETCH_BACKOFF (R530). -/
  | fetchBackoff
  /-- SVN_AUTO_RAISE (R485). -/
  | svnAutoRaise
  /-- HUB_RESET_N_FALL (R209). -/
  | hubResetNFall
  /-- HUB_RESET_N_RISE (R209). -/
  | hubResetNRise (straps : Nat)
  /-- PWR_FAIL_N_FALL (R210). -/
  | pwrFailNFall
  /-- FLUSH_DONE (R210). -/
  | flushDone
  /-- PWR_FAIL_N_RISE (R590). -/
  | pwrFailNRise
  /-- PWR_GOOD_FALL (R589). -/
  | pwrGoodFall
  /-- THERMTRIP (R557). -/
  | thermtrip (sensor : Nat)
  /-- WATCHDOG_EXPIRY (R544). -/
  | watchdogExpiry (core : Nat)
  /-- CORE_TRAP (R544). -/
  | coreTrap (core : Nat)
  /-- CORE_ECC_ERROR (R544). -/
  | coreEccError (core : Nat)
  /-- CORE_RESTART_TIMEOUT (R545). -/
  | coreRestartTimeout (core : Nat)
  /-- PACKAGE_POWER_CAP (R554). -/
  | packagePowerCap (watts : Nat) (belowFor10ms : Bool)
  /-- REGION_THERMAL (R554). -/
  | regionThermal (region : Nat) (temps : List Nat)
  /-- RAIL_TRACKING (R555). -/
  | railTracking
  /-- POWER_GUARD (R545). -/
  | powerGuard (watts : Nat)
  /-- POWER_TELEMETRY_WINDOW (R507). -/
  | powerTelemetryWindow (watts : Nat) (rails : List (Nat × Nat))
  /-- PERF_WINDOW (R506). -/
  | perfWindow (counts : List (Nat × List Nat))
  /-- CAL_TRACK (R536). -/
  | calTrack (drifts : List (Nat × Nat × Int))
  /-- CAL_OVERRIDE (R538). -/
  | calOverride (cause : Nat)
  /-- CAL_OVERRIDE_CLEAR (R538). -/
  | calOverrideClear
  /-- SENSOR_OUT (R539). -/
  | sensorOut (sensor : Nat)
  /-- CXL_IDE_KM (R437). -/
  | cxlIdeKm (link : Nat) (activate : Bool)
  /-- CORE_RESTART_DONE (R545). -/
  | coreRestartDone (core : Nat)
  /-- BACKGROUND_ERASURE (R503). -/
  | backgroundErasure (tenant pages : Nat)
deriving DecidableEq, Repr

end Sys2Proof
end

