-- ==== Sys2Proof/Machine/State.lean ====
section
/-! DEFINITION. The state of one hub as plain data, what it sends, and the state after reset. The state is grouped by
the chapter of the spec that gives each piece; every number indexed by a large range is a sparse table. -/

namespace Sys2Proof.Machine

open Sys2Proof

/-- A fault would stop the block. No rule of the spec stops the hub without giving the state that follows (a refused
request has an outcome, a failed die leaves the hub out of service), so no meaning raises one: there is no constructor. -/
inductive Fault where
deriving DecidableEq, Repr

/-- Why a command has no meaning in this model. -/
inductive Refusal where
  /-- Raised only by an arm of exec whose command has no meaning yet; safe: nothing is claimed of it. -/
  | notModelled (mnemonic : String)
deriving DecidableEq, Repr

/-! ### What the hub sends (the model's own record, oldest first) -/

/-- One fault record (R561); REPEAT may rise while it is the newest of its ring (R565). -/
structure FaultRecord where
  seq      : Nat
  time     : Nat
  level    : Nat
  severity : Nat
  code     : Nat
  kind     : UnitKind
  inst     : Nat
  cell     : Nat
  tenant   : Option Nat
  node     : Option Nat
  status   : Nat
  cause    : Option (Nat × Nat)
  alert    : Bool
  merged   : Nat
  addr     : Nat
  arg      : Nat
deriving DecidableEq, Repr, Inhabited

/-- What the hub sends out of the package, or asks of its own physical layer. -/
inductive Out where
  | load (dst tenant tag offset len : Nat) (row : Option (Nat × Nat × Nat))
  | store (dst tenant tag offset : Nat) (data : List Byte)
  | atomic (dst tenant tag scope : Nat) (check : Bool) (queue : Nat) (seq : Seq48) (part : Nat) (entries : List AtomicEntry)
  | loadRsp (dst tag : Nat) (status : Status) (epoch : Nat) (data : List Byte)
  | storeAck (dst tag : Nat) (status : Status)
  | atomicRsp (dst tag : Nat) (status : Status) (olds : List Nat)
  | poolReq (dst : Nat) (h : ExHeader) (entries : List PoolEntry)
  | poolRsp (dst : Nat) (h : ExHeader) (partials : List Partial) (stale : List PoolEntry)
  | prep (dst : Nat) (h : ExHeader) (indices : List Nat)
  | delta (dst : Nat) (h : ExHeader) (items : List DeltaItem)
  | exchange (dst kind : Nat) (h : ExHeader)
  | line (dst kind tenant tag offset aux : Nat) (status : Status) (data : List Byte)
  | version (dst kind tag offset : Nat) (status : Status) (version : Nat)
  | tallyStore (dst tenant tag offset : Nat) (data : List Byte)
  | tallyCredit (dst channel tag : Nat) (seq : Seq48) (bytes packets : Nat)
  | creditAck (dst tag : Nat)
  | control (port ackSeq : Nat) (retry : Bool)
  | flit (port src dst vc hopsLeft kind : Nat) (payload : List Byte)
  | resend (port fseq : Nat)
  | barrier (dst vc : Nat)
  | barrierAck (dst : Nat)
  | linkFate (dst port fseq : Nat)
  | hello (port : Nat)
  | keyUpdate (port : Nat)
  | heartbeat (dst : Nat) (seen : List Nat) (votes : Nat) (authority : Bool)
  | change (dst changeSeq : Nat) (cmd : CompCmd)
  | changeAnswer (dst changeSeq : Nat) (status : Status)
  | forward (dst tag : Nat) (cmd : CompCmd)
  | forwardAnswer (dst tag : Nat) (status : Status)
  | flipRequest (dst table shard epoch : Nat)
  | catchUp (dst changeSeq : Nat)
  | snapshot (dst changeSeq : Nat) (comp : Composition)
  | seqQuery (dst changeSeq : Nat)
  | seqReport (dst changeSeq : Nat) (changes : List (Nat × CompCmd))
  | replicaStale (dst table entry epoch : Nat)
  | fmEvent (record : FaultRecord)
  | fmAnswer (status : Status) (data : List Nat)
  | fmRefused
  | mailbox (who : Sender) (tag : Nat) (status : Status) (body : List Byte)
  | cxlCommand (ld returnCode : Nat) (data : List Nat)
  | cxlReadData (ld tag : Nat) (poison : Bool) (data : List Byte)
  | cxlWriteDone (ld tag : Nat)
  | decoder (ld decoder : Nat) (committed : Bool)
  | msix (ld vector : Nat)
  | atsRequest (ld tag pasid addr : Nat)
  | atsInvalidateCompletion (ld : Nat)
  | hostRead (ld tag hpa len : Nat)
  | hostWrite (ld hpa : Nat) (data : List Byte)
  | spdm (who : Sender) (code : Nat) (data : List Nat)
  | doe (ld protocol : Nat) (data : List Nat)
  | jtag (instr : Nat) (taken : Bool)
  | avs (millivolt : Nat)
  | bootFlash (offset len : Nat)
  | fetch (step : Nat)
deriving DecidableEq, Repr, Inhabited

/-! ### Faults, pins, units -/

/-- A fault ring (R566): the records it holds, oldest first. -/
structure FaultRing where
  next        : Nat
  overwritten : Nat
  records     : List FaultRecord
deriving DecidableEq, Repr, Inhabited

/-- The four rings and the two latched bits and WORST of FAULT_SUMMARY (R569, R582). -/
structure Faults where
  rings : List FaultRing
  fault : Bool
  alert : Bool
  worst : Nat
deriving DecidableEq, Repr, Inhabited

/-- Sideband pins and what they latched (R587, R600). `resetPin` the level of HUB_RESET_N, `hubResetN` whether the hub is out of
reset, which a latched fall delays (R590); `released` that HUB_RESET_N has risen since power-up (R508), `failing` that the
power-loss sequence has begun and no reset has followed (R210, R211, R557), `slotLive` the present level of SLOT_ID, `slotId` the
level sampled (R61), `perst` the ports whose PERST_N fell during a warm reset (R590). -/
structure Pins where
  pwrGood      : Bool
  hubResetN    : Bool
  pwrFailN     : Bool
  pwrFailSeen  : Bool
  resetLatched : Bool
  slotId       : Nat
  thermtrip    : Bool
  released     : Bool
  failing      : Bool
  slotLive     : Nat
  resetPin     : Bool
  perst        : List Nat
deriving DecidableEq, Repr, Inhabited

/-- One segment placed on a cluster (R154). -/
structure Segment where
  queue  : Nat
  seq    : Seq48
  number : Nat
  shape  : Nat
deriving DecidableEq, Repr, Inhabited

/-- An engine cluster (R157, R168): the shape it is loaded with, its segments in flight and those placed and waiting for
its shape, and whether the scheduler has stopped placing its current shape on it (R159). -/
structure Cluster where
  inService : Bool
  coreHeld  : Bool
  shape     : Option Nat
  inFlight  : List Segment
  placed    : List Segment
  draining  : Bool
deriving DecidableEq, Repr, Inhabited

/-- A DDR5 channel (R332, DDR_POP). -/
structure DdrChannel where
  fit       : DdrFit
  inService : Bool
deriving DecidableEq, Repr, Inhabited

/-- A flash channel with its scanner (R333, R285, R303). -/
structure FlashChannel where
  fit       : FlashFit
  inService : Bool
  lanesUp   : Nat
deriving DecidableEq, Repr, Inhabited

/-- Units of the hub and their service state (chapter 01); `hbmStart` the stacks in service at power-up (R308). -/
structure Units where
  clusters   : List Cluster
  hbm        : List Bool
  hbmStart   : List Bool
  ddr        : List DdrChannel
  flash      : List FlashChannel
  cxlPorts   : List Bool
  d2d        : List Nat
  regionsOut : List Nat
  eDiesOut   : List Nat
  xDieOut    : Bool
  retired    : List (UnitKind × Nat × Nat)
  sensorsOut : List Nat
  srFailing  : List (Nat × Nat)
  srFailSeen : Bool
deriving DecidableEq, Repr, Inhabited

/-! ### Start-up -/

/-- A boot directory copy (R513). -/
structure DirCopy where
  valid  : Bool
  seq    : Nat
  active : Nat
deriving DecidableEq, Repr, Inhabited

/-- Boot flash, image, firmware fetch and calibration (chapter 14). STATE: 0 LOADING, 1 LOADED, 2 NO_IMAGE. `applied` that the
starting composition is applied (step 10 of R521). -/
structure Boot where
  state       : Nat
  slotUsed    : Nat
  fallback    : Bool
  resultA     : Nat
  resultB     : Nat
  locked      : Bool
  active      : Nat
  dir0        : DirCopy
  dir1        : DirCopy
  slots       : Tbl Byte
  image       : Option Image
  imageSvn    : Nat
  fwPhase     : Nat
  fwError     : Nat
  fwAttempts  : Nat
  fwMajor     : Nat
  fwMinor     : Nat
  fwAccepted  : List Nat
  verified    : Tbl Nat
  backoffS    : Nat
  blocks      : Nat
  address     : Option Nat
  drift       : Tbl Int
  calRaised   : Bool
  calCause    : Nat
  calCount    : Nat
  fnReady     : BitVec 128
  readyN      : Bool
  readyOnce   : Bool
  applied     : Bool
deriving DecidableEq, Repr, Inhabited

/-- The RWL and RO registers whose fields the image supplies, each as its 64-bit word (R606). -/
structure Controls where
  ats      : Word
  compress : Word
  sched    : Word
  prefetch : Word
  exch     : Word
  clove    : Word
  pool     : Word
  atomic   : Word
  publish  : Word
  ifl      : Word
  cxl      : Word
  comp     : Word
  pwr      : Word
deriving DecidableEq, Repr, Inhabited

/-- The RW selection registers that act for one logical device. -/
structure LdRegs where
  tableSel  : Nat
  indexSel  : Nat
  tenantSel : Nat
  routeSel  : Nat
  poolSel   : Nat
  perfSel   : Nat
  rbsBase   : Nat
deriving DecidableEq, Repr, Inhabited

/-- A mailbox (R546, R560). -/
structure Mailbox where
  busy     : Bool
  done     : Bool
  err      : Bool
  waitFw   : Bool
  tag      : Nat
  request  : Tbl Byte
  response : Tbl Byte
deriving DecidableEq, Repr, Inhabited

/-! ### Queues, journal, accepted work -/

/-- QUEUE_STATUS.STATE (R218). -/
inductive QState where
  | unbound | running | refusing | stripping | stopped
deriving DecidableEq, Repr, Inhabited

/-- REFUSE reasons (R218). -/
inductive Refuse where
  | none | badSeq | badOpcode | reservedSet | fenced | journalDown
deriving DecidableEq, Repr, Inhabited

/-- The live state of a queue (R218) and its recovery record (R578). -/
structure Queue where
  state     : QState
  refuse    : Refuse
  accHead   : Seq48
  sqTail    : Seq48
  cqTail    : Seq48
  cqHead    : Seq48
  dbErr     : Bool
  lost      : Bool
  unbinding : Bool
  lostFirst : Seq48
  lostLast  : Seq48
  lostValid : Bool
  history   : Bool
  template  : Nat
deriving DecidableEq, Repr, Inhabited

/-- What a descriptor waits for, or received, from outside its hub's memory. -/
inductive Space where
  | store
  | host (ld : Nat)
  | tva
deriving DecidableEq, Repr, Inhabited

/-- Bytes fetched for a descriptor, or the status that the fetch ended with. -/
structure Fetched where
  space  : Space
  addr   : Nat
  status : Status
  node   : Nat
  data   : List Byte
deriving DecidableEq, Repr, Inhabited

/-- An item of a redo record (R198): bytes for a local target, bytes for a target on another node or in host memory, an
after-image that a replica or a moving shard's new copy also takes (R258, R263), a delta item or atomic for a remote owner
(R254, R370), and the places of old values that a remote owner will return: `len` bytes of slot `slot` from byte `skip`. -/
inductive RedoItem where
  | bytes (offset : Nat) (data : List Byte)
  | remote (sa : Nat) (data : List Byte)
  | host (ld hpa : Nat) (data : List Byte)
  | replica (table entry epoch sa : Nat) (data : List Byte)
  | moved (table shard sa : Nat) (data : List Byte)
  | delta (owner table part epoch op : Nat) (items : List DeltaItem)
  | atomic (owner part scope : Nat) (slots : List Nat) (entries : List AtomicEntry)
  | oldHere (slot skip len offset : Nat)
  | oldFar (slot skip len sa : Nat)
  | oldHost (slot skip len ld hpa : Nat)
deriving DecidableEq, Repr, Inhabited

/-- How far an accepted descriptor has come. `formed`: after-images formed, owners being asked (R254). -/
inductive Phase where
  | ready | waiting | formed | redoReady | applying | done
deriving DecidableEq, Repr, Inhabited

/-- Entries of a POOL descriptor that one POOL_REQ asks of an owner, and the partials once it has answered (R245). -/
structure PoolAsk where
  owner   : Nat
  part    : Nat
  entries : List PoolEntry
  answer  : Option (List Partial)
deriving DecidableEq, Repr, Inhabited

/-- What follows a completion log record (R336, R386, R476, R257, R370). -/
inductive Follow where
  | clearSlots (gran : Nat) (slots : List Nat)
  | releaseKey (key pool holder : Nat)
  | flip (region tenant writer version : Nat)
  | release (owners : List (Nat × ExHeader))
deriving DecidableEq, Repr, Inhabited

/-- An accepted descriptor without a completion: its open entry (R194), the volatile part of its run, and its redo
record (R198). `restored` that it is replayed after a flush (R212), `barred` that it named stochastic rounding while a
source failed (R114). `stale` counts the STALE_MAP meetings of each row (R233), `trowel` names the entries that read
through Trowel, `staged` the layers that stand in the staging area (R340). -/
structure Work where
  queue      : Nat
  seq        : Seq48
  desc       : Descriptor
  tenant     : Nat
  region     : Nat
  shape      : Nat
  stamp      : Nat
  replayed   : Bool
  restored   : Bool
  barred     : Bool
  singleCopy : Bool
  strip      : Bool
  phase      : Phase
  delivered  : Bool
  status     : Status
  node       : Nat
  conv       : Nat
  count      : Nat
  result     : Nat
  placed     : Nat
  cluster    : Nat
  waits      : List Nat
  acks       : List Nat
  owners     : List (Nat × Nat)
  fetched    : List Fetched
  asked      : List PoolAsk
  trowel     : List Nat
  stale      : Tbl Nat
  redo       : List RedoItem
  olds       : Tbl Nat
  guards     : List Nat
  waited     : Option Nat
  tallyBytes : Nat
  tallyPkts  : Nat
  layer      : Nat
  staged     : List Nat
  follow     : List Follow
deriving DecidableEq, Repr, Inhabited

/-- A completion log record (R195). `posted` that its record is in the completion ring. -/
structure LogRecord where
  queue  : Nat
  record : Completion
  posted : Bool
deriving DecidableEq, Repr, Inhabited

/-- The journal of one region (R202, R220). A copy that is being rebuilt is absent until it is whole. `replay` that its
content awaits its replay (R204). -/
structure Journal where
  primary    : Option Nat
  mirror     : Option Nat
  host       : Nat
  rebuilding : Bool
  replay     : Bool
  logs       : List LogRecord
deriving DecidableEq, Repr, Inhabited

/-- A receipt of a delta entry or a FABRIC atomic (R257, R370). -/
structure Receipt where
  src   : Nat
  queue : Nat
  seq   : Seq48
  part  : Nat
  flags : Nat
  status : Status
  olds  : List Nat
deriving DecidableEq, Repr, Inhabited

/-- A Strip of one sender (R213, R220). -/
structure Strip where
  busy     : Bool
  err      : Bool
  done     : Bool
  targets  : List Nat
  aborted  : Nat
  partials : Nat
  complete : Nat
deriving DecidableEq, Repr, Inhabited

/-- What a completed flush holds (R210), with the bindings that name the former SAs of the rings (R212); the receipts stand in
their delta entries (R257). -/
structure Flush where
  queues   : Tbl Queue
  binds    : Tbl QueueBind
  works    : List Work
  logs     : List (List LogRecord)
  receipts : List Receipt
deriving DecidableEq, Repr, Inhabited

/-- The power-loss flush (R210, FLUSH_STATUS); `fresh` that the area was written since this power-up. -/
structure FlushState where
  running : Bool
  done    : Bool
  last    : Nat
  area    : Option Flush
  broken  : Bool
  fresh   : Bool
deriving DecidableEq, Repr, Inhabited

/-! ### Translation -/

/-- An entry of a device TLB (R76). -/
structure TlbEntry where
  tenant : Nat
  base   : Nat
  size   : Nat
  hpa    : Nat
  write  : Bool
deriving DecidableEq, Repr, Inhabited

/-- TLB_INV of one logical device (R83, R97), with the pending work of an ATS invalidation (R86). -/
structure Invalidation where
  busy    : Bool
  err     : Bool
  tenant  : Nat
  atsDue  : Bool
deriving DecidableEq, Repr, Inhabited

/-! ### Memory and tiers -/

/-- Stored form of a 4 KiB unit (R317). -/
inductive UnitForm where
  | raw
  | pattern
  | lz (sectors : Nat)
deriving DecidableEq, Repr, Inhabited

/-- A page map entry (R316) with its unit table (R317): `forms` lists the raw and LZ units of a far or deep page, an
unlisted unit is a pattern unit; a near page lists none and is raw throughout. `unit` and `index` are LOCATION. -/
structure Page where
  owner      : Nat
  share      : Option Nat
  want       : Nat
  pooled     : Bool
  discard    : Bool
  cls        : PageClass
  lastWins   : Bool
  tier       : Tier
  phase      : PagePhase
  format     : Nat
  unit       : Nat
  index      : Nat
  lastAccess : Nat
  forms      : Tbl UnitForm
deriving DecidableEq, Repr, Inhabited

/-- A move of a page between tiers (R325), or the promotion of a deep page for a write (R323). -/
structure Move where
  page      : Nat
  tier      : Tier
  unit      : Nat
  index     : Nat
  promotion : Bool
deriving DecidableEq, Repr, Inhabited

/-- An access to memory of this hub that waits: for the promotion of a deep page (R323), for a unit that is not ready (R433), or
at a Held line (R378). -/
inductive Waiter where
  | cxlRead (ld tag offset tenant len : Nat)
  | cxlWrite (ld tag offset tenant : Nat) (data : List Byte)
  | cxlPoison (ld tag offset tenant len : Nat)
  | load (src tag offset tenant len : Nat)
  | store (src tag offset tenant : Nat) (data : List Byte)
  | work (queue : Nat) (seq : Seq48)
deriving DecidableEq, Repr, Inhabited

/-- To whom the outcome of a composition command goes: the fabric manager, the hub that forwarded it, or the composition
hub whose CHANGE it is (R444, R452, R454). -/
inductive CompReply where
  | fm
  | forward (node tag : Nat)
  | change (node changeSeq : Nat)
deriving DecidableEq, Repr, Inhabited

/-- What waits for eviction: an ALLOC_PAGES (R313), or the rings of a binding (R172). -/
inductive AllocAsk where
  | pages (who : Sender) (tag tenant count flags format cls pub : Nat)
  | ring (reply : CompReply) (queue tenant template irqLd : Nat)
deriving DecidableEq, Repr, Inhabited

/-- A wait of 10 ms for eviction. -/
structure AllocWait where
  ticket : Nat
  ask    : AllocAsk
deriving DecidableEq, Repr, Inhabited

/-- A near or far location of a scrubbed tenant's page that is not overwritten with zeros yet (R502, R504); `lost` that it
waits for its unit to return (R505). -/
structure Scrub where
  tenant : Nat
  tier   : Tier
  unit   : Nat
  index  : Nat
  lost   : Bool
deriving DecidableEq, Repr, Inhabited

/-- The store of the hub: bytes by SA offset, poisoned 64-byte units, the page map and share entries (chapter 08).
`erasing` lists, for each scrubbed tenant, the flash channel of every 2 MiB that its background erasure still owes (R503). -/
structure Store where
  mem     : List Host.Cell
  poison  : List Nat
  pages   : Tbl Page
  shares  : Tbl (List (Nat × Bool))
  moves   : List Move
  held    : List (Nat × Waiter)
  waits   : List AllocWait
  ticket  : Nat
  scrubs  : List Scrub
  erasing : Tbl (List Nat)
deriving DecidableEq, Repr, Inhabited

/-! ### Ordering and coherence -/

/-- A transaction on a Held line at its home: of a member, or of a non-member access that reads or writes (R375, R376). -/
inductive LineTx where
  | member (node tag : Nat) (request : LineRequest)
  | read (access : Waiter)
  | write (access : Waiter)
  | recall
deriving DecidableEq, Repr, Inhabited

/-- A directory entry (R373), whether its M or O holder died (R379), the transaction in progress with the nodes whose
answer it still needs, the non-member accesses that wait (R378), and when the line was last granted (R374). -/
structure DirEntry where
  state   : LineState
  owner   : Nat
  sharers : List Nat
  next    : Nat
  serve   : Nat
  lost    : Bool
  busy    : Option LineTx
  acksDue : List Nat
  waiting : List LineTx
  granted : Nat
deriving DecidableEq, Repr, Inhabited

/-- A Held line this hub holds as a member, in its far cache (R153, R375). -/
structure HeldCopy where
  node   : Nat
  line   : Nat
  tenant : Nat
  state  : LineState
  data   : List Byte
deriving DecidableEq, Repr, Inhabited

/-- A member request of this hub in progress, with the ticket of its last NACK (R378). -/
structure LineMiss where
  node    : Nat
  line    : Nat
  tenant  : Nat
  request : LineRequest
  ticket  : Option Nat
deriving DecidableEq, Repr, Inhabited

/-- A draft of a Published region, and when its lease was last renewed (R382, R389). -/
structure Draft where
  region   : Nat
  tenant   : Nat
  writer   : Nat
  granules : List Nat
  data     : List Host.Cell
  renewed  : Nat
deriving DecidableEq, Repr, Inhabited

/-- A Published region homed here (R381). -/
structure PubRegion where
  pages    : Nat
  version  : Nat
  lastWins : Bool
deriving DecidableEq, Repr, Inhabited

/-- Cached sectors of a Published region homed elsewhere, tagged by version (R387). -/
structure PubSector where
  node    : Nat
  region  : Nat
  tenant  : Nat
  sector  : Nat
  version : Nat
  data    : List Byte
deriving DecidableEq, Repr, Inhabited

/-- A tally counter (R360, R391). -/
structure TallyCounter where
  bytes   : BitVec 48
  packets : BitVec 32
  lastSeq : Seq48
  seen    : Bool
deriving DecidableEq, Repr, Inhabited

/-- Recalls of a region's directory (DIR_STATE.RECALLS): those of the 1 ms window `window`, and of the window before it. -/
structure RecallCount where
  count  : Nat
  window : Nat
  last   : Nat
deriving DecidableEq, Repr, Inhabited

/-- State of chapter 09; `recalls` the counts of each region;
`learned` the version last learned of a Published region homed elsewhere, by its FIRST_SA. -/
structure Order where
  directory : Tbl DirEntry
  grants    : Nat
  recalls   : Tbl RecallCount
  copies    : List HeldCopy
  misses    : List LineMiss
  regions   : Tbl PubRegion
  drafts    : List Draft
  sectors   : List PubSector
  learned   : Tbl Nat
  tally     : Tbl TallyCounter
deriving DecidableEq, Repr, Inhabited

/-! ### Embedding tables -/

/-- A row in the row cache: its home slice, its table and index, the owner tenant of its page, and its bytes (R148,
R151). -/
structure RowTag where
  slice : Nat
  table : Nat
  index : Nat
  owner : Nat
  off   : Nat
  len   : Nat
deriving DecidableEq, Repr, Inhabited

/-- A PREP or DELTA that this hub passed on, in parts: the holders that have not answered with the first item of each
part, and what the answers said so far (R258). -/
structure Relay where
  isDelta : Bool
  asker   : Nat
  h       : ExHeader
  missing : List (Nat × Nat)
  flags   : Nat
  status  : Status
deriving DecidableEq, Repr, Inhabited

/-- State of chapter 06 outside tables and receipts: Clove counters and counts, row-cache tags with the most recently used
first, messages that wait for a newer map, a guard or a receipt (R231, R256, R257), and messages passed on. -/
structure Embed where
  sketch   : Tbl Nat
  counts   : Tbl Nat
  rowCache : List RowTag
  held     : List Instr
  relays   : List Relay
deriving DecidableEq, Repr, Inhabited

/-! ### Fabric -/

/-- An Ifeverlink port (R424): lanes as bit masks; `replay` the FSEQs and destinations of flits not yet acknowledged, `tries`
how often the oldest of them was sent again, `retries` the flits sent again in the 1 ms window `retryWin`, `lastWin` those of
the window before it, `tagRun` the times of the latest tag failures,
`txKeys` and `rxKeys` how often the key of each direction was replaced since bring-up (R410). -/
structure IflPort where
  inService : Bool
  up        : Bool
  training  : Bool
  lanes     : Nat
  lanesOut  : Nat
  encrypted : Bool
  partner   : Nat
  txSeq     : Nat
  rxSeq     : Nat
  replay    : List (Nat × Nat)
  tries     : Nat
  credits   : List Nat
  retries   : Nat
  retryWin  : Nat
  lastWin   : Nat
  tagFail   : Nat
  tagRun    : List Nat
  session   : Nat
  txKeys    : Nat
  rxKeys    : Nat
deriving DecidableEq, Repr, Inhabited

/-- What an outstanding transaction is for. -/
inductive Await where
  | load (queue : Nat) (seq : Seq48) (row : Option Nat)
  | store (queue : Nat) (seq : Seq48)
  | tally (queue : Nat) (seq : Seq48)
  | credit (queue : Nat) (seq : Seq48)
  | check (queue : Nat) (seq : Seq48)
  | prep (queue : Nat) (seq : Seq48)
  | delta (queue : Nat) (seq : Seq48)
  | atomic (queue : Nat) (seq : Seq48) (slots : List Nat)
  | version (queue : Nat) (seq : Seq48)
  | hostRead (queue : Nat) (seq : Seq48) (ld : Nat)
  | ats (queue : Nat) (seq : Seq48) (cluster : Nat)
  | proxyRead (ld cxlTag : Nat)
  | proxyWrite (ld cxlTag : Nat)
  | shardCopy (table shard : Nat)
  | moveWrite (table shard : Nat)
  | replicaCopy (table entry : Nat)
  | replicaWrite (table entry epoch : Nat)
deriving DecidableEq, Repr, Inhabited

/-- An outstanding transaction (R419, R80): its tag, the node or port it went to, what it is for and what it names. -/
structure Outstanding where
  tag    : Nat
  node   : Nat
  await  : Await
  tenant : Nat
  addr   : Nat
  len    : Nat
  stale  : Bool
deriving DecidableEq, Repr, Inhabited

/-- A change of route in progress (R415): the destination and the VCs whose barrier is unanswered. -/
structure RouteChange where
  dest : Nat
  port : Nat
deriving DecidableEq, Repr, Inhabited

/-- State of chapter 10 outside the routes, which are composition. `heard` the members heard in the interval that runs,
`streak` how many intervals in a row each was heard in, `listing` those whose latest HEARTBEAT lists this hub (R417). -/
structure Fabric where
  ports       : List IflPort
  outstanding : List Outstanding
  nextTag     : Nat
  changing    : List RouteChange
  heard       : List Nat
  streak      : Tbl Nat
  listing     : List Nat
  seen        : List Nat
  authorities : List Nat
  identities  : Tbl (BitVec 64)
  barriers    : Tbl (List Nat)
  changes     : Nat
  authority   : Bool
deriving DecidableEq, Repr, Inhabited

/-! ### CXL -/

/-- A committed HDM decoder (R90, R431); `dpaBase` the first DPA of its range. -/
structure Decoder where
  dpaBase  : Nat
  base     : Nat
  size     : Nat
  ways     : Nat
  gran     : Nat
  position : Nat
  skip     : Nat
  locked   : Bool
deriving DecidableEq, Repr, Inhabited

/-- An event record posted to a log of a logical device (R440). -/
structure EventRecord where
  handle : Nat
  cause  : Nat
  time   : Nat
  fault  : Option FaultRecord
deriving DecidableEq, Repr, Inhabited

/-- One event log of a logical device (R440). -/
structure EventLog where
  records  : List EventRecord
  overflow : Nat
  next     : Nat
deriving DecidableEq, Repr, Inhabited

/-- The device state of one logical device (chapter 11). Logs: 0 Informational, 1 Warning, 2 Failure, 3 Fatal. `capacity` is
in bytes; `timestamp` the value that Set Timestamp gave at `stampAt`. -/
structure LogicalDevice where
  capacity   : Nat
  decoders   : Tbl Decoder
  logs       : List EventLog
  policy     : List Nat
  timestamp  : Nat
  stampAt    : Nat
  thresholds : List Nat
  scanned    : List Nat
  pendingMsi : List Nat
  early      : Nat
  heldEnded  : Nat
  qosShare   : Nat
  qosLimit   : Nat
deriving DecidableEq, Repr, Inhabited

/-- A CXL link, one half of a port (R449). `holding` that outbound traffic waits for it, `expired` that the hold counted from
its loss is over (R446), `trained` that it has been up since power-up; `broken` that its IDE failed, and `resetSince` that it
has been reset after that (R437). -/
structure CxlLink where
  up       : Bool
  width    : Nat
  rate     : Nat
  ide      : Bool
  keyed    : Bool
  broken   : Bool
  holding  : Bool
  expired  : Bool
  trained  : Bool
  resetSince : Bool
  retrains : Nat
deriving DecidableEq, Repr, Inhabited

/-- Outbound CXL.io held for a port that is down (R446). -/
inductive HeldIo where
  | write (queue : Nat) (seq : Seq48) (ld hpa : Nat) (data : List Byte)
  | read (tag ld hpa len : Nat)
  | msix (ld vector : Nat)
deriving DecidableEq, Repr, Inhabited

/-- A CXL.mem request received and not yet served (R433); `dropped` that its response goes nowhere (R445). -/
structure CxlRequest where
  tag     : Nat
  ld      : Nat
  write   : Bool
  dpa     : Nat
  len     : Nat
  dropped : Bool
deriving DecidableEq, Repr, Inhabited

/-- State of chapter 11. -/
structure Cxl where
  lds      : Tbl LogicalDevice
  links    : List CxlLink
  held     : List (Nat × HeldIo)
  requests : List CxlRequest
  qos      : Tbl Nat
deriving DecidableEq, Repr, Inhabited

/-! ### Composition -/

/-- A change that waits for the answers of other hubs, to whom its outcome goes, and the highest status answered (R454). -/
structure ChangeWait where
  changeSeq : Nat
  missing   : List Nat
  reply     : Option CompReply
  status    : Status
deriving DecidableEq, Repr, Inhabited

/-- A composition command or a CHANGE that waits for the scheduler core (R545). -/
inductive CompWait where
  | command (reply : CompReply) (cmd : CompCmd)
  | change (src changeSeq : Nat) (cmd : CompCmd)
deriving DecidableEq, Repr, Inhabited

/-- State of chapter 12. `record` is the composition record with the image hash it began under (R459),
`catchTo` the highest CHANGE_SEQ that the hub has missed (R456). -/
structure Comp where
  live       : Composition
  log        : List (Nat × CompCmd)
  record     : Option (Nat × Composition)
  acting     : Bool
  catchTo    : Nat
  gathering  : List Nat
  waits      : List ChangeWait
  forwards   : List (Nat × CompReply)
  forwardTag : Nat
  held       : List CompWait
  refused    : Bool
  refusedSeq : Nat
  bootGen    : Nat
  keys       : List KeyEntry
deriving DecidableEq, Repr, Inhabited

/-! ### Security -/

/-- A bound content range (R493): its first page, and the hash of its record. -/
structure BoundRange where
  handle    : Nat
  tenant    : Nat
  first     : Nat
  pages     : Nat
  hash      : Nat
  consumers : List Nat
deriving DecidableEq, Repr, Inhabited

/-- An SPDM connection: negotiation, handshakes and open sessions, how often session keys were replaced, and the transcript
last signed (R410, R489 to R491). -/
structure SpdmPeer where
  negotiated : Bool
  handshakes : Nat
  sessions   : Nat
  keyUpdates : Nat
  transcript : Option Nat
deriving DecidableEq, Repr, Inhabited

/-- State of chapter 13. Debug levels: 0 locked, 1 TRACE, 2 FULL; `opening` an accepted FULL token (R510). `reserved` is the end of
the window in the last LMS reservation record, `fuseBlocks` how many bits of the LMS fuse counter are set (R487). -/
structure Security where
  debug       : Nat
  opening     : Bool
  saffronOn   : Bool
  svnMin      : Tbl Nat
  ownerSet    : Nat
  revoked     : Nat
  nextLeaf    : Nat
  reserved    : Option Nat
  fuseBlocks  : Nat
  exhausted   : Bool
  lmsSigned   : List (Nat × Nat)
  skimTenant  : Nat
  skims       : List Nat
  skimDone    : Bool
  mediaKeys   : List Nat
  destroyed   : List Nat
  nonce       : BitVec 64
  power       : Nat
  coarse      : Bool
  window      : Nat
  perf        : Tbl Nat
  ranges      : List BoundRange
  spdm        : Tbl SpdmPeer
  jtag        : Nat
deriving DecidableEq, Repr, Inhabited

/-! ### Firmware and power -/

/-- CORE_STATE.STATE (R560). -/
inductive CoreRun where
  | notLoaded | running | restarting | failed
deriving DecidableEq, Repr, Inhabited

/-- A firmware core (R541, R545); `recent` the times of its restarts, newest first. -/
structure Core where
  run      : CoreRun
  cause    : Nat
  restarts : Nat
  recent   : List Nat
  record   : Nat
deriving DecidableEq, Repr, Inhabited

/-- A record of the firmware log ring (R551). -/
structure LogEntry where
  recno : Nat
  time  : Nat
  core  : Nat
  level : Nat
  point : Nat
  arg   : Nat
deriving DecidableEq, Repr, Inhabited

/-- A mailbox message that its serving core takes (R541, R549). `raw` is a request buffer submitted by GO: its core reads the
fields when it takes it. -/
inductive Message where
  | alloc (tenant count flags format cls pub : Nat)
  | free (tenant count firstSa : Nat)
  | salvage (tenant lines firstSa : Nat)
  | bindContent (tenant pages firstSa : Nat) (record : BindingRecord)
  | unbindContent (tenant handle : Nat)
  | debugUnlock (token : DebugToken)
  | imageWrite (slot offset len sa : Nat)
  | dirSet (active : Nat)
  | raw (id : Nat) (request : List Byte)
deriving DecidableEq, Repr, Inhabited

/-- State of chapter 15 and RAIL_STATE (R600). `fractions` are 64ths, 1 to 64; `shownPwr` and `shownTherm` what PWR_STATE and
THERM_STATE show while R498 applies, as of the last 100 ms window (R559). -/
structure Power where
  vddMv   : Nat
  target  : Nat
  fractions   : List Nat
  romLoop : Bool
  guard   : Bool
  hottest : List Nat
  sensor  : List Nat
  rails   : List (Nat × Nat)
  cores   : List Core
  logHead : Nat
  ring    : List LogEntry
  logHalf : Nat
  traceEn : List Word
  waiting : List (Sender × Nat × Message)
  shownPwr   : Nat
  shownTherm : List Nat
deriving DecidableEq, Repr, Inhabited

/-! ### The hub -/

/-- One hub: the commands that wait, first in first out, and every piece of state the spec gives it. `now` counts
nanoseconds since power-up, `free` the free values drawn, `outbox` what the hub has sent: these three and `pending`
are the model's own. -/
structure State where
  pending  : List Instr
  now      : Nat
  free     : Nat
  outbox   : List Out
  pins     : Pins
  faults   : Faults
  units    : Units
  boot     : Boot
  ctrl     : Controls
  ldRegs   : Tbl LdRegs
  mailbox  : Tbl Mailbox
  calSel   : Nat
  queues   : Tbl Queue
  works    : List Work
  stamp    : Nat
  journals : List Journal
  receipts : List Receipt
  strips   : Tbl Strip
  flush    : FlushState
  tlbs     : Tbl (List TlbEntry)
  invs     : Tbl Invalidation
  store    : Store
  order    : Order
  embed    : Embed
  fabric   : Fabric
  cxl      : Cxl
  comp     : Comp
  sec      : Security
  power    : Power
deriving DecidableEq, Repr

/-! ### Defaults of the sparse tables -/

/-- A queue that is bound to nothing (R171). -/
def Queue.unbound : Queue :=
  { state := .unbound, refuse := .none, accHead := 0, sqTail := 0, cqTail := 0, cqHead := 0, dbErr := false,
    lost := false, unbinding := false, lostFirst := 0, lostLast := 0, lostValid := false, history := false, template := 0 }

/-- Selection registers at reset: 0 (R268, R303, R342, R424, R477, R511, R582). -/
def LdRegs.zero : LdRegs :=
  { tableSel := 0, indexSel := 0, tenantSel := 0, routeSel := 0, poolSel := 0, perfSel := 0, rbsBase := 0 }

/-- A mailbox with no message. -/
def Mailbox.idle : Mailbox :=
  { busy := false, done := false, err := false, waitFw := false, tag := 0, request := [], response := [] }

/-- STRIP_STATUS at reset (R220). -/
def Strip.idle : Strip :=
  { busy := false, err := false, done := false, targets := [], aborted := 0, partials := 0, complete := 0 }

/-- TLB_INV_STATUS at reset (R97). -/
def Invalidation.idle : Invalidation := { busy := false, err := false, tenant := 0, atsDue := false }

/-- A logical device at reset: nothing allocated, no decoder committed, empty logs (R428, R431, R440). -/
def LogicalDevice.reset : LogicalDevice :=
  { capacity := 0, decoders := [], logs := List.replicate 4 { records := [], overflow := 0, next := 1 },
    policy := [0, 0, 0, 0], timestamp := 0, stampAt := 0, thresholds := [], scanned := [], pendingMsi := [], early := 0,
    heldEnded := 0, qosShare := 0, qosLimit := 0 }

/-- An SPDM peer that has sent nothing. -/
def SpdmPeer.fresh : SpdmPeer := { negotiated := false, handshakes := 0, sessions := 0, keyUpdates := 0, transcript := none }

/-- A tally counter at power-up (R391, R392). -/
def TallyCounter.zero : TallyCounter := { bytes := 0, packets := 0, lastSeq := 0, seen := false }

/-! ### Reset -/

/-- The routing of journal `k` at power-up: primary in stack 2k, mirror in the lowest channel of the next region. -/
def Journal.home (k : Nat) : Journal :=
  { primary := some (2 * k), mirror := some (3 * ((k + 1) % 4)), host := k, rebuilding := false,
    replay := false, logs := [] }

/-- An engine cluster at power-up. -/
def Cluster.idle : Cluster :=
  { inService := true, coreHeld := false, shape := none, inFlight := [], placed := [], draining := false }

/-- An Ifeverlink port that has not trained. -/
def IflPort.down : IflPort :=
  { inService := true, up := false, training := false, lanes := 0, lanesOut := 0, encrypted := false, partner := 0,
    txSeq := 0, rxSeq := 0, replay := [], tries := 0, credits := [0, 0, 0, 0, 0, 0, 0, 0], retries := 0, retryWin := 0, lastWin := 0, tagFail := 0,
    tagRun := [], session := 0, txKeys := 0, rxKeys := 0 }

/-- A CXL link that has not trained. -/
def CxlLink.down : CxlLink :=
  { up := false, width := 0, rate := 0, ide := false, keyed := false, broken := false, holding := false, expired := false,
    trained := false, resetSince := false, retrains := 0 }

/-- A firmware core before its file is accepted. -/
def Core.empty : Core := { run := .notLoaded, cause := 0, restarts := 0, recent := [], record := 0 }

/-- The composition of a hub that holds no image. -/
def Composition.empty : Composition :=
  { tenantBinds := [], queueBinds := [], hdm := [], quotas := [], tables := [], indexes := [], pools := [],
    routes := [], moves := [], lastSeq := 0 }

/-- IMG registers with every field at the default its register table states, or 0 (R606). LIMIT_W has no default in its
table; its image section is required, and the value of an image outside the range, 900, stands before an image is read. -/
def Controls.default : Controls :=
  { ats := BitVec.ofNat 64 (100 <<< 16), compress := 0, sched := BitVec.ofNat 64 (200 + (4 <<< 16)),
    prefetch := BitVec.ofNat 64 (64 <<< 8), exch := BitVec.ofNat 64 (40 <<< 16), clove := 0,
    pool := BitVec.ofNat 64 (32 + (64 <<< 10) + (2 <<< 20) + (100 <<< 24)), atomic := 0,
    publish := BitVec.ofNat 64 10000, ifl := BitVec.ofNat 64 16,
    cxl := BitVec.ofNat 64 ((4000 <<< 16) + (1000 <<< 32)), comp := BitVec.ofNat 64 (4 + (10 <<< 16)),
    pwr := BitVec.ofNat 64 (900 + (850 <<< 16) + (100 <<< 32)) }

/-- Empty rings and clear FAULT_SUMMARY (R566, R582). -/
def Faults.clear : Faults :=
  { rings := List.replicate 4 { next := 0, overwritten := 0, records := [] }, fault := false, alert := false, worst := 0 }

/-- The largest fit of R332 and R333: the board that the reset state stands on. -/
def Board.largest : Board :=
  { ddr := List.replicate 12 { dimms := 2, ranks := 4, speed := 2, gib := 512, ok := true },
    flash := List.replicate 32 { luns := 32, tbit := true, ok := true } }

/-- Every unit built and fitted in service, as the board populates it (R21, R23, R332, R333). -/
def Units.fitted (b : Board) : Units :=
  { clusters := List.replicate 32 Cluster.idle,
    hbm := List.replicate 8 true, hbmStart := List.replicate 8 true,
    ddr := b.ddr.map (fun f => { fit := f, inService := f.ok && f.dimms != 0 }),
    flash := b.flash.map (fun f => { fit := f, inService := f.ok && f.luns != 0, lanesUp := 4 }),
    cxlPorts := List.replicate 4 true,
    d2d := [11, 11, 11, 11, 11, 11, 11, 11, 6, 6, 8],
    regionsOut := [], eDiesOut := [], xDieOut := false, retired := [], sensorsOut := [], srFailing := [],
    srFailSeen := false }

/-- The hub right after power-up: step 2 of R521 done on a hub that was never powered before, no image read yet. -/
def State.reset : State :=
  { pending := [], now := 0, free := 1, outbox := [],
    pins := { pwrGood := true, hubResetN := true, pwrFailN := true, pwrFailSeen := false, resetLatched := false,
              slotId := 0, thermtrip := false, released := true, failing := false, slotLive := 0, resetPin := true, perst := [] },
    faults := Faults.clear,
    units := Units.fitted Board.largest,
    boot := { state := 0, slotUsed := 0, fallback := false, resultA := 0, resultB := 0, locked := false, active := 0,
              dir0 := { valid := false, seq := 0, active := 0 }, dir1 := { valid := false, seq := 0, active := 0 },
              slots := [], image := none, imageSvn := 0, fwPhase := 0, fwError := 0, fwAttempts := 0, fwMajor := 0,
              fwMinor := 0, fwAccepted := [], verified := [], backoffS := 1, blocks := 0, address := none, drift := [],
              calRaised := false, calCause := 0, calCount := 0, fnReady := 0, readyN := false, readyOnce := false,
              applied := false },
    ctrl := Controls.default,
    ldRegs := [], mailbox := [], calSel := 0,
    queues := [], works := [], stamp := 0,
    journals := [Journal.home 0, Journal.home 1, Journal.home 2, Journal.home 3],
    receipts := [], strips := [],
    flush := { running := false, done := false, last := 0, area := none, broken := false, fresh := false },
    tlbs := [], invs := [],
    store := { mem := [], poison := [], pages := [], shares := [], moves := [], held := [], waits := [], ticket := 0,
               scrubs := [], erasing := [] },
    order := { directory := [], grants := 0, recalls := [], copies := [], misses := [], regions := [], drafts := [],
               sectors := [], learned := [], tally := [] },
    embed := { sketch := [], counts := [], rowCache := [], held := [], relays := [] },
    fabric := { ports := List.replicate 12 IflPort.down, outstanding := [], nextTag := 0, changing := [],
                heard := [], streak := [], listing := [], seen := [], authorities := [], identities := [], barriers := [], changes := 0,
                authority := false },
    cxl := { lds := [], links := List.replicate 8 CxlLink.down, held := [], requests := [], qos := [] },
    comp := { live := Composition.empty, log := [], record := none, acting := false, catchTo := 0,
              gathering := [], waits := [], forwards := [], forwardTag := 0, held := [], refused := false,
              refusedSeq := 0, bootGen := 1, keys := [] },
    sec := { debug := 0, opening := false, saffronOn := false, svnMin := [], ownerSet := 0, revoked := 0, nextLeaf := 2 ^ 30,
             reserved := none, fuseBlocks := 1, exhausted := false, lmsSigned := [], skimTenant := 0, skims := [],
             skimDone := false, mediaKeys := [], destroyed := [], nonce := Config.nonce 0, power := 0,
             coarse := false, window := 0, perf := [], ranges := [], spdm := [], jtag := 1 },
    power := { vddMv := 750, target := 750, fractions := [64, 64, 64, 64], romLoop := true, guard := false,
               hottest := [0, 0, 0, 0], sensor := [0, 12, 24, 36], rails := [],
               cores := List.replicate 35 Core.empty, logHead := 0, ring := [], logHalf := 0,
               traceEn := List.replicate 8 0, waiting := [], shownPwr := 0, shownTherm := [0, 0, 0, 0] } }

end Sys2Proof.Machine
end

