-- ==== Sys2Proof/Machine/Tables.lean ====
section
/-! DEFINITION. Sparse tables, bit fields and byte strings: the plain data operations that the meanings share. All of
them recurse on the structure of a list, so that the kernel can evaluate them. -/

namespace Sys2Proof

/-- The entry of a table at a key, if there is one. -/
def Tbl.find {α : Type} : Tbl α → Nat → Option α
  | [], _ => none
  | (k, v) :: t, key => if k == key then some v else Tbl.find t key

/-- The entry of a table at a key, or the default of an absent one. -/
def Tbl.at {α : Type} (t : Tbl α) (key : Nat) (default : α) : α := (Tbl.find t key).getD default

/-- Sets the entry at a key, in key order. -/
def Tbl.put {α : Type} : Tbl α → Nat → α → Tbl α
  | [], key, v => [(key, v)]
  | (k, w) :: t, key, v =>
    if key < k then (key, v) :: (k, w) :: t
    else if key == k then (key, v) :: t
    else (k, w) :: Tbl.put t key v

/-- Removes the entry at a key. -/
def Tbl.del {α : Type} (t : Tbl α) (key : Nat) : Tbl α := t.filter (fun e => e.1 != key)

/-- Whether a key has an entry. -/
def Tbl.has {α : Type} (t : Tbl α) (key : Nat) : Bool := (Tbl.find t key).isSome

/-- Changes the entry at a key, an absent one from its default. -/
def Tbl.change {α : Type} (t : Tbl α) (key : Nat) (default : α) (f : α → α) : Tbl α :=
  Tbl.put t key (f (Tbl.at t key default))

/-- Changes the entry at a key if there is one. -/
def Tbl.alter {α : Type} (t : Tbl α) (key : Nat) (f : α → α) : Tbl α :=
  t.map (fun e => if e.1 == key then (e.1, f e.2) else e)

/-- The keys of a table rise strictly. -/
def Tbl.sorted {α : Type} : Tbl α → Bool
  | [] => true
  | [_] => true
  | a :: b :: t => decide (a.1 < b.1) && Tbl.sorted (b :: t)

/-- Bits [lo+n−1:lo] of a number (R8). -/
def bits (w lo n : Nat) : Nat := (w >>> lo) % 2 ^ n

/-- One bit of a number. -/
def bit (w lo : Nat) : Bool := bits w lo 1 == 1

/-- A number with bits [lo+n−1:lo] replaced. -/
def setBits (w lo n v : Nat) : Nat :=
  w - (bits w lo n <<< lo) + ((v % 2 ^ n) <<< lo)

/-- 1 for true. -/
def flag (b : Bool) : Nat := if b then 1 else 0

/-- A field of `n` bits placed at `lo`. -/
def field (v lo n : Nat) : Nat := (v % 2 ^ n) <<< lo

/-- The number that a little-endian byte string spells (R9). -/
def leNat : List Byte → Nat
  | [] => 0
  | b :: t => b.toNat + 256 * leNat t

/-- The little-endian byte string of a number (R9). -/
def leBytes : Nat → Nat → List Byte
  | 0, _ => []
  | n + 1, w => BitVec.ofNat 8 w :: leBytes n (w / 256)

/-- `n` zero bytes. -/
def zeros (n : Nat) : List Byte := List.replicate n 0

/-- `n` bytes of ones. -/
def ones (n : Nat) : List Byte := List.replicate n 0xFF

/-- The bit mask of a list of Booleans, element `i` in bit `i`. -/
def maskOf : List Bool → Nat
  | [] => 0
  | b :: t => flag b + 2 * maskOf t

/-- The sum of a list. -/
def sumNat (l : List Nat) : Nat := l.foldl (· + ·) 0

/-- The greatest of a list, 0 of none. -/
def maxNat (l : List Nat) : Nat := l.foldl max 0

/-- The first `some` that a function gives on a list. -/
def firstSome {α β : Type} (f : α → Option β) : List α → Option β
  | [] => none
  | a :: t => match f a with
    | some b => some b
    | none => firstSome f t

/-- Element of a list by the greatest key, the first of equals (R305 and the like). -/
def bestBy {α : Type} (key : α → Nat) : List α → Option α
  | [] => none
  | a :: t => match bestBy key t with
    | none => some a
    | some b => if key b > key a then some b else some a

/-- Element of a list by the least key, the first of equals. -/
def leastBy {α : Type} (key : α → Nat) : List α → Option α
  | [] => none
  | a :: t => match leastBy key t with
    | none => some a
    | some b => if key b < key a then some b else some a

/-- Inserts in an order given by a strict comparison, after equals. -/
def insertBy {α : Type} (lt : α → α → Bool) (a : α) : List α → List α
  | [] => [a]
  | b :: t => if lt a b then a :: b :: t else b :: insertBy lt a t

/-- Sorts by a strict comparison; equals keep their order. -/
def sortBy {α : Type} (lt : α → α → Bool) (l : List α) : List α :=
  l.foldl (fun acc a => insertBy lt a acc) []

/-- A list without repeats, first occurrences kept. -/
def dedup (l : List Nat) : List Nat :=
  l.foldl (fun acc a => if acc.contains a then acc else acc ++ [a]) []

/-- Cuts a list into pieces of `n` elements; `fuel` bounds the number of pieces. -/
def chunks {α : Type} (n : Nat) : Nat → List α → List (List α)
  | 0, _ => []
  | _ + 1, [] => []
  | fuel + 1, l => l.take n :: chunks n fuel (l.drop n)

/-- The index of the first element that a test takes. -/
def indexOf? {α : Type} (p : α → Bool) (l : List α) : Option Nat :=
  let i := l.takeWhile (fun a => !p a) |>.length
  if i < l.length then some i else none

/-- All but the last element bound: the last `n` elements of a list. -/
def takeLast {α : Type} (n : Nat) (l : List α) : List α := l.drop (l.length - n)

end Sys2Proof

namespace Sys2Proof.Machine

open Sys2Proof

/-! ### Byte memory in canonical form -/

/-- The byte at an address; an unlisted address reads 0 (R314). -/
def memByte : List Host.Cell → Nat → Byte
  | [], _ => 0
  | (k, b) :: t, a => if k == a then b else memByte t a

/-- Sets the byte at an address and keeps the canonical form: a zero byte is not listed. -/
def memPut : List Host.Cell → Nat → Byte → List Host.Cell
  | [], a, b => if b == 0 then [] else [(a, b)]
  | (k, c) :: t, a, b =>
    if a < k then (if b == 0 then (k, c) :: t else (a, b) :: (k, c) :: t)
    else if a == k then (if b == 0 then t else (a, b) :: t)
    else (k, c) :: memPut t a b

/-- `n` bytes from an address. -/
def memRead (m : List Host.Cell) : Nat → Nat → List Byte
  | _, 0 => []
  | a, n + 1 => memByte m a :: memRead m (a + 1) n

/-- Writes a byte string from an address. -/
def memWrite (m : List Host.Cell) : Nat → List Byte → List Host.Cell
  | _, [] => m
  | a, b :: t => memWrite (memPut m a b) (a + 1) t

/-- The listed bytes outside a range: the range then reads 0. -/
def memClear (m : List Host.Cell) (a n : Nat) : List Host.Cell :=
  m.filter (fun c => c.1 < a || a + n ≤ c.1)

/-- The canonical form: addresses strictly rising, no listed zero. -/
def Memory.wf : List Host.Cell → Bool
  | [] => true
  | [c] => c.2 != 0
  | a :: b :: t => a.2 != 0 && decide (a.1 < b.1) && Memory.wf (b :: t)

end Sys2Proof.Machine
end

