-- ==== Sys2Proof/Machine/Flags.lean ====
section
/-! DEFINITION. The conversion flags of a descriptor (R123): each is one bit of CONV_FLAGS, collected by a sticky OR. -/

namespace Sys2Proof.Machine

open Sys2Proof

/-- OVF_SAT: a finite value saturated. -/
def ovfSat : Nat := 1

/-- INF_LOST: an infinity became a finite value or part of a NaN block or row. -/
def infLost : Nat := 2

/-- NAN_LOST: a NaN became a value other than NaN. -/
def nanLost : Nat := 4

/-- UNDERFLOW: a nonzero finite value became zero. -/
def underflow : Nat := 8

/-- BLOCK_NAN: an MX32 or ROW scale was written as NaN. -/
def blockNan : Nat := 16

/-- ACC_INF: an accumulation produced an infinity from finite inputs. -/
def accInf : Nat := 32

/-- A flag where a condition holds. -/
def flagIf (b : Bool) (f : Nat) : Nat := if b then f else 0

/-- The sticky OR of flags (R123). -/
def orFlags (l : List Nat) : Nat := l.foldl (· ||| ·) 0

end Sys2Proof.Machine
end

