-- ==== Sys2Proof/Machine/Formats.lean ====
section
/-! DEFINITION. Number formats, scale modes, rounding and FP32 arithmetic (chapter 03), exactly: every value is a dyadic
rational, an infinity or a NaN, and rounding happens where a rule says so. -/

namespace Sys2Proof.Machine

open Sys2Proof

/-- A value: a NaN with its sign bit, an infinity, or (−1)^neg × m × 2^e. -/
inductive Num where
  | nan (neg : Bool)
  | inf (neg : Bool)
  | fin (neg : Bool) (m : Nat) (e : Int)
deriving DecidableEq, Repr, Inhabited

/-- +0. -/
def Num.zero : Num := .fin false 0 0

/-- +1. -/
def Num.one : Num := .fin false 1 0

/-- A natural number, exactly. -/
def Num.ofNat (n : Nat) : Num := .fin false n 0

/-- Rounding modes (R104, R112): SR with the 16 bits that its lane draws. -/
inductive Rnd where
  | rne
  | rtz
  | sr (draw : Nat)

/-- A floating-point format: width, mantissa bits, exponent of the smallest normal, largest finite magnitude code,
canonical NaN and infinity codes (R98, R99, R101). -/
structure FpFormat where
  width  : Nat
  mbits  : Nat
  emin   : Int
  maxMag : Nat
  nan    : Option Nat
  inf    : Option Nat

/-- The floating-point formats by code (R98). -/
def fpFormat (code : Nat) : FpFormat :=
  if code == 0 then { width := 32, mbits := 23, emin := -126, maxMag := 0x7F7FFFFF, nan := some 0x7FC00000, inf := some 0x7F800000 }
  else if code == 1 then { width := 16, mbits := 7, emin := -126, maxMag := 0x7F7F, nan := some 0x7FC0, inf := some 0x7F80 }
  else if code == 2 then { width := 16, mbits := 10, emin := -14, maxMag := 0x7BFF, nan := some 0x7E00, inf := some 0x7C00 }
  else if code == 3 then { width := 8, mbits := 3, emin := -6, maxMag := 0x7E, nan := some 0x7F, inf := none }
  else if code == 4 then { width := 8, mbits := 2, emin := -14, maxMag := 0x7B, nan := some 0x7E, inf := some 0x7C }
  else if code == 5 then { width := 6, mbits := 2, emin := -2, maxMag := 0x1F, nan := none, inf := none }
  else if code == 6 then { width := 6, mbits := 3, emin := 0, maxMag := 0x1F, nan := none, inf := none }
  else { width := 4, mbits := 1, emin := 0, maxMag := 0x7, nan := none, inf := none }

/-- Width of an element format in bits (R98). -/
def elemWidth (code : Nat) : Nat :=
  if code == 8 then 8 else if code == 9 then 4 else if code == 10 then 1 else (fpFormat code).width

/-- Largest and (negated) smallest integer of an integer format (R99). -/
def intMax (code : Nat) : Nat := if code == 8 then 127 else 7
def intMin (code : Nat) : Nat := if code == 8 then 128 else 8

/-! ### Rounding -/

/-- m / 2^sh rounded to an integer (R112). -/
def roundShift (rnd : Rnd) (m sh : Nat) : Nat :=
  let lo := m >>> sh
  let rem := m - (lo <<< sh)
  match rnd with
  | .rne => if 2 * rem > 2 ^ sh then lo + 1 else if 2 * rem == 2 ^ sh && lo % 2 == 1 then lo + 1 else lo
  | .rtz => lo
  | .sr draw => if draw < ((rem <<< 16) >>> sh) then lo + 1 else lo

/-- m × 2^e rounded to an integer multiple of 2^q. -/
def roundAt (rnd : Rnd) (m : Nat) (e q : Int) : Nat :=
  if q ≤ e then m <<< (e - q).toNat else roundShift rnd m (q - e).toNat

/-- The exponent of the last place kept of m × 2^e in a format. -/
def lastPlace (f : FpFormat) (m : Nat) (e : Int) : Int :=
  max ((Nat.log2 m : Int) + e - f.mbits) (f.emin - f.mbits)

/-- Magnitude code of n × 2^q, where n has at most mbits + 2 bits. -/
def magCode (f : FpFormat) (n : Nat) (q : Int) : Nat :=
  if n < 2 ^ f.mbits then n
  else if n < 2 ^ (f.mbits + 1) then ((q + f.mbits - f.emin + 1).toNat <<< f.mbits) + (n - 2 ^ f.mbits)
  else ((q + f.mbits - f.emin + 2).toNat <<< f.mbits) + (n / 2 - 2 ^ f.mbits)

/-- Magnitude code of a finite nonzero value rounded into a format, with no bound. -/
def roundMag (f : FpFormat) (rnd : Rnd) (m : Nat) (e : Int) : Nat :=
  let q := lastPlace f m e
  magCode f (roundAt rnd m e q) q

/-- The value of a finite magnitude code. -/
def magValue (f : FpFormat) (neg : Bool) (mag : Nat) : Num :=
  let ex := mag >>> f.mbits
  let mant := mag % 2 ^ f.mbits
  if ex == 0 then .fin neg mant (f.emin - f.mbits)
  else .fin neg (mant + 2 ^ f.mbits) (f.emin - f.mbits + ex - 1)

/-! ### Decoding and encoding elements -/

/-- The value of an element (R98, R99, R122). -/
def decodeElem (code w : Nat) : Num :=
  if code == 8 ∨ code == 9 then
    let n := 2 ^ (elemWidth code - 1)
    if w < n then .fin false w 0 else .fin true (2 * n - w) 0
  else if code == 10 then .fin (w == 0) 1 0
  else
    let f := fpFormat code
    let neg := bit w (f.width - 1)
    let mag := w % 2 ^ (f.width - 1)
    if mag ≤ f.maxMag then magValue f neg mag
    else if f.inf == some mag then .inf neg else .nan neg

/-- An element with its sign bit. -/
def signed (f : FpFormat) (neg : Bool) (mag : Nat) : Nat := mag + (flag neg <<< (f.width - 1))

/-- Two's complement code of an integer magnitude that fits. -/
def intCode (code : Nat) (neg : Bool) (n : Nat) : Nat :=
  if neg then (2 ^ elemWidth code - n) % 2 ^ elemWidth code else n

/-- A value encoded into an element format, with the flags it raises (R117 to R122). -/
def encodeElem (code : Nat) (rnd : Rnd) (x : Num) : Nat × Nat :=
  if code == 10 then
    match x with
    | .nan neg => (flag (!neg), nanLost)
    | .inf neg => (flag (!neg), infLost)
    | .fin neg _ _ => (flag (!neg), 0)
  else if code == 8 ∨ code == 9 then
    match x with
    | .nan _ => (0, nanLost)
    | .inf neg => (intCode code neg (if neg then intMin code else intMax code), infLost)
    | .fin neg m e =>
      let n := roundAt rnd m e 0
      let lim := if neg then intMin code else intMax code
      if lim < n then (intCode code neg lim, ovfSat)
      else (intCode code neg n, flagIf (n == 0 && m != 0) underflow)
  else
    let f := fpFormat code
    match x with
    | .nan _ => match f.nan with
      | some c => (c, 0)
      | none => (0, nanLost)
    | .inf neg => match f.inf with
      | some c => (signed f neg c, 0)
      | none => (signed f neg f.maxMag, infLost)
    | .fin neg m e =>
      if m == 0 then (signed f neg 0, 0)
      else
        let mag := roundMag f rnd m e
        if f.maxMag < mag then (signed f neg f.maxMag, ovfSat)
        else (signed f neg mag, flagIf (mag == 0) underflow)

/-! ### FP32 arithmetic (R125) -/

/-- FP32 bits of a value that FP32 holds. -/
def toFp32 (x : Num) : Nat := (encodeElem 0 .rne x).1

/-- The value of FP32 bits. -/
def ofFp32 (w : Nat) : Num := decodeElem 0 w

/-- m × 2^e rounded to FP32 by RNE; a value beyond the range becomes an infinity. -/
def round32 (neg : Bool) (m : Nat) (e : Int) : Num :=
  if m == 0 then .fin neg 0 0
  else
    let f := fpFormat 0
    let mag := roundMag f .rne m e
    if f.maxMag < mag then .inf neg else magValue f neg mag

/-- The signed integer of a finite value at an exponent not above its own. -/
def alignAt (neg : Bool) (m : Nat) (e at_ : Int) : Int :=
  let n : Int := (m <<< (e - at_).toNat : Nat)
  if neg then -n else n

/-- An exact sum, as a value that FP32 need not hold; a zero sum is −0 only of two −0. -/
def addExact (a b : Num) : Num :=
  match a, b with
  | .nan _, _ => .nan false
  | _, .nan _ => .nan false
  | .inf x, .inf y => if x == y then .inf x else .nan false
  | .inf x, _ => .inf x
  | _, .inf y => .inf y
  | .fin x m d, .fin y n e =>
    let q := min d e
    let z := alignAt x m d q + alignAt y n e q
    if z == 0 then .fin (if m == 0 && n == 0 then x && y else false) 0 0
    else .fin (decide (z < 0)) z.natAbs q

/-- An exact product. -/
def mulExact (a b : Num) : Num :=
  match a, b with
  | .nan _, _ => .nan false
  | _, .nan _ => .nan false
  | .inf x, .inf y => .inf (x != y)
  | .inf x, .fin y n _ => if n == 0 then .nan false else .inf (x != y)
  | .fin x m _, .inf y => if m == 0 then .nan false else .inf (x != y)
  | .fin x m d, .fin y n e => .fin (x != y) (m * n) (d + e)

/-- A value rounded to FP32. -/
def fp32 (x : Num) : Num :=
  match x with
  | .fin neg m e => round32 neg m e
  | y => y

/-- Each addition rounded once. -/
def fadd (a b : Num) : Num := fp32 (addExact a b)

/-- Negation, exact. -/
def fneg : Num → Num
  | .nan n => .nan n
  | .inf n => .inf (!n)
  | .fin n m e => .fin (!n) m e

/-- Difference, rounded once. -/
def fsub (a b : Num) : Num := fadd a (fneg b)

/-- Product, rounded once. -/
def fmul (a b : Num) : Num := fp32 (mulExact a b)

/-- Fused multiply-add, rounded once. -/
def ffma (a b c : Num) : Num := fp32 (addExact (mulExact a b) c)

/-- m / n as a value with the quotient's leading bits and a last bit that stands for the rest: rounding it to 24 bits by
RNE, or up to 11 bits in any direction, rounds the quotient. -/
def quotient (neg : Bool) (m : Nat) (d : Int) (n : Nat) (e : Int) : Num :=
  let k := 40 + Nat.log2 n
  let q := (m <<< k) / n
  let rem := (m <<< k) - q * n
  .fin neg (2 * q + flag (rem != 0)) (d - e - k - 1)

/-- An exact quotient, up to what rounding can tell. -/
def divExact (a b : Num) : Num :=
  match a, b with
  | .nan _, _ => .nan false
  | _, .nan _ => .nan false
  | .inf _, .inf _ => .nan false
  | .inf x, .fin y _ _ => .inf (x != y)
  | .fin x _ _, .inf y => .fin (x != y) 0 0
  | .fin x m d, .fin y n e =>
    if n == 0 then (if m == 0 then .nan false else .inf (x != y))
    else if m == 0 then .fin (x != y) 0 0 else quotient (x != y) m d n e

/-- Quotient, rounded once. -/
def fdiv (a b : Num) : Num := fp32 (divExact a b)

/-- Whether a is below b; −0 is below +0, and a NaN compares with nothing. -/
def numLt (a b : Num) : Bool :=
  match a, b with
  | .nan _, _ => false
  | _, .nan _ => false
  | .inf x, .inf y => x && !y
  | .inf x, .fin _ _ _ => x
  | .fin _ _ _, .inf y => !y
  | .fin x m d, .fin y n e =>
    if m == 0 && n == 0 then x && !y
    else decide (alignAt x m d (min d e) < alignAt y n e (min d e))

/-- IEEE 754 maximum: NaN of any NaN, +0 above −0 (R125). -/
def fmax (a b : Num) : Num :=
  match a, b with
  | .nan _, _ => .nan false
  | _, .nan _ => .nan false
  | x, y => if numLt x y then y else x

/-- The magnitude of a value. -/
def fabs : Num → Num
  | .nan _ => .nan false
  | .inf _ => .inf false
  | .fin _ m e => .fin false m e

/-- Whether a value is finite. -/
def isFin : Num → Bool
  | .fin .. => true
  | _ => false

/-- Whether a value is zero. -/
def isZero : Num → Bool
  | .fin _ m _ => m == 0
  | _ => false

/-- ACC_INF of one accumulation step: an infinity from finite inputs. -/
def accFlag (r : Num) (inputs : List Num) : Nat :=
  match r with
  | .inf _ => flagIf (inputs.all isFin) accInf
  | _ => 0

/-! ### Format selectors and row layout (R102 to R105) -/

/-- FMT, SCALE and RND of a format selector (R104). -/
def selFmt (sel : Nat) : Nat := bits sel 0 4
def selScale (sel : Nat) : Nat := bits sel 4 2
def selRnd (sel : Nat) : Nat := bits sel 6 2

/-- The checks of R105 on a selector of rows of n elements. -/
def selOk (sel : Nat) (dest : Bool) (n : Nat) (srFail : Bool) : Bool :=
  decide (selFmt sel ≤ 10) && selScale sel != 3
    && !(dest && selRnd sel == 3)
    && !(selScale sel != 0 && (decide (selFmt sel ≤ 2) || selFmt sel == 10))
    && !(selScale sel == 1 && n % 32 != 0)
    && !(dest && selRnd sel == 2 && srFail)

/-- Bytes of the scale prefix of a row (R103). -/
def prefixBytes (sel n : Nat) : Nat := if selScale sel == 1 then n / 32 else if selScale sel == 2 then 4 else 0

/-- Bytes of a row's prefix and elements, before padding. -/
def rowBytes (sel n : Nat) : Nat := prefixBytes sel n + (elemWidth (selFmt sel) * n + 7) / 8

/-- Stored size of a row (R103). -/
def storedSize (sel n : Nat) : Nat := (rowBytes sel n + 7) / 8 * 8

/-- Elements packed into a number, element 0 lowest (R102). -/
def packElems (w : Nat) : List Nat → Nat
  | [] => 0
  | x :: t => x % 2 ^ w + (packElems w t <<< w)

/-- Elements of a packed number (R102). -/
def unpackElems (w : Nat) : Nat → Nat → List Nat
  | 0, _ => []
  | n + 1, x => x % 2 ^ w :: unpackElems w n (x >>> w)

/-- The rounding mode of a selector, with the draw for element i of a conversion (R113). -/
def rndOf (sel base i : Nat) : Rnd :=
  if selRnd sel == 1 then .rtz
  else if selRnd sel == 2 then .sr (Config.srDraw (base + i)).toNat
  else .rne

/-! ### Decoding a row -/

/-- The value 2^(e−127) × v under MX32 (R107, R109), with the flags of the decode. -/
def mxValue (code e w : Nat) : Num × Nat :=
  if e == 255 then (.nan false, 0)
  else
    let shift : Int := if code == 8 then -6 else if code == 9 then -2 else 0
    match decodeElem code w with
    | .fin neg m d =>
      if m == 0 then (.fin neg 0 0, 0)
      else
        let ex := d + shift + (e : Int) - 127
        let f := fpFormat 0
        let mag := roundMag f .rne m ex
        if f.maxMag < mag then (magValue f neg f.maxMag, ovfSat)
        else (magValue f neg mag, flagIf (mag == 0) underflow)
    | y => (y, 0)

/-- The elements of a stored row as FP32 values, with the flags of the decode (R107 to R110). -/
def decodeRow (sel n : Nat) (bytes : List Byte) : List Num × Nat :=
  let code := selFmt sel
  let w := elemWidth code
  let elems := unpackElems w n (leNat ((bytes.drop (prefixBytes sel n)).take ((w * n + 7) / 8)))
  if selScale sel == 1 then
    let vals := (List.range n).map (fun i => mxValue code ((bytes[i / 32]?).getD 0).toNat ((elems[i]?).getD 0))
    (vals.map (·.1), orFlags (vals.map (·.2)))
  else if selScale sel == 2 then
    let sc := decodeElem 2 (leNat (bytes.take 2))
    let bi := decodeElem 2 (leNat ((bytes.drop 2).take 2))
    (elems.map (fun x => ffma sc (decodeElem code x) bi), 0)
  else (elems.map (decodeElem code), 0)

/-! ### Encoding a row -/

/-- Exponent of the largest binade of a format under MX32 (R108). -/
def emaxOf (code : Nat) : Int :=
  if code == 3 then 8 else if code == 4 then 15 else if code == 5 then 4 else if code == 6 then 2 else if code == 7 then 2 else 0

/-- A value times 2^k, exactly. -/
def scaleBy (x : Num) (k : Int) : Num :=
  match x with
  | .fin neg m e => .fin neg m (e + k)
  | y => y

/-- The greatest magnitude of finite values. -/
def amaxOf (l : List Num) : Num := l.foldl (fun a x => fmax a (fabs x)) .zero

/-- floor(log2) of a nonzero finite magnitude. -/
def log2Num : Num → Int
  | .fin _ m e => (Nat.log2 m : Int) + e
  | _ => 0

/-- Flags of values that become part of a NaN block or row. -/
def nanBlockFlags (l : List Num) : Nat :=
  blockNan ||| flagIf (l.any (fun x => match x with | .inf _ => true | _ => false)) infLost

/-- Encodes a block under MX32: its scale byte, its element codes, the flags (R108). -/
def encodeBlock (code : Nat) (rnd : Nat → Rnd) (vals : List Num) : Nat × List Nat × Nat :=
  if vals.any (fun x => !isFin x) then (255, vals.map (fun _ => 0), nanBlockFlags vals)
  else
    let amax := amaxOf vals
    let x : Int := if isZero amax then -127 else max (log2Num amax - emaxOf code) (-127)
    let up : Int := if code == 8 then 6 else if code == 9 then 2 else 0
    let es := (List.range vals.length).map (fun i => encodeElem code (rnd i) (scaleBy ((vals[i]?).getD .zero) (up - x)))
    ((x + 127).toNat, es.map (·.1), orFlags (es.map (·.2)))

/-- FP16 code of a value rounded toward +∞; beyond ±65,504 it saturates (R111). -/
def roundUpFp16 (x : Num) : Nat × Nat :=
  let f := fpFormat 2
  match x with
  | .nan _ => (0x7E00, 0)
  | .inf neg => (signed f neg f.maxMag, ovfSat)
  | .fin neg m e =>
    if m == 0 then (signed f neg 0, 0)
    else
      let q := lastPlace f m e
      let exact := decide (q ≤ e) || (m >>> (q - e).toNat) <<< (q - e).toNat == m
      let lo := roundAt .rtz m e q
      let mag := magCode f (if exact || neg then lo else lo + 1) q
      if f.maxMag < mag then (signed f neg f.maxMag, ovfSat) else (signed f neg mag, 0)

/-- FP16 code of a value rounded by RNE; beyond ±65,504 it saturates, and a nonzero value that rounds to zero sets UNDERFLOW
(R111, R119). -/
def rneFp16 (x : Num) : Nat × Nat :=
  match x with
  | .inf neg => (signed (fpFormat 2) neg 0x7BFF, ovfSat)
  | y => encodeElem 2 .rne y

/-- The least of values. -/
def minOf (l : List Num) : Num :=
  match l with
  | [] => .zero
  | a :: t => t.foldl (fun m x => if numLt x m then x else m) a

/-- The greatest of values. -/
def maxOf (l : List Num) : Num :=
  match l with
  | [] => .zero
  | a :: t => t.foldl (fun m x => if numLt m x then x else m) a

/-- Encodes a row under ROW: its scale and bias, its element codes, the flags (R111). -/
def encodeRowMode (code : Nat) (rnd : Nat → Rnd) (vals : List Num) : Nat × Nat × List Nat × Nat :=
  if vals.any (fun x => !isFin x) then (0x7E00, 0, vals.map (fun _ => 0), nanBlockFlags vals)
  else if code == 8 ∨ code == 9 then
    let mn := minOf vals
    let mx := maxOf vals
    let sc := roundUpFp16 (fdiv (fsub mx mn) (Num.ofNat (intMax code + intMin code)))
    let scale := decodeElem 2 sc.1
    let bi := rneFp16 (fsub mn (fmul scale (.fin true (intMin code) 0)))
    let bias := decodeElem 2 bi.1
    let qs := (List.range vals.length).map (fun i =>
      if isZero scale then 0
      else (encodeElem code (rnd i) (fdiv (fsub ((vals[i]?).getD .zero) bias) scale)).1)
    (sc.1, bi.1, qs, sc.2 ||| bi.2)
  else
    let sc := roundUpFp16 (fdiv (amaxOf vals) (magValue (fpFormat code) false (fpFormat code).maxMag))
    let scale := decodeElem 2 sc.1
    let es := (List.range vals.length).map (fun i =>
      if isZero scale then (0, 0) else encodeElem code (rnd i) (fdiv ((vals[i]?).getD .zero) scale))
    (sc.1, 0, es.map (·.1), sc.2 ||| orFlags (es.map (·.2)))

/-- A row of FP32 values encoded by a selector, with its flags; element i draws from `base + i` under SR (R103, R115). -/
def encodeRow (sel base : Nat) (vals : List Num) : List Byte × Nat :=
  let code := selFmt sel
  let n := vals.length
  let w := elemWidth code
  let body (es : List Nat) : List Byte := leBytes ((w * n + 7) / 8) (packElems w es)
  let r : List Byte × Nat :=
    if selScale sel == 1 then
      let bs := (List.range (n / 32)).map (fun b =>
        encodeBlock code (fun i => rndOf sel base (32 * b + i)) ((vals.drop (32 * b)).take 32))
      (bs.map (fun b => BitVec.ofNat 8 b.1) ++ body (bs.flatMap (fun b => b.2.1)), orFlags (bs.map (fun b => b.2.2)))
    else if selScale sel == 2 then
      let e := encodeRowMode code (rndOf sel base) vals
      (leBytes 2 e.1 ++ leBytes 2 e.2.1 ++ body e.2.2.1, e.2.2.2)
    else
      let es := (List.range n).map (fun i => encodeElem code (rndOf sel base i) ((vals[i]?).getD .zero))
      (body (es.map (·.1)), orFlags (es.map (·.2)))
  (r.1 ++ zeros (storedSize sel n - r.1.length), r.2)

/-- Whether a conversion copies the stored bits (R106). -/
def selSame (src dst : Nat) : Bool := selFmt src == selFmt dst && selScale src == selScale dst

/-- A stored row converted from one selector to another (R106, R115). -/
def convertRow (src dst n base : Nat) (bytes : List Byte) : List Byte × Nat :=
  if selSame src dst then (bytes.take (storedSize src n), 0)
  else
    let d := decodeRow src n bytes
    let e := encodeRow dst base d.1
    (e.1, d.2 ||| e.2)

end Sys2Proof.Machine
end

