-- ==== Sys2Proof/Machine/Ops.lean ====
section
/-! DEFINITION. The operations that the meanings share: when the hub acts at all, what it sends, free values, who may do
what, fault records, units, memory with its checks, and the bookkeeping of queues and outstanding transactions. -/

namespace Sys2Proof.Machine

open Sys2Proof

/-! ### Acting, sending, drawing -/

/-- The hub acts while it has power, is not held in reset, and its X-die works (R42, R209, R521). -/
def awake (s : State) : Bool := s.pins.pwrGood && s.pins.hubResetN && !s.units.xDieOut

/-- Sends one message. -/
def emit (s : State) (o : Out) : State := { s with outbox := s.outbox ++ [o] }

/-- Sends messages in order. -/
def emitAll (s : State) (os : List Out) : State := { s with outbox := s.outbox ++ os }

/-- Advances the counter of free values by `n`: the values drawn are those at the counter before. -/
def spend (s : State) (n : Nat) : State := { s with free := s.free + n }

/-- A free choice among the numbers that a test admits; the fallback is one of them. -/
def chooseFree (n : Nat) (ok : Nat → Bool) (fallback : Nat) : Nat :=
  if ok (Config.freeNat n) then Config.freeNat n else fallback

/-- `n` free bytes from the counter. -/
def freeBytes (s : State) (n : Nat) : List Byte := (List.range n).map (fun i => Config.freeByte (s.free + i))

/-- Milliseconds since power-up, modulo 2³² (R316). -/
def nowMs (s : State) : Nat := s.now / 1000000 % 2 ^ 32

/-! ### Who the hub is, and who may ask what -/

/-- BASE_NODE of the image (R59). -/
def baseNode (s : State) : Nat := (s.boot.image.map (·.baseNode)).getD 0

/-- The hub's node number (R59). -/
def hubNode (s : State) : Nat := (baseNode s + s.pins.slotId) % 4096

/-- Members of the composition domain (R63). -/
def domainMembers (s : State) : List Nat := (s.boot.image.map (·.members)).getD []

/-- Hubs of the composition domain (R63). -/
def domainHubs (s : State) : List Nat := (s.boot.image.map (·.hubs)).getD []

/-- Whether a node is a member of the hub's domain (R66). -/
def isMember (s : State) (node : Nat) : Bool := (domainMembers s).contains node

/-- Whether a tenant is bound to a logical device (R74). -/
def boundTo (s : State) (ld tenant : Nat) : Bool :=
  s.comp.live.tenantBinds.any (fun b => b.ld == ld && b.tenant == tenant)

/-- Whether a logical device holds the ADMIN right through one of its bindings (R444). -/
def isAdmin (s : State) (ld : Nat) : Bool := s.comp.live.tenantBinds.any (fun b => b.ld == ld && b.admin)

/-- The management port, or a logical device with ADMIN (R569). -/
def hasAdmin (s : State) : Sender → Bool
  | .mgmt => true
  | .ld n => isAdmin s n

/-- The binding of a tenant (R74). -/
def bindingOf (s : State) (tenant : Nat) : Option TenantBind :=
  s.comp.live.tenantBinds.find? (fun b => b.tenant == tenant)

/-- Whether a sender may act for a tenant: the management port, or a device the tenant is bound to. -/
def mayActFor (s : State) (who : Sender) (tenant : Nat) : Bool :=
  match who with
  | .mgmt => true
  | .ld n => boundTo s n tenant

/-- The image's entry of a tenant (R318). -/
def tenantEntry (s : State) (tenant : Nat) : Option TenantEntry :=
  s.boot.image.bind (fun i => i.tenants.find? (fun t => t.tenant == tenant))

/-- Whether a tenant runs in Saffron mode. -/
def isSaffron (s : State) (tenant : Nat) : Bool := ((tenantEntry s tenant).map (·.saffron)).getD false

/-! ### Store Addresses (R54) -/

/-- NODE of an SA. -/
def saNode (sa : Nat) : Nat := bits sa 48 12

/-- OFFSET of an SA. -/
def saOff (sa : Nat) : Nat := bits sa 0 48

/-- Whether bits [63:60] of an SA are zero (R54, R58). -/
def saWellFormed (sa : Nat) : Bool := bits sa 60 4 == 0

/-- The SA of an offset on a node. -/
def saOf (node off : Nat) : Nat := (node <<< 48) + off

/-! ### Fault records (R561 to R569) -/

/-- Levels 0 cell to 3 chip and SEVERITY of a fault code (R563). START_EXCLUDED of a port is written at chip level by
its own caller. -/
def faultClass (code : Nat) : Nat × Nat :=
  if code == 0x0101 then (0, 1) else if code == 0x0102 then (0, 3)
  else if code == 0x0103 then (1, 2) else if code == 0x0104 then (1, 3)
  else if code == 0x0105 then (2, 2) else if code == 0x0106 then (3, 2)
  else if code == 0x0107 then (2, 3) else if code == 0x0108 then (2, 2)
  else if code == 0x0201 then (1, 0) else if code == 0x0202 then (1, 0)
  else if code == 0x0203 then (1, 0) else if code == 0x0204 then (1, 0)
  else if code == 0x0205 then (1, 0) else if code == 0x0301 then (3, 2)
  else if code == 0x0302 then (1, 2) else if code == 0x0303 then (1, 3)
  else if code == 0x0304 then (3, 3) else if code == 0x0305 then (1, 2)
  else if code == 0x0306 then (3, 4) else if code == 0x0307 then (3, 2)
  else if code == 0x0308 then (3, 2) else if code == 0x0401 then (2, 2)
  else if code == 0x0402 then (3, 3) else if code == 0x0403 then (1, 2)
  else if code == 0x0501 then (1, 1) else if code == 0x0502 then (3, 2)
  else if code == 0x0503 then (1, 2) else if code == 0x0504 then (3, 2)
  else if code == 0x0505 then (3, 4) else if code == 0x0601 then (3, 3)
  else if code == 0x0602 then (3, 3) else if code == 0x0701 then (3, 2)
  else if code == 0x0702 then (3, 0) else if code == 0x0703 then (3, 3)
  else (3, 0)

/-- What a rule says of a fault: the fields of the record that its code does not fix. -/
structure FaultInfo where
  kind   : UnitKind := .chip
  inst   : Nat := 0
  cell   : Nat := 0xFF
  tenant : Option Nat := none
  node   : Option Nat := none
  status : Nat := 0
  cause  : Option (Nat × Nat) := none
  addr   : Nat := 0
  arg    : Nat := 0
  level  : Option Nat := none

/-- Records that a fault ring holds (R566). -/
def ringSize : Nat := 16384

/-- A ring with one more record; a full ring loses its oldest (R566). -/
def ringPush (r : FaultRing) (f : FaultRecord) : FaultRing :=
  if r.records.length < ringSize then { r with next := r.next + 1, records := r.records ++ [f] }
  else { next := r.next + 1, overwritten := min 0xFFFF (r.overwritten + 1), records := r.records.drop 1 ++ [f] }

/-- Whether a record merges into the newest one of its ring (R565). -/
def mergesInto (new old : FaultRecord) : Bool :=
  new.cause.isNone && old.code == new.code && old.kind == new.kind && old.inst == new.inst && old.cell == new.cell
    && old.tenant == new.tenant && old.node == new.node && decide (new.time ≤ old.time + 1000000)

/-- A ring whose newest record counts one more occurrence (R565). -/
def ringMerge (r : FaultRing) : FaultRing :=
  match r.records.getLast? with
  | none => r
  | some f => { r with records := r.records.dropLast ++ [{ f with merged := min 0xFFFF (f.merged + 1) }] }

/-- The record that a fault writes, before its number is known. -/
def faultRecord (s : State) (code : Nat) (i : FaultInfo) : FaultRecord :=
  let level := i.level.getD (faultClass code).1
  let severity := (faultClass code).2
  { seq := ((s.faults.rings[level]?).map (·.next)).getD 0, time := s.now, level := level, severity := severity,
    code := code, kind := i.kind, inst := i.inst, cell := i.cell, tenant := i.tenant, node := i.node,
    status := i.status, cause := i.cause, alert := decide (2 ≤ severity) || code == 0x0701 || code == 0x0702,
    merged := 0, addr := i.addr, arg := i.arg }

/-- FAULT_SUMMARY after a record of its own (R564, R569). -/
def summaryAfter (f : Faults) (r : FaultRecord) : Faults :=
  { f with fault := f.fault || r.severity == 4 || (decide (2 ≤ r.severity) && decide (2 ≤ r.level)),
           alert := f.alert || r.alert, worst := max f.worst r.severity }

/-- Writes a fault record, or merges it into the newest record of its ring. -/
def raise (s : State) (code : Nat) (i : FaultInfo) : State :=
  let r := faultRecord s code i
  match s.faults.rings[r.level]? with
  | none => s
  | some ring =>
    match ring.records.getLast? with
    | some old =>
      if mergesInto r old then { s with faults := { s.faults with rings := s.faults.rings.set r.level (ringMerge ring) } }
      else { s with faults := { summaryAfter s.faults r with rings := s.faults.rings.set r.level (ringPush ring r) } }
    | none => { s with faults := { summaryAfter s.faults r with rings := s.faults.rings.set r.level (ringPush ring r) } }

/-- Level and SEQ of the newest record of a level, for CAUSE (R564). -/
def newestRecord (s : State) (level : Nat) : Option (Nat × Nat) :=
  (s.faults.rings[level]?).bind (fun r => r.records.getLast?.map (fun f => (level, f.seq)))

/-- Records that the firmware log ring holds (R551). -/
def logSize : Nat := 32768

/-- Writes a record of a point into the firmware log ring (R551 to R553). -/
def logPoint (s : State) (core level point arg : Nat) : State :=
  let r : LogEntry := { recno := s.power.logHead, time := s.now, core := core, level := level, point := point, arg := arg }
  let kept := if s.power.ring.length < logSize then s.power.ring else s.power.ring.drop 1
  { s with power := { s.power with logHead := s.power.logHead + 1, ring := kept ++ [r] } }

/-- The 8-bit code of a status (R189). -/
def statusCode : Status → Nat
  | .ok => 0x00 | .okPartialK => 0x01 | .aborted => 0x10 | .abortedPartial => 0x11
  | .permission => 0x20 | .translationFault => 0x21 | .scopeUnsupported => 0x22 | .formatUnsupported => 0x23
  | .quotaExceeded => 0x24 | .staleMap => 0x30 | .conflict => 0x31 | .kvMiss => 0x32
  | .stateLost => 0x40 | .lineOwnerLost => 0x41 | .nodeUnreachable => 0x42 | .poison => 0x43
  | .degraded => 0xE0 | .calOverride => 0xE1

/-- Place of a status in the precedence table of R18; 0 stands highest. -/
def statusRank : Status → Nat
  | .permission => 0 | .translationFault => 1 | .scopeUnsupported => 2 | .formatUnsupported => 3
  | .quotaExceeded => 4 | .aborted => 5 | .abortedPartial => 6 | .stateLost => 7 | .lineOwnerLost => 8
  | .nodeUnreachable => 9 | .poison => 10 | .conflict => 11 | .staleMap => 12 | .kvMiss => 13
  | .okPartialK => 14 | .ok => 15 | .degraded => 16 | .calOverride => 17

/-- The status that stands higher in the table (R18). -/
def worse (a b : Status) : Status := if statusRank b < statusRank a then b else a

/-! ### Units (chapter 01) -/

/-- The region of an engine cluster (R22). -/
def clusterRegion (c : Nat) : Nat := (c % 16) / 4

/-- The E-die of an engine cluster (R22). -/
def clusterDie (c : Nat) : Nat := c / 16

/-- The region of a memory unit of a tier (R21). -/
def tierRegion : Tier → Nat → Nat
  | .near, u => u / 2
  | .far, u => u / 3
  | .deep, u => u / 8

/-- Whether a region takes part: not isolated (R43). -/
def regionIn (s : State) (k : Nat) : Bool := !s.units.regionsOut.contains k

/-- Whether a memory unit is in service and its region reachable. -/
def unitIn (s : State) (t : Tier) (u : Nat) : Bool :=
  regionIn s (tierRegion t u) && match t with
    | .near => (s.units.hbm[u]?).getD false
    | .far => ((s.units.ddr[u]?).map (·.inService)).getD false
    | .deep => ((s.units.flash[u]?).map (·.inService)).getD false

/-- Whether a cluster can take segments: in service, its region and E-die too, its control core not held. -/
def clusterIn (s : State) (c : Nat) : Bool :=
  regionIn s (clusterRegion c) && !s.units.eDiesOut.contains (clusterDie c)
    && ((s.units.clusters[c]?).map (fun x => x.inService)).getD false

/-- Units of a tier. -/
def tierUnits : Tier → Nat
  | .near => 8
  | .far => 12
  | .deep => 32

/-- KIND of the memory controller of a tier (R562). -/
def tierKind : Tier → UnitKind
  | .near => .hbm
  | .far => .ddr
  | .deep => .flash

/-- The bank queue that serves an offset: free within the block's count (R33); a flash unit has none (0xFF). -/
def bankOf : Tier → Nat → Nat
  | .near, off => Config.bankQueue off % 64
  | .far, off => Config.bankQueue off % 8
  | .deep, _ => 0xFF

/-! ### The page map and the check at the serving memory -/

/-- Index of the page that holds an offset (R55). -/
def pageOf (off : Nat) : Nat := off / Config.pageBytes

/-- The page map entry of an offset. -/
def pageAt (s : State) (off : Nat) : Option Page := Tbl.find s.store.pages (pageOf off)

/-- Pages that a range touches, none past the page space. -/
def pagesOf (off len : Nat) : List Nat :=
  if len == 0 then [] else (List.range ((off + len - 1) / Config.pageBytes - off / Config.pageBytes + 1)).map (· + pageOf off)

/-- The right of a share entry for a tenant (R67). -/
def shareAllows (s : State) (share : Option Nat) (tenant : Nat) (write : Bool) : Bool :=
  match share with
  | none => false
  | some n => (Tbl.at s.store.shares n []).any (fun e => e.1 == tenant && (e.2 || !write))

/-- The check of R68 on one page. -/
def pageAllows (s : State) (tenant : Nat) (write : Bool) (p : Page) : Bool :=
  p.owner == tenant || shareAllows s p.share tenant write

/-- The pages of a range that refuse the request (R58, R68). -/
def refusedPages (s : State) (tenant off len : Nat) (write : Bool) : List Nat :=
  (pagesOf off len).filter (fun i =>
    match Tbl.find s.store.pages i with
    | none => true
    | some p => !pageAllows s tenant write p)

/-- Whether a range lies in the page space on pages that allow the request. -/
def permits (s : State) (tenant off len : Nat) (write : Bool) : Bool :=
  decide (off + len ≤ Config.pageSpace) && (refusedPages s tenant off len write).isEmpty

/-- Whether the bytes of a page cannot be reached: LOST, or its region isolated (R331, R43). -/
def pageGone (s : State) (p : Page) : Bool :=
  p.phase == .lost || !regionIn s (tierRegion p.tier p.unit)

/-- Whether a range touches a page whose bytes are gone. -/
def rangeGone (s : State) (off len : Nat) : Bool :=
  (pagesOf off len).any (fun i => ((Tbl.find s.store.pages i).map (pageGone s)).getD false)

/-- 64-byte units that a range touches. -/
def unitsOf (off len : Nat) : List Nat :=
  if len == 0 then [] else (List.range ((off + len - 1) / 64 - off / 64 + 1)).map (· + off / 64)

/-- Whether a range touches a poisoned unit (R605). -/
def rangePoison (s : State) (off len : Nat) : Bool :=
  s.store.poison.any (fun u => decide (off < 64 * u + 64) && decide (64 * u < off + len))

/-- What a read of local memory ends with. -/
def readStatus (s : State) (tenant off len : Nat) : Status :=
  if !permits s tenant off len false then .permission
  else if rangeGone s off len || rangePoison s off len then .poison
  else .ok

/-- Whether a write covers a poisoned unit only in part (R605). -/
def partPoison (s : State) (off len : Nat) : Bool :=
  s.store.poison.any (fun u => decide (off < 64 * u + 64) && decide (64 * u < off + len)
    && !(decide (off ≤ 64 * u) && decide (64 * u + 64 ≤ off + len)))

/-- What a write of local memory ends with. -/
def writeStatus (s : State) (tenant off len : Nat) : Status :=
  if !permits s tenant off len true then .permission
  else if rangeGone s off len || partPoison s off len then .poison
  else .ok

/-- The bytes of a local range. -/
def readMem (s : State) (off len : Nat) : List Byte := memRead s.store.mem off len

/-- A byte string cut at 64-byte units; `fuel` bounds the pieces. -/
def cutUnits : Nat → Nat → List Byte → List (Nat × List Byte)
  | 0, _, _ => []
  | _ + 1, _, [] => []
  | fuel + 1, off, b :: t =>
    let n := 64 - off % 64
    (off, (b :: t).take n) :: cutUnits fuel (off + n) ((b :: t).drop n)

/-- Drops the row-cache entries that a range touches (R150). -/
def dropRows (s : State) (off len : Nat) : State :=
  { s with embed := { s.embed with rowCache := s.embed.rowCache.filter (fun r =>
      !(decide (off < r.off + r.len) && decide (r.off < off + len))) } }

/-- Sets bytes, whatever the page; cached sectors of rows are dropped first (R150). -/
def setMem (s : State) (off : Nat) (data : List Byte) : State :=
  let s := dropRows s off data.length
  { s with store := { s.store with mem := memWrite s.store.mem off data } }

/-- Changes a page map entry. -/
def modPage (s : State) (page : Nat) (f : Page → Page) : State :=
  { s with store := { s.store with pages := Tbl.alter s.store.pages page f } }

/-- The entry of a page once a 4 KiB unit of it is stored raw; a near page is raw throughout (R307). -/
def rawUnit (unit : Nat) (p : Page) : Page :=
  if p.tier == .near then p else { p with forms := Tbl.put p.forms unit .raw }

/-- A unit of a far page is stored raw from a write on (R307). -/
def rawForm (s : State) (off : Nat) : State :=
  modPage s (pageOf off) (rawUnit (off % Config.pageBytes / 4096))

/-- Takes the poison of a unit away. -/
def curePoison (s : State) (unit : Nat) : State :=
  { s with store := { s.store with poison := s.store.poison.filter (· != unit) } }

/-- Poisons a unit. -/
def poisonUnit (s : State) (unit : Nat) : State :=
  if s.store.poison.contains unit then s
  else { s with store := { s.store with poison := insertBy (fun a b => decide (a < b)) unit s.store.poison } }

/-- Writes a piece that lies in one 64-byte unit: nothing where the page is gone, or where the unit is poisoned and the
piece covers it only in part (R331, R605). -/
def writePiece (s : State) (piece : Nat × List Byte) : State :=
  match pageAt s piece.1 with
  | none => s
  | some p =>
    if pageGone s p then s
    else if piece.2.length < 64 && s.store.poison.contains (piece.1 / 64) then s
    else rawForm (curePoison (setMem s piece.1 piece.2) (piece.1 / 64)) piece.1

/-- Writes bytes to local memory, unit by unit. -/
def writeMem (s : State) (off : Nat) (data : List Byte) : State :=
  (cutUnits (data.length + 1) off data).foldl writePiece s

/-- LAST_ACCESS of the pages of a range (R316). -/
def touch (s : State) (off len : Nat) : State :=
  (pagesOf off len).foldl (fun s i => modPage s i (fun p => { p with lastAccess := nowMs s })) s

/-- The ACCESS_REFUSED record of a refusal (R71). `source` 0 engine, 1 Ifeverlink, 2 CXL.mem. -/
def refuse (s : State) (tenant off source : Nat) (node : Option Nat) : State :=
  let info : FaultInfo := match pageAt s off with
    | some p => { kind := tierKind p.tier, inst := p.unit, cell := bankOf p.tier off }
    | none => { kind := .hbm, inst := Config.refusingStack off % 8, cell := bankOf .near off }
  raise s 0x0201 { info with tenant := some tenant, node := node, status := statusCode .permission,
                             addr := saOf (hubNode s) off, arg := source }

/-- Offset at which a refused range is reported: the first byte of its first refused page, or of the range. -/
def refusedAt (s : State) (tenant off len : Nat) (write : Bool) : Nat :=
  match refusedPages s tenant off len write with
  | [] => off
  | i :: _ => max off (i * Config.pageBytes)

/-! ### Queues, work, transactions -/

/-- A queue's live state. -/
def queueOf (s : State) (q : Nat) : Queue := Tbl.at s.queues q Queue.unbound

/-- A queue's binding. -/
def bindOf (s : State) (q : Nat) : Option QueueBind := Tbl.find s.comp.live.queueBinds q

/-- Changes a queue's live state. -/
def modQueue (s : State) (q : Nat) (f : Queue → Queue) : State :=
  { s with queues := Tbl.change s.queues q Queue.unbound f }

/-- The accepted descriptor of a queue with a sequence number. -/
def workOf (s : State) (q : Nat) (seq : Seq48) : Option Work :=
  s.works.find? (fun w => w.queue == q && w.seq == seq)

/-- Changes an accepted descriptor. -/
def modWork (s : State) (q : Nat) (seq : Seq48) (f : Work → Work) : State :=
  { s with works := s.works.map (fun w => if w.queue == q && w.seq == seq then f w else w) }

/-- Opens an outstanding transaction under the next tag. -/
def openTx (s : State) (node : Nat) (await : Await) (tenant addr len : Nat) : State :=
  { s with fabric := { s.fabric with
      nextTag := (s.fabric.nextTag + 1) % 65536,
      outstanding := s.fabric.outstanding ++
        [{ tag := s.fabric.nextTag, node := node, await := await, tenant := tenant, addr := addr, len := len,
           stale := false }] } }

/-- The outstanding transaction of a tag. -/
def txOf (s : State) (tag : Nat) : Option Outstanding := s.fabric.outstanding.find? (fun o => o.tag == tag)

/-- Closes an outstanding transaction. -/
def closeTx (s : State) (tag : Nat) : State :=
  { s with fabric := { s.fabric with outstanding := s.fabric.outstanding.filter (fun o => o.tag != tag) } }

/-- The live registers of a logical device. -/
def ldRegs (s : State) (ld : Nat) : LdRegs := Tbl.at s.ldRegs ld LdRegs.zero

/-- Changes the selection registers of a logical device. -/
def modLdRegs (s : State) (ld : Nat) (f : LdRegs → LdRegs) : State :=
  { s with ldRegs := Tbl.change s.ldRegs ld LdRegs.zero f }

/-- Changes the store. -/
def modStore (s : State) (f : Store → Store) : State := { s with store := f s.store }

end Sys2Proof.Machine
end

