-- ==== Sys2Proof/Machine/Controls.lean ====
section
/-! DEFINITION. The values that the image-supplied registers act with: a field outside its range acts as its default, and
the register still reads the value written. -/

namespace Sys2Proof.Machine

open Sys2Proof

/-- A field of a register word, taken as the default when it lies outside its range. -/
def ranged (w : Word) (lo n least most default : Nat) : Nat :=
  let v := bits w.toNat lo n
  if least ≤ v ∧ v ≤ most then v else default

/-- ATS_CTRL.ENABLE (R97). -/
def atsEnabled (s : State) : Bool := bit s.ctrl.ats.toNat 0

/-- ATS_CTRL.TIMEOUT in µs (R82, R97). -/
def atsTimeoutUs (s : State) : Nat := ranged s.ctrl.ats 16 24 10 10000 100

/-- COMPRESS_CTRL (R133). -/
def patternEnabled (s : State) : Bool := bit s.ctrl.compress.toNat 0
def lzEnabled (s : State) : Bool := bit s.ctrl.compress.toNat 1

/-- SCHED_CTRL.DWELL in µs (R168). -/
def dwellUs (s : State) : Nat := ranged s.ctrl.sched 0 11 20 2000 200

/-- SCHED_CTRL.DEPTH (R168). -/
def schedDepth (s : State) : Nat := ranged s.ctrl.sched 16 4 1 8 4

/-- EXCH_CTRL (R268). -/
def exchEnabled (s : State) : Bool := bit s.ctrl.exch.toNat 0
def exchServes (s : State) : Bool := bit s.ctrl.exch.toNat 1

/-- CLOVE_CTRL.ENABLE (R268). -/
def cloveEnabled (s : State) : Bool := bit s.ctrl.clove.toNat 0

/-- POOL_CTRL (R342). -/
def poolLow (s : State) : Nat := ranged s.ctrl.pool 0 10 1 512 32
def poolHigh (s : State) : Nat := ranged s.ctrl.pool 10 10 (poolLow s + 1) 768 64
def moveShare (s : State) : Nat := ranged s.ctrl.pool 20 4 1 15 2
def returnMs (s : State) : Nat := ranged s.ctrl.pool 24 16 1 60000 100

/-- ATOMIC_CTRL.MODE: HUB_ONLY (R367, R391). -/
def hubOnly (s : State) : Bool := bit s.ctrl.atomic.toNat 0

/-- PUBLISH_CTRL (R391). -/
def leaseMs (s : State) : Nat := ranged s.ctrl.publish 0 20 100 600000 10000
def noticesOn (s : State) : Bool := bit s.ctrl.publish.toNat 20

/-- IFL_CTRL (R424). -/
def iflTimeoutUs (s : State) : Nat := ranged s.ctrl.ifl 0 20 2 1000 16
def iflEncrypt (s : State) : Bool := bit s.ctrl.ifl.toNat 20
def ownVotes (s : State) : Nat := bits s.ctrl.ifl.toNat 24 4

/-- CXL_CTRL (R449). -/
def ideSkid (s : State) : Bool := bit s.ctrl.cxl.toNat 4

/-- COMP_CTRL (R477). -/
def copyShare (s : State) : Nat := ranged s.ctrl.comp 0 4 1 15 4

/-- PWR_CTRL (R560). -/
def limitW (s : State) : Nat := ranged s.ctrl.pwr 0 11 650 1000 900
def vMax (s : State) : Nat := ranged s.ctrl.pwr 16 10 700 850 850
def tjTarget (s : State) : Nat := ranged s.ctrl.pwr 32 7 85 105 100

end Sys2Proof.Machine
end

