-- ==== Sys2Proof/Machine/Tiers.lean ====
section
/-! DEFINITION. The capacity of the three tiers, where a page is placed, and how a move begins and ends (chapter 08). -/

namespace Sys2Proof.Machine

open Sys2Proof

/-- The lowest-numbered stack in service at power-up holds the firmware log ring (R308). -/
def logStack (s : State) : Nat := (indexOf? (fun b => b) s.units.hbmStart).getD 8

/-- Page map pages of a stack: 1,536 over the stacks in service at power-up, the left-over to the lower ones (R308). -/
def mapPages (s : State) (u : Nat) : Nat :=
  let n := (s.units.hbmStart.filter (fun b => b)).length
  if !(s.units.hbmStart[u]?).getD false then 0
  else
    let rank := ((s.units.hbmStart.take u).filter (fun b => b)).length
    1536 / n + (if rank < 1536 % n then 1 else 0)

/-- Journal primaries that lie in a stack, and mirrors that lie in a channel: 128 pages each (R308, R202). -/
def journalPages (s : State) : Tier → Nat → Nat
  | .near, u => 128 * (s.journals.filter (fun j => j.primary == some u)).length
  | .far, u => 128 * (s.journals.filter (fun j => j.mirror == some u)).length
  | .deep, _ => 0

/-- Raw GiB of a flash channel: 64 or 128 GiB a LUN (R333). -/
def flashGib (f : FlashFit) : Nat := f.luns * (if f.tbit then 128 else 64)

/-- Bank queues of a unit that are retired (R39). -/
def retiredBanks (s : State) (t : Tier) (u : Nat) : Nat :=
  (s.units.retired.filter (fun r => r.1 == tierKind t && r.2.1 == u)).length

/-- Pages that a DDR5 channel loses with each retired bank queue, one of a subchannel and rank (R33, R39). -/
def bankPages (f : DdrFit) : Nat := 506 * f.gib / (2 * f.ranks)

/-- Pages that a unit in service can allocate (R308), less those of its retired bank queues (R39). -/
def unitPages (s : State) : Tier → Nat → Nat
  | .near, u => if unitIn s .near u then
      36864 - 576 * retiredBanks s .near u - mapPages s u - journalPages s .near u - (if logStack s == u then 1 else 0) else 0
  | .far, u => if unitIn s .far u then
      ((s.units.ddr[u]?).map (fun c => 506 * c.fit.gib - retiredBanks s .far u * bankPages c.fit)).getD 0
        - journalPages s .far u else 0
  | .deep, u => if unitIn s .deep u then
      476 * ((s.units.flash[u]?).map (fun f => flashGib f.fit)).getD 0 - 96 else 0

/-- Sectors of 512 bytes that a deep page takes: an unlisted unit is a pattern unit and takes none (R307, R317). -/
def pageSectors (p : Page) : Nat :=
  sumNat (p.forms.map (fun f => match f.2 with
    | .raw => 8
    | .pattern => 0
    | .lz n => n))

/-- Pages of a unit in use, moves into it included; of a deep unit its sectors over 4,096, rounded up. -/
def unitUsed (s : State) (t : Tier) (u : Nat) : Nat :=
  let here := s.store.pages.filter (fun e => e.2.tier == t && e.2.unit == u)
  let inbound := (s.store.moves.filter (fun m => m.tier == t && m.unit == u)).length
  match t with
  | .deep => (sumNat (here.map (fun e => pageSectors e.2)) + 4095) / 4096 + inbound
  | _ => here.length + inbound

/-- Free pages of a unit, those that wait to be overwritten with zeros left out (R571). -/
def unitFree (s : State) (t : Tier) (u : Nat) : Nat :=
  unitPages s t u - unitUsed s t u - (s.store.scrubs.filter (fun x => x.tier == t && x.unit == u)).length
    - (if t == .deep then sumNat (s.store.erasing.map (fun e => (e.2.filter (· == u)).length)) else 0)

/-- Allocatable pages in service of a tier (TIER_STATE.TOTAL). -/
def tierTotal (s : State) (t : Tier) : Nat := sumNat ((List.range (tierUnits t)).map (unitPages s t))

/-- Free pages of a tier (TIER_STATE.FREE). -/
def tierFree (s : State) (t : Tier) : Nat := sumNat ((List.range (tierUnits t)).map (unitFree s t))

/-- Whether a tier is short (R319). -/
def tierShort (s : State) (t : Tier) : Bool := decide (tierFree s t * 1024 < poolLow s * tierTotal s t)

/-- Whether a tier has its eviction target free (R319, R321). -/
def tierAtHigh (s : State) (t : Tier) : Bool := decide (poolHigh s * tierTotal s t ≤ tierFree s t * 1024)

/-- The unit in service with the most free pages, the lower-numbered on a tie, if one has room (R305). -/
def placeUnit (s : State) (t : Tier) : Option Nat :=
  (bestBy (unitFree s t) (List.range (tierUnits t))).bind (fun u => if unitFree s t u == 0 then none else some u)

/-- As `placeUnit`, among the stacks of one region (R172). -/
def placeStack (s : State) (region : Nat) : Option Nat :=
  (bestBy (unitFree s .near) [2 * region, 2 * region + 1]).bind (fun u => if unitFree s .near u == 0 then none else some u)

/-- Whether a page index of a unit is taken. -/
def indexTaken (s : State) (t : Tier) (u i : Nat) : Bool :=
  s.store.pages.any (fun e => e.2.tier == t && e.2.unit == u && e.2.index == i)
    || s.store.moves.any (fun m => m.tier == t && m.unit == u && m.index == i)
    || s.store.scrubs.any (fun x => x.tier == t && x.unit == u && x.index == i)

/-- The lowest free index of a unit; `fuel` bounds the search. -/
def lowestIndex (s : State) (t : Tier) (u : Nat) : Nat → Nat → Nat
  | 0, i => i
  | fuel + 1, i => if indexTaken s t u i then lowestIndex s t u fuel (i + 1) else i

/-- The index that a new page takes in its unit: any free one (the spec fixes the unit only). -/
def freeIndex (s : State) (t : Tier) (u : Nat) : Nat :=
  chooseFree s.free (fun i => decide (i < unitPages s t u) && !indexTaken s t u i)
    (lowestIndex s t u (s.store.pages.length + s.store.moves.length + s.store.scrubs.length) 0)

/-- Pages of a tenant in a tier; `pooled` those of the pool, else the dedicated ones (TENANT_USED). -/
def usedPages (s : State) (tenant : Nat) (t : Tier) (pooled : Bool) : Nat :=
  (s.store.pages.filter (fun e => e.2.owner == tenant && e.2.tier == t && e.2.pooled == pooled)).length

/-- Granules of drafts of a tenant whose region's page lies in a tier (R382). -/
def draftGranules (s : State) (tenant : Nat) (t : Tier) : Nat :=
  sumNat ((s.order.drafts.filter (fun d => d.tenant == tenant)).map (fun d =>
    (d.granules.filter (fun g =>
      match Tbl.find s.store.pages (d.region + g / 32) with
      | some p => p.tier == t
      | none => false)).length))

/-- Tier number 0 near, 1 far, 2 deep. -/
def tierNumber : Tier → Nat
  | .near => 0
  | .far => 1
  | .deep => 2

/-- FLOOR and CEILING of a tenant in a tier (R318). -/
def quotaOf (s : State) (tenant : Nat) (t : Tier) : Quota :=
  Tbl.at s.comp.live.quotas (tenant * 4 + tierNumber t) { floor := 0, ceiling := 0 }

/-- Whether `n` more pages keep a tenant within its ceiling in a tier (R313, R318, R382). -/
def withinCeiling (s : State) (tenant : Nat) (t : Tier) (n : Nat) : Bool :=
  decide (32 * (usedPages s tenant t true + usedPages s tenant t false + n) + draftGranules s tenant t
    ≤ 32 * (quotaOf s tenant t).ceiling)

/-- Adds a page map entry. -/
def addPage (s : State) (page : Nat) (p : Page) : State :=
  { s with store := { s.store with pages := Tbl.put s.store.pages page p } }

/-- A new page on a unit: zero bytes, no share entry, LAST_ACCESS now (R313, R314, R316). -/
def newPage (s : State) (owner : Nat) (t : Tier) (u want format : Nat) (pooled discard lastWins : Bool)
    (cls : PageClass) : Page :=
  { owner := owner, share := none, want := want, pooled := pooled, discard := discard, cls := cls, lastWins := lastWins,
    tier := t, phase := .resident, format := format, unit := u, index := freeIndex s t u, lastAccess := nowMs s,
    forms := [] }

/-- Clears the bytes and the poison of a page (R314). -/
def zeroPage (s : State) (page : Nat) : State :=
  let base := page * Config.pageBytes
  { s with store := { s.store with
      mem := memClear s.store.mem base Config.pageBytes,
      poison := s.store.poison.filter (fun u => u < base / 64 || (base + Config.pageBytes) / 64 ≤ u) } }

/-- Drops a page: its entry, bytes, poison and moves (R315, R328). -/
def dropPage (s : State) (page : Nat) : State :=
  let s := zeroPage s page
  { s with store := { s.store with
      pages := Tbl.del s.store.pages page, moves := s.store.moves.filter (fun m => m.page != page) } }

/-- Whether a page is being moved. -/
def isMoving (s : State) (page : Nat) : Bool := s.store.moves.any (fun m => m.page == page)

/-- Begins a move of a page into a tier where a unit has room (R325, step 1). -/
def startMove (s : State) (page : Nat) (t : Tier) (promotion : Bool) : State :=
  if isMoving s page then s
  else match placeUnit s t with
    | none => s
    | some u =>
      let m : Move := { page := page, tier := t, unit := u, index := freeIndex s t u, promotion := promotion }
      modPage (spend { s with store := { s.store with moves := s.store.moves ++ [m] } } 1) page
        (fun p => { p with phase := .moving })

/-- The bytes of a 4 KiB unit of a page. -/
def unitBytes (s : State) (page unit : Nat) : List Byte :=
  readMem s (page * Config.pageBytes + unit * 4096) 4096

/-- Whether a 4 KiB unit of a page holds no listed byte. -/
def unitZero (s : State) (page unit : Nat) : Bool :=
  let a := page * Config.pageBytes + unit * 4096
  !s.store.mem.any (fun c => decide (a ≤ c.1) && decide (c.1 < a + 4096))

/-- The bytes of a 4 KiB unit are one 8-byte word repeated (R129). -/
def isPattern (bytes : List Byte) : Bool :=
  match chunks 8 512 bytes with
  | [] => true
  | w :: t => t.all (· == w)

/-- Stored form of a unit in the far or the deep tier (R129, R307). -/
def unitForm (s : State) (page unit : Nat) : UnitForm :=
  if patternEnabled s && (unitZero s page unit || isPattern (unitBytes s page unit)) then .pattern
  else if lzEnabled s then
    let n := Config.lzSectors (unitBytes s page unit)
    if 1 ≤ n ∧ n ≤ 7 then .lz n else .raw
  else .raw

/-- The unit table of a page that moves into the far or the deep tier. -/
def packForms (s : State) (page : Nat) : Tbl UnitForm :=
  ((List.range 512).map (fun u => (u, unitForm s page u))).filter (fun e => e.2 != .pattern)

/-- A page once its move has flipped (R325, step 4). -/
def flipPage (s : State) (m : Move) : State :=
  let forms := if m.tier == .near then [] else packForms s m.page
  let s := modPage s m.page (fun p =>
    { p with tier := m.tier, unit := m.unit, index := m.index, forms := forms,
             phase := if m.promotion then .promoted else .resident })
  { s with store := { s.store with moves := s.store.moves.filter (fun x => x.page != m.page) } }

/-- Far pages that allocations, evictions and promotions may take: 64 stay free for writes to deep pages (R323). -/
def farAvailable (s : State) : Nat := tierFree s .far - 64

/-- Pages of a tier that an allocation may take. -/
def tierAvailable (s : State) (t : Tier) : Nat := if t == .far then farAvailable s else tierFree s t

/-- Begins the promotion of a deep page for a write, and holds the access until it ends (R323). -/
def promoteFor (s : State) (page : Nat) (w : Waiter) : State :=
  let s := if s.store.held.contains (page, w) then s
           else { s with store := { s.store with held := s.store.held ++ [(page, w)] } }
  startMove s page .far true

/-- Pages of a range that a write finds deep (R323). -/
def deepPages (s : State) (off len : Nat) : List Nat :=
  (pagesOf off len).filter (fun i => ((Tbl.find s.store.pages i).map (fun p => p.tier == .deep && p.phase != .lost)).getD false)

end Sys2Proof.Machine
end

