-- ==== Sys2Proof/Machine/Access.lean ====
section
/-! DEFINITION. Reads and writes of the hub's own memory as a tenant and a writer node meet them: region classes, drafts of
Published regions, Held lines with copies away from home, and deep pages (chapters 08 and 09). -/

namespace Sys2Proof.Machine

open Sys2Proof

/-! ### Published regions -/

/-- The Published region that holds a page: its first page and its state (R381). -/
def regionOf (s : State) (page : Nat) : Option (Nat × PubRegion) :=
  s.order.regions.find? (fun e => decide (e.1 ≤ page) && decide (page < e.1 + e.2.pages))

/-- The draft of a tenant and a writer node in a region (R382). -/
def draftOf (s : State) (region tenant writer : Nat) : Option Draft :=
  s.order.drafts.find? (fun d => d.region == region && d.tenant == tenant && d.writer == writer)

/-- Granule of an offset in a region (R381). -/
def granuleOf (region off : Nat) : Nat := (off - region * Config.pageBytes) / 65536

/-- Whether a range touches a Published region. -/
def touchesPublished (s : State) (off len : Nat) : Bool := (pagesOf off len).any (fun p => (regionOf s p).isSome)

/-- A byte as a tenant and a writer node read it: the writer's own draft, else the published version (R382). -/
def viewByte (s : State) (tenant writer a : Nat) : Byte :=
  match regionOf s (pageOf a) with
  | none => memByte s.store.mem a
  | some (r, _) =>
    match draftOf s r tenant writer with
    | none => memByte s.store.mem a
    | some d => if d.granules.contains (granuleOf r a) then memByte d.data a else memByte s.store.mem a

/-- The bytes of a range as a tenant and a writer node read them. -/
def viewMem (s : State) (tenant writer off len : Nat) : List Byte :=
  if touchesPublished s off len then (List.range len).map (fun i => viewByte s tenant writer (off + i))
  else readMem s off len

/-- The listed bytes of one granule. -/
def granuleCells (s : State) (region g : Nat) : List Host.Cell :=
  let base := region * Config.pageBytes + g * 65536
  s.store.mem.filter (fun c => decide (base ≤ c.1) && decide (c.1 < base + 65536))

/-- A draft with a granule copied from the current version, unless it holds it (R382). -/
def draftWith (s : State) (d : Draft) (g : Nat) : Draft :=
  if d.granules.contains g then d
  else { d with granules := d.granules ++ [g],
                data := (granuleCells s d.region g).foldl (fun m c => memPut m c.1 c.2) d.data }

/-- Writes a piece that lies in one granule into a draft; it renews the lease (R382, R389). -/
def draftPut (s : State) (region tenant writer off : Nat) (data : List Byte) : State :=
  let fresh : Draft := { region := region, tenant := tenant, writer := writer, granules := [], data := [], renewed := s.now }
  let d := draftWith s ((draftOf s region tenant writer).getD fresh) (granuleOf region off)
  let d := { d with data := memWrite d.data off data, renewed := s.now }
  let others := s.order.drafts.filter (fun x => !(x.region == region && x.tenant == tenant && x.writer == writer))
  { s with order := { s.order with drafts := others ++ [d] } }

/-- Granules of a range that a writer's draft does not hold yet. -/
def newGranules (s : State) (tenant writer off len : Nat) : Nat :=
  ((unitsOf off len).map (fun u => u / 1024)).foldl (fun (acc : List Nat × Nat) g =>
    if acc.1.contains g then acc
    else (g :: acc.1, acc.2 + match regionOf s (g / 32) with
      | none => 0
      | some (r, _) => match draftOf s r tenant writer with
        | none => 1
        | some d => if d.granules.contains (g - 32 * r) then 0 else 1)) ([], 0) |>.2

/-- Whether the draft granules that a write adds fit the tenant's ceiling (R382). -/
def draftRoom (s : State) (tenant writer off len : Nat) : Bool :=
  let n := newGranules s tenant writer off len
  n == 0 || match pageAt s off with
    | none => true
    | some p =>
      decide (32 * (usedPages s tenant p.tier true + usedPages s tenant p.tier false) + draftGranules s tenant p.tier + n
        ≤ 32 * (quotaOf s tenant p.tier).ceiling)

/-! ### Held lines at home (R372 to R379) -/

/-- Lines of 128 bytes that a range touches. -/
def linesOf (off len : Nat) : List Nat :=
  if len == 0 then [] else (List.range ((off + len - 1) / 128 - off / 128 + 1)).map (· + off / 128)

/-- Lines of a range with a directory entry. -/
def heldLines (s : State) (off len : Nat) : List (Nat × DirEntry) :=
  s.order.directory.filter (fun e => decide (off < 128 * e.1 + 128) && decide (128 * e.1 < off + len))

/-- Whether a range touches a line whose M or O holder died (R379). -/
def lostLines (s : State) (off len : Nat) : Bool := (heldLines s off len).any (fun e => e.2.lost)

/-- Whether a copy in E, M or O stands away from home. -/
def isOwned (e : DirEntry) : Bool := !e.lost && e.state != .shared

/-- Lines whose holder must supply the data of a non-member read (R375). -/
def linesToRead (s : State) (off len : Nat) : List Nat := ((heldLines s off len).filter (fun e => isOwned e.2)).map (·.1)

/-- Lines whose copies a non-member write must invalidate first (R375). -/
def linesToWrite (s : State) (off len : Nat) : List Nat := ((heldLines s off len).filter (fun e => !e.2.lost)).map (·.1)

/-- The state LINE_OWNER_LOST ends for every line that a write covers whole (R379). -/
def endLost (s : State) (off len : Nat) : State :=
  { s with order := { s.order with directory := s.order.directory.filter (fun e =>
      !(e.2.lost && decide (off ≤ 128 * e.1) && decide (128 * e.1 + 128 ≤ off + len))) } }

/-! ### Local reads and writes -/

/-- What a local read ends with, Held lines included. -/
def localReadStatus (s : State) (tenant off len : Nat) : Status :=
  let st := readStatus s tenant off len
  if lostLines s off len then worse st .lineOwnerLost else st

/-- What a local write ends with, drafts included; poisoned units of a page do not matter to a draft. -/
def localWriteStatus (s : State) (tenant writer off len : Nat) : Status :=
  if !permits s tenant off len true then .permission
  else if !draftRoom s tenant writer off len then .quotaExceeded
  else if rangeGone s off len || (!touchesPublished s off len && partPoison s off len) then .poison
  else .ok

/-- Writes a piece of one 64-byte unit: into the writer's draft on a Published page, else into memory. -/
def putPiece (tenant writer : Nat) (s : State) (piece : Nat × List Byte) : State :=
  match regionOf s (pageOf piece.1) with
  | some (r, _) => draftPut s r tenant writer piece.1 piece.2
  | none => writePiece s piece

/-- Writes bytes of a tenant to local memory; the check has been made. -/
def writeLocal (s : State) (tenant writer off : Nat) (data : List Byte) : State :=
  touch (endLost ((cutUnits (data.length + 1) off data).foldl (putPiece tenant writer) s) off data.length) off data.length

/-- Writes a range as poisoned data: every unit of it becomes poison (R239). -/
def poisonRange (s : State) (off len : Nat) : State := (unitsOf off len).foldl poisonUnit s

end Sys2Proof.Machine
end

