-- ==== Sys2Proof/Machine/Events.lean ====
section
/-! DEFINITION. Event records of the logical devices (R440), FAULT_SUMMARY.DEGRADED (R570), and what a change of it
posts. -/

namespace Sys2Proof.Machine

open Sys2Proof

/-- A logical device. -/
def ldOf (s : State) (ld : Nat) : LogicalDevice := Tbl.at s.cxl.lds ld LogicalDevice.reset

/-- Changes a logical device. -/
def modLd (s : State) (ld : Nat) (f : LogicalDevice → LogicalDevice) : State :=
  { s with cxl := { s.cxl with lds := Tbl.change s.cxl.lds ld LogicalDevice.reset f } }

/-- Logical devices that Set LD Allocations enabled (R428). -/
def enabledLds (s : State) : List Nat := (s.cxl.lds.filter (fun e => e.2.capacity != 0)).map (·.1)

/-- Logical devices that carry a tenant. -/
def ldsOfTenant (s : State) (tenant : Nat) : List Nat :=
  dedup ((s.comp.live.tenantBinds.filter (fun b => b.tenant == tenant)).map (·.ld))

/-- A log with one more record: 256 at most, further ones are counted (R440). -/
def logPush (l : EventLog) (r : EventRecord) : EventLog :=
  if l.records.length < 256 then { l with records := l.records ++ [{ r with handle := l.next }], next := l.next + 1 }
  else { l with overflow := l.overflow + 1 }

/-- Causes of event records, in the order of the table of R440. -/
inductive EventCause where
  | refused | proxyUnreachable | holdEnded | noDraftRoom | uncorrectable | bankRetired | health | regionIsolated | ideFailure

/-- Number of a cause. -/
def EventCause.number : EventCause → Nat
  | .refused => 0 | .proxyUnreachable => 1 | .holdEnded => 2 | .noDraftRoom => 3 | .uncorrectable => 4
  | .bankRetired => 5 | .health => 6 | .regionIsolated => 7 | .ideFailure => 8

/-- Log of a cause: 0 Informational, 1 Warning, 2 Failure, 3 Fatal (R440). -/
def EventCause.log : EventCause → Nat
  | .refused => 1 | .proxyUnreachable => 1 | .holdEnded => 1 | .noDraftRoom => 0 | .uncorrectable => 2
  | .bankRetired => 2 | .health => 1 | .regionIsolated => 2 | .ideFailure => 3

/-- The time that event records of a logical device carry: its timestamp and what has passed since it was set (R438). -/
def ldTime (s : State) (ld : Nat) : Nat :=
  if (ldOf s ld).timestamp == 0 then 0 else (ldOf s ld).timestamp + (s.now - (ldOf s ld).stampAt)

/-- Posts an event record to one logical device; its policy may ask for an MSI-X message (R438). -/
def postEvent (cause : EventCause) (fault : Option FaultRecord) (s : State) (ld : Nat) : State :=
  let r : EventRecord := { handle := 0, cause := cause.number, time := ldTime s ld, fault := fault }
  let s := modLd s ld (fun d => { d with logs := d.logs.modify cause.log (fun l => logPush l r) })
  let p := ((ldOf s ld).policy[cause.log]?).getD 0
  if bits p 0 2 == 1 then emit s (.msix ld (bits p 4 4)) else s

/-- Posts an event record to several logical devices. -/
def postEvents (s : State) (lds : List Nat) (cause : EventCause) (fault : Option FaultRecord) : State :=
  lds.foldl (postEvent cause fault) s

/-- The newest fault record of a level. -/
def newestFault (s : State) (level : Nat) : Option FaultRecord := (s.faults.rings[level]?).bind (fun r => r.records.getLast?)

/-- Whether an Ifeverlink port that has lanes runs below x4 (R396). -/
def iflNarrow (p : IflPort) : Bool := p.up && p.lanes != 15

/-- Lanes of a CXL link as built: 16, or 8 of a bifurcated port (R425). -/
def builtWidth (s : State) (link : Nat) : Nat := if bit s.ctrl.cxl.toNat (link / 2) then 8 else 16

/-- FAULT_SUMMARY.DEGRADED (R570). -/
def degraded (s : State) : Bool :=
  s.units.clusters.any (fun c => !c.inService) || s.units.hbm.any (fun b => !b)
    || s.units.ddr.any (fun d => !d.inService && (d.fit.dimms != 0))
    || s.units.flash.any (fun f => !f.inService && (f.fit.luns != 0))
    || s.units.flash.any (fun f => decide (f.lanesUp < 4))
    || s.units.cxlPorts.any (fun b => !b) || s.fabric.ports.any (fun p => !p.inService)
    || s.units.d2d != [11, 11, 11, 11, 11, 11, 11, 11, 6, 6, 8]
    || !s.units.regionsOut.isEmpty || !s.units.eDiesOut.isEmpty || !s.units.retired.isEmpty
    || s.fabric.ports.any iflNarrow
    || (List.range 8).any (fun h => ((s.cxl.links[h]?).map (fun l => l.up && (l.width != builtWidth s h || l.rate != 2))).getD false)
    || s.power.cores.any (fun c => c.run == .failed)
    || s.journals.any (fun j => j.primary.isNone || j.mirror.isNone)
    || !s.units.sensorsOut.isEmpty || !s.units.srFailing.isEmpty

/-- Whether CAL_OVERRIDE is raised (R538). -/
def calOverridden (s : State) : Bool := s.boot.calRaised

/-- The event records of a change of DEGRADED or CAL_OVERRIDE between two states (R440). -/
def healthEvents (before after : State) : State :=
  if degraded before == degraded after && calOverridden before == calOverridden after then after
  else postEvents after (enabledLds after) .health none

end Sys2Proof.Machine
end

