-- ==== Sys2Proof/Machine/Held.lean ====
section
/-! DEFINITION. Serving accesses at the home hub: reads and writes of other endpoints and of hosts, which may wait for a
Held line's copies or for the promotion of a deep page, and the transactions on Held lines (chapters 08 and 09). -/

namespace Sys2Proof.Machine

open Sys2Proof

/-! ### Line transactions at home -/

/-- KIND codes of the coherence messages (R406). -/
def kindData : Nat := 0x23
def kindGrant : Nat := 0x24
def kindNack : Nat := 0x25
def kindInvAck : Nat := 0x26
def kindReadShared : Nat := 0x30
def kindReadOwn : Nat := 0x31
def kindUpgrade : Nat := 0x32
def kindEvict : Nat := 0x33
def kindFwdShared : Nat := 0x40
def kindFwdOwn : Nat := 0x41
def kindInv : Nat := 0x42
def kindRecall : Nat := 0x43
def kindRetry : Nat := 0x70

/-- STATE of a directory entry (R373). -/
def lineStateCode : LineState → Nat
  | .shared => 1
  | .exclusive => 2
  | .modified => 3
  | .owned => 4

/-- A coherence message about a line of this hub. -/
def sendLine (s : State) (dst kind line aux : Nat) (status : Status) (data : List Byte) : State :=
  emit s (.line dst kind 0 0 (line * 128) aux status data)

/-- Nodes that hold a copy: the sharers and the E, M or O holder. -/
def holders (e : DirEntry) : List Nat := dedup (if e.state == .shared then e.sharers else e.owner :: e.sharers)

/-- Changes a directory entry. -/
def modLine (s : State) (line : Nat) (f : DirEntry → DirEntry) : State :=
  { s with order := { s.order with directory := Tbl.alter s.order.directory line f } }

/-- Frees a directory entry. -/
def freeLine (s : State) (line : Nat) : State :=
  { s with order := { s.order with directory := Tbl.del s.order.directory line } }

/-- Sends one message to each of several nodes. -/
def sendEach (s : State) (dsts : List Nat) (kind line aux : Nat) : State :=
  dsts.foldl (fun s d => sendLine s d kind line aux .ok []) s

/-- Starts a transaction on a line that has an entry without one (R374 to R376). A member's READ_OWN or UPGRADE
invalidates the other copies; a holder in M or O sends its data to the requester. -/
def startTx (s : State) (line : Nat) (e : DirEntry) (tx : LineTx) : State :=
  match tx with
  | .read _ => sendLine (modLine s line (fun x => { x with busy := some tx, acksDue := [e.owner] }))
      e.owner kindFwdShared line (hubNode s) .ok []
  | .write _ => sendEach (modLine s line (fun x => { x with busy := some tx, acksDue := holders e })) (holders e) kindInv line 0
  | .recall => sendEach (modLine s line (fun x => { x with busy := some tx, acksDue := holders e })) (holders e) kindRecall line 0
  | .member r _ _ =>
    let others := (holders e).filter (· != r)
    let owned := e.state == .modified || e.state == .owned
    let s := modLine s line (fun x => { x with busy := some tx, acksDue := others })
    others.foldl (fun s d =>
      if owned && d == e.owner then sendLine s d kindFwdOwn line r .ok [] else sendLine s d kindInv line 0 .ok []) s

/-- A non-member access to a line: it starts, or waits behind the transaction in progress; at most 16 wait at home and
further ones wait at their port, where the model keeps them too (R378). -/
def beginLine (s : State) (line : Nat) (tx : LineTx) : State :=
  match Tbl.find s.order.directory line with
  | none => s
  | some e =>
    if e.busy == some tx || e.waiting.contains tx then s
    else if e.busy.isSome then modLine s line (fun x => { x with waiting := x.waiting ++ [tx] })
    else startTx s line e tx

/-! ### Serving an access -/

/-- Data of a read, with the bytes that a line's holder supplied laid over it. -/
def overlay (line : Nat) (bytes : List Byte) (off : Nat) (data : List Byte) : List Byte :=
  (List.range data.length).map (fun i =>
    let a := off + i
    if a / 128 == line then (bytes[a % 128]?).getD 0 else (data[i]?).getD 0)

/-- As `overlay`, for the lines supplied so far. -/
def overlayAll (given : List (Nat × List Byte)) (off : Nat) (data : List Byte) : List Byte :=
  given.foldl (fun d g => overlay g.1 g.2 off d) data

/-- A CXL.mem request that is received and not served. -/
def cxlRequest (s : State) (ld tag : Nat) : Option CxlRequest := s.cxl.requests.find? (fun r => r.ld == ld && r.tag == tag)

/-- Ends a CXL.mem request; its response goes out unless its link was lost (R432, R445). -/
def cxlEnd (s : State) (ld tag : Nat) (o : Out) : State :=
  match cxlRequest s ld tag with
  | none => s
  | some r =>
    let s := { s with cxl := { s.cxl with requests := s.cxl.requests.filter (fun r => !(r.ld == ld && r.tag == tag)) } }
    if r.dropped then s else emit s o

/-- Answers a host's CXL.mem read (R432). -/
def cxlAnswer (s : State) (ld tag : Nat) (poison : Bool) (data : List Byte) : State :=
  cxlEnd s ld tag (.cxlReadData ld tag poison data)

/-- Ends a host's CXL.mem write (R432). -/
def cxlWritten (s : State) (ld tag : Nat) : State := cxlEnd s ld tag (.cxlWriteDone ld tag)

/-- The record and event of a refused CXL.mem request (R71, R440). -/
def cxlRefuse (s : State) (ld tenant off : Nat) : State :=
  let s := refuse s tenant off 2 (some (hubNode s))
  postEvent .refused (newestFault s 1) s ld

/-- A read of this hub's memory for a host or an endpoint, with the lines that their holders have supplied. -/
def serveRead (s : State) (w : Waiter) (tenant writer off len : Nat) (given : List (Nat × List Byte))
    (answer : State → Status → List Byte → State) : State :=
  let st := localReadStatus s tenant off len
  if st != .ok then answer s st (ones len)
  else
    match (linesToRead s off len).filter (fun l => !given.any (fun g => g.1 == l)) with
    | l :: _ => beginLine s l (.read w)
    | [] => answer (touch s off len) .ok (overlayAll given off (viewMem s tenant writer off len))

/-- A write of this hub's memory for a host or an endpoint: it waits for a deep page and for the copies of Held lines. -/
def serveWrite (s : State) (w : Waiter) (tenant writer off : Nat) (data : List Byte)
    (answer : State → Status → State) : State :=
  let st := localWriteStatus s tenant writer off data.length
  if st == .permission || st == .quotaExceeded then answer s st
  else
    match deepPages s off data.length, linesToWrite s off data.length with
    | p :: _, _ => promoteFor s p w
    | [], l :: _ => beginLine s l (.write w)
    | [], [] => answer (writeLocal s tenant writer off data) st

/-- Serves a waiting access, or starts what it still needs; a host request that was ended meanwhile has no effect (R433). -/
def serve (s : State) (given : List (Nat × List Byte)) (w : Waiter) : State :=
  match w with
  | .cxlRead ld tag off tenant len => if (cxlRequest s ld tag).isNone then s else serveRead s w tenant (hubNode s) off len given (fun s st data =>
      if st == .permission then cxlAnswer (cxlRefuse s ld tenant (refusedAt s tenant off len false)) ld tag true (ones len)
      else cxlAnswer s ld tag (st != .ok) data)
  | .cxlWrite ld tag off tenant data => if (cxlRequest s ld tag).isNone then s else serveWrite s w tenant (hubNode s) off data (fun s st =>
      if st == .permission then cxlWritten (cxlRefuse s ld tenant (refusedAt s tenant off data.length true)) ld tag
      else if st == .quotaExceeded then cxlWritten (postEvent .noDraftRoom none s ld) ld tag
      else cxlWritten s ld tag)
  | .cxlPoison ld tag off tenant len => if (cxlRequest s ld tag).isNone then s else
      serveWrite s w tenant (hubNode s) off (ones len) (fun s st =>
        if st == .permission then cxlWritten (cxlRefuse s ld tenant (refusedAt s tenant off len true)) ld tag
        else if st == .quotaExceeded then cxlWritten (postEvent .noDraftRoom none s ld) ld tag
        else cxlWritten (if st == .ok && !touchesPublished s off len then poisonRange s off len else s) ld tag)
  | .load src tag off tenant len => serveRead s w tenant src off len given (fun s st data =>
      let s := if st == .permission then refuse s tenant (refusedAt s tenant off len false) 1 (some src) else s
      emit s (.loadRsp src tag st 0 data))
  | .store src tag off tenant data => serveWrite s w tenant src off data (fun s st =>
      let s := if st == .permission then refuse s tenant (refusedAt s tenant off data.length true) 1 (some src) else s
      emit s (.storeAck src tag st))
  | .work q seq =>
    modWork s q seq (fun x => { x with fetched := x.fetched ++ given.map (fun g =>
      { space := .store, addr := saOf (hubNode s) (g.1 * 128), status := .ok, node := hubNode s, data := g.2 }) })

/-- What a line's waiting accesses become once its transaction has ended: with the entry gone they are served, else the
next one starts (R378). -/
def resumeLine (s : State) (line : Nat) (waiting : List LineTx) : State :=
  waiting.foldl (fun s tx =>
    match Tbl.find s.order.directory line with
    | some _ => beginLine s line tx
    | none => match tx with
      | .read w => serve s [] w
      | .write w => serve s [] w
      | .member .. => s
      | .recall => s) s

/-- Number of the 1 ms window that runs. -/
def windowNow (s : State) : Nat := s.now / 1000000

/-- Region of this hub that homes a line (R372). -/
def lineRegion (s : State) (line : Nat) : Nat :=
  match pageAt s (line * 128) with
  | none => 0
  | some p => tierRegion p.tier p.unit

/-- Counts a recall of a region in the 1 ms window that runs (DIR_STATE.RECALLS). -/
def countRecall (s : State) (region : Nat) : State :=
  let w := windowNow s
  let count (c : RecallCount) : RecallCount :=
    if w == c.window then { c with count := c.count + 1 }
    else { count := 1, window := w, last := if w == c.window + 1 then c.count else 0 }
  { s with order := { s.order with recalls := Tbl.change s.order.recalls region { count := 0, window := 0, last := 0 } count } }

/-- Recalls of a region in the last whole 1 ms window. -/
def recallsShown (s : State) (region : Nat) : Nat :=
  match Tbl.find s.order.recalls region with
  | none => 0
  | some c => if windowNow s == c.window then c.last else if windowNow s == c.window + 1 then c.count else 0

/-- Ends a transaction whose last answer has arrived. -/
def finishTx (s : State) (line : Nat) (e : DirEntry) : State :=
  match e.busy with
  | none => s
  | some (.read w) =>
    resumeLine (serve (modLine s line (fun x => { x with busy := none, waiting := [] })) [] w) line e.waiting
  | some (.write w) => resumeLine (serve (freeLine s line) [] w) line e.waiting
  | some .recall =>
    let s := freeLine s line
    resumeLine (countRecall s (lineRegion s line)) line e.waiting
  | some (.member r tag request) =>
    let s := { s with order := { s.order with grants := s.order.grants + 1 } }
    let hadOwner := (e.state == .modified || e.state == .owned) && e.owner != r
    let s := modLine s line (fun x =>
      { x with state := .modified, owner := r, sharers := [], busy := none, waiting := [], granted := s.order.grants })
    let s := if request == .upgrade then emit s (.line r kindGrant 0 tag (line * 128) 0 .ok [])
      else if hadOwner then s
      else emit s (.line r kindData 0 tag (line * 128) (lineStateCode .modified) .ok (readMem s (line * 128) 128))
    resumeLine s line e.waiting

/-- An answer to a transaction from a node: its dirty data merges into home memory (R375, R376). -/
def lineAnswer (s : State) (src line : Nat) (dirty : List Byte) : State :=
  match Tbl.find s.order.directory line with
  | none => s
  | some e =>
    if e.busy.isNone || !e.acksDue.contains src then s
    else
      let s := if dirty.isEmpty then s else setMem s (line * 128) (dirty.take 128)
      let e' := { e with acksDue := e.acksDue.filter (· != src), sharers := e.sharers.filter (· != src) }
      let s := modLine s line (fun _ => e')
      if e'.acksDue.isEmpty then finishTx s line e' else s

/-- The holder of an E, M or O copy supplies the data of a non-member read: an M holder moves to O, an E holder to S
(R375). -/
def lineSupplied (s : State) (src line : Nat) (bytes : List Byte) : State :=
  match Tbl.find s.order.directory line with
  | none => s
  | some e =>
    match e.busy with
    | some (.read w) =>
      if src != e.owner then s
      else
        let next := if e.state == .exclusive then
            { e with state := .shared, sharers := dedup (e.owner :: e.sharers) }
          else { e with state := .owned }
        let s := modLine s line (fun _ => { next with busy := none, acksDue := [], waiting := [] })
        resumeLine (serve s [(line, bytes)] w) line e.waiting
    | _ => s

/-- Accesses held for a page are served once it stands in the far tier (R323). -/
def releaseHeld (s : State) (page : Nat) : State :=
  let mine := s.store.held.filter (fun h => h.1 == page)
  let s := { s with store := { s.store with held := s.store.held.filter (fun h => h.1 != page) } }
  mine.foldl (fun s h => serve s [] h.2) s

end Sys2Proof.Machine
end

