-- ==== Sys2Proof/Machine/Links.lean ====
section
/-! DEFINITION. Paths out of the hub: the active Ifeverlink port of a destination, the CXL link of a logical device, HDM
windows, and the host memory accesses that wait while a port is down. -/

namespace Sys2Proof.Machine

open Sys2Proof

/-- An Ifeverlink port. -/
def portOf (s : State) (p : Nat) : IflPort := (s.fabric.ports[p]?).getD IflPort.down

/-- Changes an Ifeverlink port. -/
def modPort (s : State) (p : Nat) (f : IflPort → IflPort) : State :=
  { s with fabric := { s.fabric with ports := s.fabric.ports.modify p f } }

/-- Whether a port carries flits. -/
def portUp (s : State) (p : Nat) : Bool := (portOf s p).inService && (portOf s p).up

/-- The route table entry of a destination; 15 names no port (R411). -/
def routeOf (s : State) (dst : Nat) : Route :=
  Tbl.at s.comp.live.routes dst { primary := 15, alt1 := 15, alt2 := 15, alt3 := 15 }

/-- Ports of a route entry in order (R412). -/
def routePorts (r : Route) : List Nat := [r.primary, r.alt1, r.alt2, r.alt3]

/-- The active port of a destination: the primary when in service, else the first alternate in service (R412). -/
def activePort (s : State) (dst : Nat) : Option Nat :=
  (routePorts (routeOf s dst)).find? (fun p => decide (p < 12) && portUp s p)

/-- Whether membership declares a node unreachable (R417). -/
def declaredLost (s : State) (node : Nat) : Bool := isMember s node && node != hubNode s && !s.fabric.seen.contains node

/-- Whether a node can be reached: it has a port in service, and membership does not declare it unreachable (R412,
R417). -/
def reachable (s : State) (dst : Nat) : Bool := dst == hubNode s || ((activePort s dst).isSome && !declaredLost s dst)

/-- The CXL link that carries a logical device: half b for devices 8 to 15 of a bifurcated port (R428, R449). -/
def ldLink (s : State) (ld : Nat) : Nat :=
  2 * (ld / 16) + (if bit s.ctrl.cxl.toNat (ld / 16) && decide (8 ≤ ld % 16) then 1 else 0)

/-- A CXL link. -/
def cxlLink (s : State) (h : Nat) : CxlLink := (s.cxl.links[h]?).getD CxlLink.down

/-- Whether a logical device's link is up. -/
def ldUp (s : State) (ld : Nat) : Bool := (cxlLink s (ldLink s ld)).up

/-- Logical devices of a link. -/
def linkLds (s : State) (h : Nat) : List Nat := (List.range 64).filter (fun ld => ldLink s ld == h)

/-- The DPA offset of an HPA in a decoder's range, where this hub's position serves the chunk (R90). -/
def decoderDpa (d : Decoder) (hpa : Nat) : Option Nat :=
  if hpa < d.base ∨ d.base + d.size ≤ hpa then none
  else
    let o := hpa - d.base
    let chunk := o / d.gran
    if chunk % d.ways == d.position then some (chunk / d.ways * d.gran + o % d.gran) else none

/-- The committed decoders of a logical device. -/
def decodersOf (s : State) (ld : Nat) : Tbl Decoder := (ldOf s ld).decoders

/-- HDM_SA_MAP and HDM_TENANT of a decoder (R91). -/
def hdmOf (s : State) (ld d : Nat) : HdmMap :=
  Tbl.at s.comp.live.hdm (ld * 8 + d) { saBase := 0, target := 0, tenant := 0, valid := false }

/-- The decoder that an HPA hits, and the SA it maps to (R90). -/
def hpaHit (s : State) (ld hpa : Nat) : Option (Nat × Nat) :=
  firstSome (fun e => (decoderDpa e.2 hpa).map (fun dpa =>
    (e.1, saOf (hdmOf s ld e.1).target ((hdmOf s ld e.1).saBase + dpa)))) (decodersOf s ld)

/-- The decoder that covers a DPA, and the SA it maps to (R439). -/
def dpaHit (s : State) (ld dpa : Nat) : Option (Nat × Nat) :=
  firstSome (fun e =>
    if e.2.dpaBase ≤ dpa ∧ dpa < e.2.dpaBase + e.2.size / e.2.ways then
      some (e.1, saOf (hdmOf s ld e.1).target ((hdmOf s ld e.1).saBase + (dpa - e.2.dpaBase)))
    else none) (decodersOf s ld)

/-- Marks a link as holding outbound traffic (R446). -/
def holdLink (s : State) (h : Nat) (io : HeldIo) : State :=
  { s with cxl := { s.cxl with held := s.cxl.held ++ [(h, io)],
                               links := s.cxl.links.modify h (fun l => { l with holding := true }) } }

/-- A descriptor loses an access to host memory: NODE_UNREACHABLE, naming this hub (R446). -/
def lostHost (s : State) (queue : Nat) (seq : Seq48) : State :=
  modWork s queue seq (fun x => if worse x.status .nodeUnreachable == x.status then x
    else { x with status := .nodeUnreachable, node := hubNode s })

/-- What a read of host memory gave a descriptor. -/
def gotHost (s : State) (queue : Nat) (seq : Seq48) (ld hpa : Nat) (st : Status) (data : List Byte) : State :=
  modWork s queue seq (fun x =>
    { x with fetched := x.fetched ++ [{ space := .host ld, addr := hpa, status := st, node := hubNode s, data := data }],
             phase := if x.phase == .waiting then .ready else x.phase })

/-- Writes host memory, or holds the write while the port is down (R446). -/
def hostWrite (s : State) (queue : Nat) (seq : Seq48) (ld hpa : Nat) (data : List Byte) : State :=
  if ldUp s ld then emit s (.hostWrite ld hpa data)
  else if (cxlLink s (ldLink s ld)).expired then lostHost s queue seq
  else holdLink s (ldLink s ld) (.write queue seq ld hpa data)

/-- Reads host memory for a descriptor, or holds the read while the port is down (R446). -/
def hostRead (s : State) (queue : Nat) (seq : Seq48) (tenant ld hpa len : Nat) : State :=
  if !ldUp s ld && (cxlLink s (ldLink s ld)).expired then gotHost s queue seq ld hpa .nodeUnreachable (ones len)
  else
    let tag := s.fabric.nextTag
    let s := openTx s ld (.hostRead queue seq ld) tenant hpa len
    if ldUp s ld then emit s (.hostRead ld tag hpa len)
    else holdLink s (ldLink s ld) (.read tag ld hpa len)

/-- Whether a vector of a logical device is pending (R447). -/
def msiPending (s : State) (ld vector : Nat) : Bool := (ldOf s ld).pendingMsi.contains vector

/-- Signals an MSI-X vector on a logical device; held while its port is down, which sets its pending bit (R446, R447). -/
def signalMsi (s : State) (ld vector : Nat) : State :=
  if ldUp s ld then emit s (.msix ld vector)
  else if msiPending s ld vector then s
  else if (cxlLink s (ldLink s ld)).expired then modLd s ld (fun d => { d with pendingMsi := d.pendingMsi ++ [vector] })
  else holdLink (modLd s ld (fun d => { d with pendingMsi := d.pendingMsi ++ [vector] })) (ldLink s ld) (.msix ld vector)

end Sys2Proof.Machine
end

