-- ==== Sys2Proof/Machine/Flits.lean ====
section
/-! DEFINITION. How what the hub sends leaves on its Ifeverlink ports: each message takes whole flits of its own, which stay
in the replay buffer of its port until they are acknowledged (R399 to R401, R403). And the outcome that every command has. -/

namespace Sys2Proof.Machine

open Sys2Proof

/-- Virtual channel of a coherence or version message, by its kind (R406). -/
def kindChannel (kind : Nat) : Nat :=
  if kind / 16 == 2 then 1 else if kind / 16 == 3 then 2 else if kind / 16 == 4 then 3 else 7

/-- Destination, virtual channel and bytes of a message to another node (R249, R250, R406, R407). A message whose body no
rule lays out counts its headers. -/
def outFlits : Out → Option (Nat × Nat × Nat)
  | .load dst .. => some (dst, 0, 16)
  | .store dst _ _ _ d => some (dst, 0, 16 + d.length)
  | .atomic dst _ _ _ _ _ _ _ es => some (dst, 0, 32 + 32 * es.length)
  | .loadRsp dst _ _ _ d => some (dst, 1, 16 + d.length)
  | .storeAck dst .. => some (dst, 1, 16)
  | .atomicRsp dst _ _ olds => some (dst, 1, 16 + 8 * olds.length)
  | .poolReq dst _ es => some (dst, 4, 32 + 16 * es.length)
  | .poolRsp dst _ ps stale => some (dst, 4, 32 + sumNat (ps.map (fun p => 16 + 4 * p.elems.length)) + 16 * stale.length)
  | .prep dst _ is => some (dst, 4, 32 + 8 * is.length)
  | .delta dst _ items => some (dst, 4, 32 + sumNat (items.map (fun i => 16 + 4 * i.elems.length)))
  | .exchange dst _ _ => some (dst, 4, 32)
  | .line dst kind _ _ _ _ _ d => some (dst, kindChannel kind, 16 + d.length)
  | .version dst kind .. => some (dst, kindChannel kind, 32)
  | .tallyStore dst _ _ _ d => some (dst, 5, 16 + d.length)
  | .tallyCredit dst .. => some (dst, 5, 32)
  | .creditAck dst _ => some (dst, 1, 16)
  | .barrier dst vc => some (dst, vc, 32)
  | .barrierAck dst => some (dst, 6, 16)
  | .linkFate dst .. => some (dst, 6, 32)
  | .heartbeat dst .. => some (dst, 6, 48)
  | .change dst .. => some (dst, 6, 32)
  | .changeAnswer dst .. => some (dst, 6, 32)
  | .forward dst .. => some (dst, 6, 32)
  | .forwardAnswer dst .. => some (dst, 6, 48)
  | .flipRequest dst .. => some (dst, 6, 48)
  | .catchUp dst _ => some (dst, 6, 32)
  | .snapshot dst .. => some (dst, 6, 32)
  | .seqQuery dst _ => some (dst, 6, 32)
  | .seqReport dst .. => some (dst, 6, 32)
  | .replicaStale dst .. => some (dst, 6, 48)
  | _ => none

/-- Flits of a message of some bytes: 240 bytes of payload each (R394). -/
def flitCount (bytes : Nat) : Nat := (bytes + 239) / 240

/-- A port with `n` more flits to a destination in its replay buffer (R400). -/
def sendFlits (dst n : Nat) (p : IflPort) : IflPort :=
  { p with txSeq := (p.txSeq + n) % 4096,
           replay := p.replay ++ (List.range n).map (fun i => ((p.txSeq + i) % 4096, dst)) }

/-- One sent message enters the replay buffer of its port; a transit flit names its port itself. -/
def frameOne (s : State) (o : Out) : State :=
  match o with
  | .flit port _ dst _ _ _ _ => modPort s port (sendFlits dst 1)
  | o => match outFlits o with
    | none => s
    | some m => match activePort s m.1 with
      | none => s
      | some p => modPort s p (sendFlits m.1 (flitCount m.2.2))

/-- What a command has sent takes its flits: the messages past the first `sent` of the outbox. -/
def frameOut (sent : Nat) (s : State) : State := (s.outbox.drop sent).foldl frameOne s

/-- The outcome of a command with the effect `f`: nothing happens on a hub that does not act. -/
def act (s : State) (f : State → State) : Host.Outcome State Fault Refusal :=
  .next (if awake s then frameOut s.outbox.length (f s) else s)

end Sys2Proof.Machine
end

