-- ==== Sys2Proof/Machine/Operands.lean ====
section
/-! DEFINITION. The operand forms of descriptors: SAs and TVAs (R73 to R82, R182), what reading and writing through them
needs from outside the hub's own memory, and the run of a descriptor's plan once it needs nothing more. -/

namespace Sys2Proof.Machine

open Sys2Proof

/-- What an access of a descriptor still needs; `map` is a newer map of its table, which comes by itself (R233). -/
inductive Need where
  | ats (page : Nat)
  | load (sa len : Nat) (row : Option (Nat × Nat × Nat))
  | host (ld hpa len : Nat)
  | lineRead (line : Nat)
  | lineWrite (line : Nat)
  | deep (page : Nat)
  | member (node line : Nat) (request : LineRequest)
  | exchange (owner part : Nat) (h : ExHeader) (entries : List PoolEntry)
  | map
deriving DecidableEq

/-- What an access has found so far: its bytes, its status with the node of the failing access (R187), what it needs, and
the local offsets that were refused. -/
structure Got where
  data    : List Byte := []
  status  : Status := .ok
  node    : Nat := 0
  needs   : List Need := []
  refused : List Nat := []

/-- An access that failed: its bytes read as ones. -/
def Got.fail (st : Status) (node len : Nat) : Got := { data := ones len, status := st, node := node }

/-- An access that waits: its bytes are not known yet. -/
def Got.wait (n : Need) (len : Nat) : Got := { data := zeros len, needs := [n] }

/-- Two accesses of one descriptor, one after the other: the higher status stands (R18). -/
def Got.and (a b : Got) : Got :=
  { data := a.data ++ b.data,
    status := worse a.status b.status,
    node := if statusRank b.status < statusRank a.status then b.node else a.node,
    needs := a.needs ++ b.needs, refused := a.refused ++ b.refused }

/-- Accesses in order. -/
def Got.all (l : List Got) : Got := l.foldl Got.and {}

/-- A range cut at multiples of `n`; `fuel` bounds the pieces. -/
def cutRange (n : Nat) : Nat → Nat → Nat → List (Nat × Nat)
  | 0, _, _ => []
  | fuel + 1, off, len =>
    if len == 0 then []
    else
      let k := min len (n - off % n)
      (off, k) :: cutRange n fuel (off + k) (len - k)

/-- Bytes or a failure that a descriptor has received for a range. -/
def received (w : Work) (space : Space) (addr len : Nat) : Option Got :=
  (w.fetched.find? (fun f => f.space == space && decide (f.addr ≤ addr) && decide (addr + len ≤ f.addr + f.data.length))).map
    (fun f => { data := (f.data.drop (addr - f.addr)).take len, status := f.status, node := f.node })

/-- A copy of a Held line of another node that this hub holds for a tenant (R151, R153). -/
def copyOf (s : State) (node line tenant : Nat) : Option HeldCopy :=
  s.order.copies.find? (fun c => c.node == node && c.line == line && c.tenant == tenant)

/-- A cached Published sector of another node (R387). -/
def sectorOf (s : State) (node sector tenant : Nat) : Option PubSector :=
  s.order.sectors.find? (fun c => c.node == node && c.sector == sector && c.tenant == tenant)

/-- Reads a range of another node that lies in one 128-byte line: from the far cache, or by a message (R153, R387). -/
def readFar (s : State) (w : Work) (sa len : Nat) : Got :=
  let node := saNode sa
  let off := saOff sa
  match received w .store sa len with
  | some g => g
  | none =>
    match copyOf s node (off / 128) w.tenant, sectorOf s node (off / 128) w.tenant with
    | some c, _ => { data := (c.data.drop (off % 128)).take len }
    | none, some p => { data := (p.data.drop (off % 128)).take len }
    | none, none =>
      if !reachable s node then .fail .nodeUnreachable node len
      else if Config.heldPath (saOf node (off / 128)) && (domainHubs s).contains node then
        .wait (.member node (off / 128) .readShared) len
      else .wait (.load sa len none) len

/-- Whether a line of another node is served from the far cache or by the Held protocol, line by line. -/
def byLines (s : State) (w : Work) (sa len : Nat) : Bool :=
  (linesOf (saOff sa) len).any (fun l =>
    (copyOf s (saNode sa) l w.tenant).isSome || (sectorOf s (saNode sa) l w.tenant).isSome
      || Config.heldPath (saOf (saNode sa) l))

/-- Reads a range of another node, in messages of at most 512 bytes (R142, R406). -/
def readRemote (s : State) (w : Work) (sa len : Nat) : Got :=
  if byLines s w sa len then .all ((cutRange 128 (len + 1) sa len).map (fun p => readFar s w p.1 p.2))
  else .all ((cutRange 512 (len + 1) sa len).map (fun p =>
    match received w .store p.1 p.2 with
    | some g => g
    | none => if !reachable s (saNode p.1) then .fail .nodeUnreachable (saNode p.1) p.2
              else .wait (.load p.1 p.2 none) p.2))

/-- Whether an access is refused only because pages of this hub have no page map entry (R212). -/
def onlyAbsent (s : State) (tenant off len : Nat) (write : Bool) : Bool :=
  decide (off + len ≤ Config.pageSpace)
    && (refusedPages s tenant off len write).all (fun i => (Tbl.find s.store.pages i).isNone)

/-- Reads a range of this hub's memory for a descriptor (R68, R375); a descriptor replayed after a flush meets STATE_LOST
where the page did not survive (R212). -/
def readHere (s : State) (w : Work) (off len : Nat) : Got :=
  let hub := hubNode s
  let st := localReadStatus s w.tenant off len
  if st == .permission && w.restored && onlyAbsent s w.tenant off len false then .fail .stateLost hub len
  else if st == .permission then { Got.fail st hub len with refused := [refusedAt s w.tenant off len false] }
  else if st != .ok then .fail st hub len
  else
    let lines := linesToRead s off len
    let missing := lines.filter (fun l => (received w .store (saOf hub (l * 128)) 128).isNone)
    match missing with
    | l :: _ => .wait (.lineRead l) len
    | [] =>
      let given := lines.map (fun l => (l, ((received w .store (saOf hub (l * 128)) 128).map (·.data)).getD []))
      { data := overlayAll given off (viewMem s w.tenant hub off len) }

/-- Reads a range named by an SA (R54, R58). -/
def readSa (s : State) (w : Work) (sa len : Nat) : Got :=
  if !saWellFormed sa then .fail .permission (saNode sa) len
  else if saNode sa == hubNode s then readHere s w (saOff sa) len
  else readRemote s w sa len

/-- What a TVA translates to (R73 to R79). -/
inductive Trans where
  | sa (sa : Nat)
  | host (ld hpa : Nat)
  | fault
  | miss (page : Nat)

/-- Entry of the device TLB of a cluster for a tenant (R76, R77). -/
def tlbHit (s : State) (cluster tenant tva : Nat) : Option TlbEntry :=
  (Tbl.at s.tlbs cluster []).find? (fun e => e.tenant == tenant && decide (e.base ≤ tva) && decide (tva < e.base + e.size))

/-- Translates a TVA for a descriptor: through the TLB of its cluster, or by an ATS request (R73 to R79). -/
def translate (s : State) (w : Work) (tva : Nat) (write : Bool) : Trans :=
  if bits tva 57 7 != 0 || !atsEnabled s then .fault
  else match bindingOf s w.tenant with
    | none => .fault
    | some b =>
      if (received w .tva (tva / 4096 * 4096) 1).isSome then .fault
      else match tlbHit s w.cluster w.tenant tva with
        | none => .miss (tva / 4096 * 4096)
        | some e =>
          if write && !e.write then .fault
          else match hpaHit s b.ld (e.hpa + (tva - e.base)) with
            | some (_, sa) => .sa sa
            | none => .host b.ld (e.hpa + (tva - e.base))

/-- Reads a range named by a TVA, page by page (R75). -/
def readTva (s : State) (w : Work) (tva len : Nat) : Got :=
  .all ((cutRange 4096 (len + 1) tva len).map (fun p =>
    match translate s w p.1 false with
    | .fault => .fail .translationFault 0 p.2
    | .miss page => .wait (.ats page) p.2
    | .sa sa => readSa s w sa p.2
    | .host ld hpa =>
      match received w (.host ld) hpa p.2 with
      | some g => g
      | none => .wait (.host ld hpa p.2) p.2))

/-- Whether PTRi of a descriptor is a TVA (R182). -/
def isTva (d : Descriptor) (i : Nat) : Bool := bit d.flags i

/-- Reads a range through an address form. -/
def readAt (s : State) (w : Work) (tva : Bool) (addr len : Nat) : Got :=
  if tva then readTva s w addr len else readSa s w addr len

/-- Reads a range at an offset from PTRi. -/
def readPtr (s : State) (w : Work) (i : Nat) (off len : Nat) : Got :=
  let base := match i with
    | 0 => w.desc.ptr0
    | 1 => w.desc.ptr1
    | 2 => w.desc.ptr2
    | _ => w.desc.ptr3
  readAt s w (isTva w.desc i) (base + off) len

/-! ### Writes -/

/-- One write of a descriptor: an address in its form, and bytes, possibly written as poisoned data (R239). -/
structure WriteReq where
  tva    : Bool
  addr   : Nat
  data   : List Byte
  poison : Bool := false

/-- Where a write lands. -/
inductive Target where
  | here (off : Nat)
  | far (sa : Nat)
  | copy (node line off : Nat)
  | host (ld hpa : Nat)

/-- A write resolved to its target. -/
structure Put where
  target : Target
  data   : List Byte
  poison : Bool

/-- The resolution of writes: where each lands, what it needs, and how its checks ended. -/
structure Puts where
  puts    : List Put := []
  status  : Status := .ok
  node    : Nat := 0
  needs   : List Need := []
  refused : List Nat := []

/-- Two resolutions in order. -/
def Puts.and (a b : Puts) : Puts :=
  { puts := a.puts ++ b.puts, status := worse a.status b.status,
    node := if statusRank b.status < statusRank a.status then b.node else a.node,
    needs := a.needs ++ b.needs, refused := a.refused ++ b.refused }

/-- Resolutions in order. -/
def Puts.all (l : List Puts) : Puts := l.foldl Puts.and {}

/-- Resolves a write to this hub's memory: the check, deep pages, Held lines (R68, R323, R375). Writes that `direct` makes
go to deep pages in place (R335). -/
def putHere (s : State) (w : Work) (direct : Bool) (off : Nat) (data : List Byte) (poison : Bool) : Puts :=
  let hub := hubNode s
  let st := localWriteStatus s w.tenant hub off data.length
  if st == .permission && w.restored && onlyAbsent s w.tenant off data.length true then { status := .stateLost, node := hub }
  else if st == .permission then { status := st, node := hub, refused := [refusedAt s w.tenant off data.length true] }
  else if st == .quotaExceeded then { status := st, node := hub }
  else
    let deep := if direct then [] else (deepPages s off data.length).map Need.deep
    { puts := [{ target := .here off, data := data, poison := poison }], status := st, node := if st == .ok then 0 else hub,
      needs := deep ++ (linesToWrite s off data.length).map Need.lineWrite }

/-- Resolves a write to another node. -/
def putFar (s : State) (w : Work) (sa : Nat) (data : List Byte) (poison : Bool) : Puts :=
  let node := saNode sa
  if !reachable s node then { status := .nodeUnreachable, node := node }
  else if (domainHubs s).contains node && ((linesOf (saOff sa) data.length).any (fun l => Config.heldPath (saOf node l))) then
    .all ((cutRange 128 (data.length + 1) (saOff sa) data.length).map (fun p =>
      let part := (data.drop (p.1 - saOff sa)).take p.2
      match copyOf s node (p.1 / 128) w.tenant with
      | some c =>
        if c.state == .modified then { puts := [{ target := .copy node (p.1 / 128) (p.1 % 128), data := part, poison := poison }] }
        else { needs := [.member node (p.1 / 128) .upgrade] }
      | none =>
        match received w .store (saOf node (p.1 / 128 * 128)) 128 with
        | some g => if g.status == .ok then { needs := [.member node (p.1 / 128) .readOwn] } else { status := g.status, node := g.node }
        | none => { needs := [.member node (p.1 / 128) .readOwn] }))
  else { puts := [{ target := .far sa, data := data, poison := poison }] }

/-- Resolves a write named by an SA. -/
def putSa (s : State) (w : Work) (direct : Bool) (sa : Nat) (data : List Byte) (poison : Bool) : Puts :=
  if !saWellFormed sa then { status := .permission, node := saNode sa }
  else if saNode sa == hubNode s then putHere s w direct (saOff sa) data poison
  else putFar s w sa data poison

/-- Resolves a write of a descriptor. -/
def resolve (s : State) (w : Work) (direct : Bool) (r : WriteReq) : Puts :=
  if !r.tva then putSa s w direct r.addr r.data r.poison
  else .all ((cutRange 4096 (r.data.length + 1) r.addr r.data.length).map (fun p =>
    let part := (r.data.drop (p.1 - r.addr)).take p.2
    match translate s w p.1 true with
    | .fault => { status := .translationFault }
    | .miss page => { needs := [.ats page] }
    | .sa sa => putSa s w direct sa part r.poison
    | .host ld hpa => { puts := [{ target := .host ld hpa, data := part, poison := r.poison }] }))

/-! ### Asking for what is needed -/

/-- Whether a descriptor already awaits a range of another node. -/
def awaitsLoad (s : State) (w : Work) (sa : Nat) : Bool :=
  s.fabric.outstanding.any (fun o => match o.await with
    | .load q n _ => q == w.queue && n == w.seq && o.addr == sa
    | _ => false)

/-- Whether a descriptor already awaits a range of host memory. -/
def awaitsHost (s : State) (w : Work) (hpa : Nat) : Bool :=
  s.fabric.outstanding.any (fun o => match o.await with
    | .hostRead q n _ => q == w.queue && n == w.seq && o.addr == hpa
    | _ => false)

/-- ATS requests of a cluster that are outstanding (R80). -/
def atsOf (s : State) (cluster : Nat) : List Outstanding :=
  s.fabric.outstanding.filter (fun o => match o.await with
    | .ats _ _ c => c == cluster
    | _ => false)

/-- Adds a tag to those a descriptor waits on. -/
def waitOn (s : State) (w : Work) (tag : Nat) : State :=
  modWork s w.queue w.seq (fun x => if x.waits.contains tag then x else { x with waits := x.waits ++ [tag] })

/-- Issues one need, unless it is already under way. -/
def ask (w : Work) (s : State) (n : Need) : State :=
  match n with
  | .ats page =>
    match (atsOf s w.cluster).find? (fun o => o.tenant == w.tenant && o.addr == page && !o.stale) with
    | some o => waitOn s w o.tag
    | none =>
      if (atsOf s w.cluster).length < 64 then
        match bindingOf s w.tenant with
        | none => s
        | some b =>
          let tag := s.fabric.nextTag
          emit (waitOn (openTx s b.ld (.ats w.queue w.seq w.cluster) w.tenant page 4096) w tag) (.atsRequest b.ld tag b.pasid page)
      else s
  | .load sa len row =>
    if awaitsLoad s w sa then s
    else
      let tag := s.fabric.nextTag
      emit (openTx s (saNode sa) (.load w.queue w.seq (row.map (fun r => r.2.1))) w.tenant sa len)
        (.load (saNode sa) w.tenant tag (saOff sa) len row)
  | .host ld hpa len => if awaitsHost s w hpa then s else hostRead s w.queue w.seq w.tenant ld hpa len
  | .lineRead l => beginLine s l (.read (.work w.queue w.seq))
  | .lineWrite l => beginLine s l (.write (.work w.queue w.seq))
  | .deep p => promoteFor s p (.work w.queue w.seq)
  | .member node line request =>
    if s.order.misses.any (fun m => m.node == node && m.line == line) then s
    else
      let kind := match request with
        | .readShared => kindReadShared
        | .readOwn => kindReadOwn
        | .upgrade => kindUpgrade
        | .evict => kindEvict
      let s := { s with order := { s.order with
        misses := s.order.misses ++ [{ node := node, line := line, tenant := w.tenant, request := request, ticket := none }] } }
      emit s (.line node kind w.tenant 0 (line * 128) 0 .ok [])
  | .exchange owner part h entries =>
    emit (modWork s w.queue w.seq (fun x =>
      { x with asked := x.asked ++ [{ owner := owner, part := part, entries := entries, answer := none }] }))
      (.poolReq owner h entries)
  | .map => s

/-- Issues what a descriptor needs; it waits and is presented again. -/
def askAll (s : State) (w : Work) (needs : List Need) : State :=
  modWork (needs.foldl (ask w) s) w.queue w.seq (fun x => { x with phase := .waiting })

/-! ### Running a plan -/

/-- What a shape does once everything it reads is at hand: its status, its writes, and the fields of its completion.
`intact` that a refused access leaves every byte as it was (R165 for the changes of a search index), `draws` the random
draws it made. -/
structure Plan where
  needs   : List Need := []
  status  : Status := .ok
  node    : Nat := 0
  refused : List Nat := []
  writes  : List WriteReq := []
  direct  : Bool := false
  count   : Nat := 0
  result  : Nat := 0
  conv    : Nat := 0
  follow  : List Follow := []
  intact  : Bool := false
  draws   : Nat := 0

/-- A plan that ends with a status and writes nothing. -/
def Plan.stop (st : Status) (node : Nat := 0) : Plan := { status := st, node := node }

/-- A plan that waits. -/
def Plan.wait (needs : List Need) : Plan := { needs := needs }

/-- ACCESS_REFUSED records of the refused offsets of a descriptor (R71). -/
def refuseAll (s : State) (tenant : Nat) (offs : List Nat) : State :=
  offs.foldl (fun s off => refuse s tenant off 0 (some (hubNode s))) s

/-- The tally send channel of a queue to a node (R358, R359). -/
def tallyChannel (s : State) (queue node : Nat) : Option (Nat × TallySend) :=
  (s.boot.image.map (·.tallySend)).getD [] |>.find? (fun e => e.2.queue == queue && e.2.dest == node)

/-- Drops the cached Published sectors of another node that a write covers, so that the writer sees its own draft (R382). -/
def dropSectors (s : State) (node off len : Nat) : State :=
  { s with order := { s.order with sectors := s.order.sectors.filter (fun p =>
      !(p.node == node && decide (off < 128 * p.sector + 128) && decide (128 * p.sector < off + len))) } }

/-- Sends one write of at most 512 bytes to another node: on the queue's tally channel, or as a STORE (R359, R406). -/
def sendStore (w : Work) (s : State) (sa : Nat) (data : List Byte) : State :=
  let tag := s.fabric.nextTag
  let s := dropSectors s (saNode sa) (saOff sa) data.length
  match tallyChannel s w.queue (saNode sa) with
  | some _ =>
    let s := openTx s (saNode sa) (.tally w.queue w.seq) w.tenant sa data.length
    let s := modWork s w.queue w.seq (fun x =>
      { x with tallyBytes := x.tallyBytes + data.length, tallyPkts := x.tallyPkts + 1 })
    emit s (.tallyStore (saNode sa) w.tenant tag (saOff sa) data)
  | none =>
    emit (openTx s (saNode sa) (.store w.queue w.seq) w.tenant sa data.length)
      (.store (saNode sa) w.tenant tag (saOff sa) data)

/-- Writes into this hub's copy of a Held line that it holds in M (R377). -/
def writeCopy (s : State) (node line tenant off : Nat) (data : List Byte) : State :=
  { s with order := { s.order with copies := s.order.copies.map (fun c =>
      if c.node == node && c.line == line && c.tenant == tenant then
        { c with data := c.data.take off ++ data ++ c.data.drop (off + data.length) } else c) } }

/-- Makes one resolved write. -/
def putOne (w : Work) (s : State) (p : Put) : State :=
  match p.target with
  | .here off =>
    let s := writeLocal s w.tenant (hubNode s) off p.data
    if p.poison then poisonRange s off p.data.length else s
  | .far sa =>
    let data := if p.poison then ones p.data.length else p.data
    (cutRange 512 (data.length + 1) sa data.length).foldl (fun s c =>
      sendStore w s c.1 ((data.drop (c.1 - sa)).take c.2)) s
  | .copy node line off => writeCopy s node line w.tenant off p.data
  | .host ld hpa => hostWrite s w.queue w.seq ld hpa p.data

/-- Whether something that a descriptor sent is still unanswered. -/
def unanswered (s : State) (queue : Nat) (seq : Seq48) : Bool :=
  s.fabric.outstanding.any (fun o => match o.await with
    | .store q n => q == queue && n == seq
    | .tally q n => q == queue && n == seq
    | .atomic q n _ => q == queue && n == seq
    | .check q n => q == queue && n == seq
    | .delta q n => q == queue && n == seq
    | _ => false)
  || s.cxl.held.any (fun h => match h.2 with
    | .write q n _ _ _ => q == queue && n == seq
    | _ => false)

/-- A descriptor whose writes have all been issued is done once all of them are visible (R344, R350). -/
def settle (s : State) (queue : Nat) (seq : Seq48) : State :=
  if unanswered s queue seq then s
  else modWork s queue seq (fun x => if x.phase == .applying && x.acks.isEmpty then { x with phase := .done } else x)

/-- The bytes of each resolved write replaced by free ones: after PERMISSION the bytes that a descriptor would have
written are undefined (R165). -/
def freePuts (s : State) (puts : List Put) : List Put × Nat :=
  puts.foldl (fun acc p =>
    (acc.1 ++ [{ p with data := (List.range p.data.length).map (fun i => Config.freeByte (s.free + acc.2 + i)) }],
     acc.2 + p.data.length)) ([], 0)

/-- Records how a descriptor ended. -/
def endWork (s : State) (w : Work) (p : Plan) (st : Status) (node : Nat) (delivered : Bool) : State :=
  modWork s w.queue w.seq (fun x =>
    { x with status := worse x.status st, node := if worse x.status st == x.status then x.node else node,
             conv := x.conv ||| p.conv, count := p.count, result := p.result,
             follow := x.follow ++ p.follow, delivered := x.delivered || delivered, guards := [], phase := .applying })

/-- Runs a plan: asks for what is missing, or makes the writes and ends the descriptor. -/
def runPlan (s : State) (w : Work) (p : Plan) : State :=
  if !p.needs.isEmpty then askAll s w p.needs
  else
    let r := Puts.all (p.writes.map (resolve s w p.direct))
    if !r.needs.isEmpty then askAll s w r.needs
    else
      let st := worse w.status (worse p.status r.status)
      let node := if st == w.status && w.status != .ok then w.node else if st == p.status then p.node else r.node
      let s := refuseAll s w.tenant (p.refused ++ r.refused)
      let freed := freePuts s r.puts
      let undef := st == .permission || (st == .stateLost && w.restored)
      let puts := if undef && p.intact then [] else if undef then freed.1 else r.puts
      let s := spend s (p.draws + if undef then freed.2 else 0)
      let s := puts.foldl (putOne w) s
      settle (endWork s w p st node (!puts.isEmpty)) w.queue w.seq

/-- The write gate: every earlier descriptor of the queue has all its writes visible and all its reads done (R346, R347). -/
def gateOpen (s : State) (w : Work) : Bool :=
  s.works.all (fun x => !(x.queue == w.queue && Seq48.before x.seq w.seq) || x.phase == .done)

end Sys2Proof.Machine
end

