-- ==== Sys2Proof/Machine/Engine.lean ====
section
/-! DEFINITION. Segments, their placement on clusters, shape changes, and the random sources (chapter 04, R114). -/

namespace Sys2Proof.Machine

open Sys2Proof

/-- Whether a firmware core runs. -/
def coreRuns (s : State) (i : Nat) : Bool := ((s.power.cores[i]?).map (fun c => c.run == .running)).getD false

/-- The security, power and scheduler cores (R541). -/
def securityCore : Nat := 0
def powerCore : Nat := 1
def schedulerCore : Nat := 2

/-- A cluster. -/
def clusterOf (s : State) (c : Nat) : Cluster := (s.units.clusters[c]?).getD Cluster.idle

/-- Changes a cluster. -/
def modCluster (s : State) (c : Nat) (f : Cluster → Cluster) : State :=
  { s with units := { s.units with clusters := s.units.clusters.modify c f } }

/-- Shape codes (R134). -/
def shapeGather : Nat := 0
def shapePool : Nat := 1
def shapeScatter : Nat := 2
def shapeCopy : Nat := 3
def shapePq : Nat := 4
def shapeHam : Nat := 5
def shapeTopk : Nat := 6
def shapeLayer : Nat := 7
def shapePush : Nat := 8
def shapeFetch : Nat := 9
def shapePageOut : Nat := 10
def shapePageIn : Nat := 11
def shapeAtomic : Nat := 12
def shapeFill : Nat := 13

/-- Whether a shape is idempotent (R134, R135). -/
def idempotent (shape : Nat) : Bool := shape != shapeScatter && shape != shapeAtomic

/-- MODE of a scan descriptor, ARG0[1:0]: only SCAN reads a snapshot (R279). -/
def scanMode (d : Descriptor) : Nat := bits d.arg0 0 2

/-- Segments of a descriptor by its shape (R154); bags of a POOL and the source bytes of the other shapes are taken as
their fields give them. -/
def segmentCount (w : Work) : Nat :=
  let n := w.desc.count
  let k := if w.shape == shapeGather || w.shape == shapePool || w.shape == shapeScatter || w.shape == shapeAtomic then
      (n + 4095) / 4096
    else if w.shape == shapeFill then (n + 1048575) / 1048576
    else if w.shape == shapeCopy then
      let stride := if bits w.desc.arg0 0 32 == 0 then storedSize w.desc.srcFmt w.desc.param else bits w.desc.arg0 0 32
      (n * stride + 1048575) / 1048576
    else if w.shape == shapePageOut || w.shape == shapePageIn then
      (n * (if bit w.desc.param 0 then 2097152 else 4096) + 1048575) / 1048576
    else 1
  max k 1

/-- Segments in flight on a cluster and those placed that wait for its shape. -/
def pendingOn (c : Cluster) : Nat := c.inFlight.length + c.placed.length

/-- Whether the scheduler core may place a segment of a shape on a cluster (R156, R159, R541, R545). -/
def takesShape (s : State) (shape c : Nat) : Bool :=
  let x := clusterOf s c
  clusterIn s c && coreRuns s (3 + c) && !(x.draining && x.shape == some shape)

/-- Whether the hub places segments at all: the scheduler core runs and the ROM loop does not hold power (R545). -/
def placing (s : State) : Bool := coreRuns s schedulerCore && !s.power.romLoop && !s.pins.failing

/-- The cluster with the fewest pending segments, the lowest-numbered on a tie. -/
def fewestPending (s : State) (cs : List Nat) : Option Nat := leastBy (fun c => pendingOn (clusterOf s c)) cs

/-- The cluster that a segment goes to (R156): of the journal's region when one has fewer than DEPTH pending, else any. -/
def chooseCluster (s : State) (w : Work) : Option Nat :=
  let able := (List.range 32).filter (takesShape s w.shape)
  let near := able.filter (fun c => clusterRegion c == w.region && decide (pendingOn (clusterOf s c) < schedDepth s))
  match fewestPending s near with
  | some c => some c
  | none => fewestPending s able

/-- Whether every segment of the earlier descriptors of a queue is placed, and no FENCE before it waits (R349, R354). -/
def placedBefore (s : State) (w : Work) : Bool :=
  s.works.all (fun x => !(x.queue == w.queue && Seq48.before x.seq w.seq) || x.phase == .done
    || (x.desc.opcode == 1 && decide (segmentCount x ≤ x.placed)))

/-- A cluster with one more segment: in flight when it is loaded with the shape and holds fewer than eight (R157). -/
def addSegment (x : Cluster) (g : Segment) : Cluster :=
  if x.shape == some g.shape && decide (x.inFlight.length < 8) && x.placed.isEmpty then
    { x with inFlight := x.inFlight ++ [g] }
  else { x with placed := x.placed ++ [g] }

/-- Moves waiting segments of the loaded shape into flight, in order, up to eight (R157). -/
def pullSegments (x : Cluster) : Cluster :=
  let ready := x.placed.takeWhile (fun g => x.shape == some g.shape)
  let take := ready.take (8 - x.inFlight.length)
  { x with inFlight := x.inFlight ++ take, placed := x.placed.drop take.length }

/-- Places the next segment of a descriptor on a cluster. -/
def placeOn (s : State) (w : Work) (c : Nat) : State :=
  let g : Segment := { queue := w.queue, seq := w.seq, number := w.placed, shape := w.shape }
  let s := modCluster s c (fun x => addSegment x g)
  modWork s w.queue w.seq (fun x => { x with placed := x.placed + 1, cluster := if x.placed == 0 then c else x.cluster })

/-- Whether a segment of a descriptor is in flight on a cluster: the stages work on it. -/
def inFlight (s : State) (w : Work) : Bool :=
  s.units.clusters.any (fun c => c.inFlight.any (fun g => g.queue == w.queue && g.seq == w.seq))

/-- Takes the segments of a descriptor off every cluster; waiting segments of the loaded shape move up. -/
def liftSegments (s : State) (queue : Nat) (seq : Seq48) : State :=
  let keep (l : List Segment) := l.filter (fun g => !(g.queue == queue && g.seq == seq))
  { s with units := { s.units with clusters := s.units.clusters.map (fun x =>
      pullSegments { x with inFlight := keep x.inFlight, placed := keep x.placed }) } }

/-- Whether a descriptor waits for the replay of its journal (R204). -/
def awaitsReplay (s : State) (w : Work) : Bool := ((s.journals[w.region]?).map (·.replay)).getD false

/-- Whether a shape's row may act on a descriptor: it runs that shape, has a segment in flight, is not finished, and the
write gate is open (R134, R346). -/
def mayRun (s : State) (w : Work) (shape : Nat) : Bool :=
  w.desc.opcode == 1 && w.shape == shape && (w.phase == .ready || w.phase == .waiting || w.phase == .formed) && inFlight s w && gateOpen s w
    && !awaitsReplay s w

/-- Runs a shape's plan on the descriptor that a row names. -/
def runShape (s : State) (queue : Nat) (seq : Seq48) (shape : Nat) (plan : State → Work → Plan) : State :=
  match workOf s queue seq with
  | none => s
  | some w => if mayRun s w shape then runPlan s w (plan s w) else s

/-! ### Commands -/

/-- SEGMENT_PLACE: the scheduler core places the next segment of a descriptor (R154, R156, R349). -/
def placeSegment (held : State → Work → Bool) (s : State) (queue : Nat) (seq : Seq48) : State :=
  match workOf s queue seq with
  | none => s
  | some w =>
    if w.desc.opcode == 1 && (w.phase == .ready || w.phase == .waiting || w.phase == .formed) && decide (w.placed < segmentCount w)
        && placing s && placedBefore s w && !awaitsReplay s w && !held s w then
      match chooseCluster s w with
      | none => s
      | some c => placeOn s w c
    else s

/-- SHAPE_CHANGE: a cluster with no segment in flight loads the shape of the first segment that waits on it (R158). -/
def execShapeChange (cluster : Nat) (s : State) : Host.Outcome State Fault Refusal :=
  act s (fun s =>
    let x := clusterOf s cluster
    match x.placed with
    | [] => s
    | g :: _ =>
      if x.inFlight.isEmpty && clusterIn s cluster && coreRuns s (3 + cluster) then
        modCluster s cluster (fun x => pullSegments { x with shape := some g.shape, draining := false })
      else s)

/-- The cluster of a region that stops taking its shape so that another shape gets one (R159). -/
def drainPick (s : State) (shape region : Nat) : Option Nat :=
  let mine := (List.range 32).filter (fun c => clusterRegion c == region && clusterIn s c)
  if mine.any (fun c => (clusterOf s c).shape == some shape || (clusterOf s c).draining) then none
  else fewestPending s (mine.filter (fun c => (clusterOf s c).shape.isSome))

/-- DWELL_EXPIRY: segments of a shape have waited DWELL µs; at least one cluster per region stops taking its current shape
(R159). -/
def execDwellExpiry (shape : Nat) (s : State) : Host.Outcome State Fault Refusal :=
  act s (fun s => (List.range 4).foldl (fun s k =>
    match drainPick s shape k with
    | none => s
    | some c => modCluster s c (fun x => { x with draining := true })) s)

/-- SR_SOURCE_FAIL: a random source fails its test (R114). -/
def execSrSourceFail (cluster lane : Nat) (s : State) : Host.Outcome State Fault Refusal :=
  act s (fun b =>
    let s := if b.units.srFailing.contains (cluster, lane) then b
      else { b with units := { b.units with srFailing := b.units.srFailing ++ [(cluster, lane)], srFailSeen := true } }
    healthEvents b (raise s 0x0403 { kind := .cluster, inst := cluster, arg := lane }))

/-- SR_SOURCE_PASS: a random source passes its test again (R114). -/
def execSrSourcePass (cluster lane : Nat) (s : State) : Host.Outcome State Fault Refusal :=
  act s (fun b => healthEvents b
    { b with units := { b.units with srFailing := b.units.srFailing.filter (· != (cluster, lane)) } })

end Sys2Proof.Machine
end

