-- ==== Sys2Proof/Machine/Indexes.lean ====
section
/-! DEFINITION. Search indexes: their epochs, their lists and the items that a query sees (chapter 07). -/

namespace Sys2Proof.Machine

open Sys2Proof

/-! ### Epochs (R277 to R279) -/

/-- An index descriptor. -/
def indexOf (s : State) (id : Nat) : Option IndexDesc := Tbl.find s.comp.live.indexes id

/-- Changes an index descriptor. -/
def modIndex (s : State) (id : Nat) (f : IndexDesc → IndexDesc) : State :=
  { s with comp := { s.comp with live := { s.comp.live with indexes := Tbl.alter s.comp.live.indexes id f } } }

/-- The epoch that is never used. -/
def noEpoch : Nat := 0xFFFFFFFF

/-- Modes of the scan shapes (R294). -/
def modeScan : Nat := 0
def modeAppend : Nat := 1
def modeDelete : Nat := 2
def modeSeal : Nat := 3

/-- Whether a descriptor is of a scan shape. -/
def isScanShape (w : Work) : Bool := w.desc.opcode == 1 && (w.shape == shapePq || w.shape == shapeHam)

/-- Whether a descriptor is an APPEND or a DELETE. -/
def isMutation (w : Work) : Bool :=
  isScanShape w && (scanMode w.desc == modeAppend || scanMode w.desc == modeDelete)

/-- Effective epoch of an APPEND or a DELETE: the larger of its own and SEAL_TARGET + 1 (R277). -/
def effectiveEpoch (x : IndexDesc) (e : Nat) : Nat := max e (x.sealTarget + 1)

/-- SEALED as high as SEAL_TARGET and the incomplete mutations let it rise (R278). -/
def sealedNow (x : IndexDesc) (epochs : List Nat) : Nat :=
  max x.sealed (epochs.foldl (fun m e => min m (e - 1)) x.sealTarget)

/-- Effective epochs of the APPENDs and DELETEs of an index that are accepted and not complete. -/
def openEpochs (s : State) (id : Nat) : List Nat :=
  (s.works.filter (fun w => isMutation w && w.desc.param == id)).map (fun w => bits w.desc.arg1 0 32)

/-- Raises SEALED of an index (R278). -/
def raiseSealed (s : State) (id : Nat) : State :=
  modIndex s id (fun x => { x with sealed := sealedNow x (openEpochs s id) })

/-- Raises SEALED of every index. -/
def raiseAllSealed (s : State) : State := (s.comp.live.indexes.map (·.1)).foldl raiseSealed s

/-- Whether a scan waits for its snapshot: SEALED of its index is below it (R279). -/
def scanHeld (s : State) (w : Work) : Bool :=
  isScanShape w && scanMode w.desc == modeScan && match indexOf s w.desc.param with
    | none => false
    | some x => decide (x.sealed < bits w.desc.arg1 0 32)

/-! ### Lists (R272 to R276) -/

/-- `n` bytes of a structure as a number. -/
def fieldAt (b : List Byte) (off n : Nat) : Nat := leNat ((b.drop off).take n)

/-- A list descriptor (R272). -/
structure ListDesc where
  id       : Nat
  index    : Nat
  hasTags  : Bool
  capacity : Nat
  codes    : Nat
  ids      : Nat
  records  : Nat
  recCount : Nat
  tombs    : Nat
  tags     : Nat

/-- A list descriptor from its 64 bytes. -/
def parseList (b : List Byte) : ListDesc :=
  { id := bits (fieldAt b 0 4) 0 20, index := fieldAt b 4 2, hasTags := bit (fieldAt b 6 1) 0,
    capacity := bits (fieldAt b 8 8) 0 41, codes := fieldAt b 16 8, ids := fieldAt b 24 8, records := fieldAt b 32 8,
    recCount := fieldAt b 40 4, tombs := fieldAt b 48 8, tags := fieldAt b 56 8 }

/-- SA of a list descriptor. -/
def listSa (x : IndexDesc) (n : Nat) : Nat := x.listTable + 64 * n

/-- Whether a list descriptor matches its place and names arrays of this hub only (R273, R297). -/
def listOk (s : State) (index n : Nat) (l : ListDesc) : Bool :=
  l.id == n && l.index == index
    && ([l.codes, l.ids, l.records, l.tombs] ++ (if l.hasTags then [l.tags] else [])).all (fun a => saNode a == hubNode s)

/-- Bytes of an item's code (R271). -/
def codeBytes (x : IndexDesc) : Nat := if x.kind == 1 then x.dim / 8 else x.m

/-- SA of the delete epoch of a slot (R274). -/
def delEpochSa (l : ListDesc) (slot : Nat) : Nat := l.tombs + ((l.capacity + 7) / 8 + 4095) / 4096 * 4096 + 4 * slot

/-- An append record (R275). -/
structure AppendRec where
  first : Nat
  count : Nat
  epoch : Nat
deriving DecidableEq

/-- An append record from its 16 bytes. -/
def parseRecord (b : List Byte) : AppendRec :=
  { first := bits (fieldAt b 0 8) 0 40, count := fieldAt b 8 4, epoch := fieldAt b 12 4 }

/-- The 16 bytes of an append record. -/
def recordBytes (r : AppendRec) : List Byte := leBytes 8 r.first ++ leBytes 4 r.count ++ leBytes 4 r.epoch

/-- The append records of a list, each as read. -/
def readRecords (s : State) (w : Work) (l : ListDesc) : List Got :=
  (List.range l.recCount).map (fun i => readSa s w (l.records + 16 * i) 16)

/-- The records among those that were read without an error. -/
def goodRecords (gs : List Got) : List AppendRec :=
  (gs.filter (fun g => g.status == .ok)).map (fun g => parseRecord g.data)

/-- Whether a record covers a slot. -/
def covers (r : AppendRec) (slot : Nat) : Bool := decide (r.first ≤ slot) && decide (slot < r.first + r.count)

/-- An access of which the bytes do not matter: its status, needs and refusals. -/
def Got.mute (g : Got) : Got := { g with data := [] }

/-- Tombstone bit of a slot. -/
def readTomb (s : State) (w : Work) (l : ListDesc) (slot : Nat) : Got := readSa s w (l.tombs + slot / 8) 1

/-- Whether the tombstone byte read for a slot has its bit set. -/
def tombSet (g : Got) (slot : Nat) : Bool := bit (fieldAt g.data 0 1) (slot % 8)

/-- Whether a committed slot is not deleted at a snapshot (R276), with the accesses that say so; an access that fails
leaves the item out (R293). -/
def aliveAt (s : State) (w : Work) (l : ListDesc) (slot epoch : Nat) : Got × Bool :=
  let t := readTomb s w l slot
  if t.status != .ok then (t.mute, false)
  else if !tombSet t slot then (t.mute, true)
  else
    let d := readSa s w (delEpochSa l slot) 4
    (t.mute.and d.mute, d.status == .ok && decide (epoch < fieldAt d.data 0 4))

/-- An item that a query sees: its slot, its code, its ID as read, and its tag. -/
structure Item where
  code : List Byte
  id   : Got
  tag  : Nat
  list : Nat

/-- The items of a list that a snapshot sees and whose code and tag can be read, with the accesses made. -/
def visibleItems (s : State) (w : Work) (x : IndexDesc) (l : ListDesc) (epoch : Nat) (filter : Bool) : Got × List Item :=
  let recs := readRecords s w l
  let slots := ((goodRecords recs).filter (fun r => decide (r.epoch ≤ epoch))).flatMap (fun r =>
    (List.range r.count).map (· + r.first))
  let found := slots.map (fun i =>
    let a := aliveAt s w l i epoch
    if !a.2 then (a.1, none)
    else
      let n := codeBytes x
      let c := readSa s w (l.codes + n * i) n
      let t : Got := if filter && l.hasTags then readSa s w (l.tags + i) 1 else {}
      let id := readSa s w (l.ids + 8 * i) 8
      let g := ((a.1.and c.mute).and t.mute).and { needs := id.needs }
      if c.status == .ok && t.status == .ok then
        (g, some { code := c.data, id := id, tag := fieldAt t.data 0 1, list := l.id })
      else (g, none))
  (Got.all (recs.map Got.mute ++ found.map (fun f => f.1)), found.filterMap (fun f => f.2))

end Sys2Proof.Machine
end

