-- ==== Sys2Proof/Machine/Search.lean ====
section
/-! DEFINITION. Vector similarity search: PQ_SCAN, HAM_SCAN, APPEND, DELETE, SEAL and TOPK_MERGE (chapter 07). -/

namespace Sys2Proof.Machine

open Sys2Proof

/-! ### Checks (R186, R297) -/

/-- The index that a descriptor names, and the status of the checks of R297 that every mode makes. -/
def indexStatus (s : State) (w : Work) : Status :=
  match indexOf s w.desc.param with
  | none => .permission
  | some x =>
    let here := saNode x.listTable == hubNode s && (x.kind == 1 || saNode x.codebook == hubNode s)
    let kindOk := (x.kind == 1) == (w.shape == shapeHam) && (if x.kind == 1 then x.metric == 0 else decide (x.metric ≤ 1))
    let cbOk := x.kind == 1 || (selOk x.cbFmt false (x.dim / x.m) false && selFmt x.cbFmt != 10)
    if !here then .permission else if !(kindOk && cbOk) then .formatUnsupported else .ok

/-- A list descriptor as a descriptor of the tenant meets it: PERMISSION where it does not exist or does not match. -/
def meetList (s : State) (w : Work) (x : IndexDesc) (n : Nat) : Got × ListDesc :=
  if x.lists ≤ n then (.fail .permission (hubNode s) 0, parseList [])
  else
    let g := readSa s w (listSa x n) 64
    let l := parseList g.data
    if g.status == .ok && g.needs.isEmpty && !listOk s w.desc.param n l then
      ({ g with data := [], status := .permission, node := hubNode s }, l)
    else (g.mute, l)

/-! ### Distances (R287, R288) -/

/-- Fused multiply-add, with the flag of the sum. -/
def accFma (acc : Num × Nat) (a b : Num) : Num × Nat :=
  let r := ffma a b acc.1
  (r, acc.2 ||| accFlag r [a, b, acc.1])

/-- Addition, with the flag of the sum. -/
def accAdd (acc : Num × Nat) (a : Num) : Num × Nat :=
  let r := fadd acc.1 a
  (r, acc.2 ||| accFlag r [a, acc.1])

/-- Entry of a distance table: the metric over the elements of one subspace in element order. -/
def tableEntry (metric : Nat) (q c : List Num) : Num × Nat :=
  let pairs := q.zip c
  if metric == 0 then pairs.foldl (fun acc p => accFma acc (fsub p.1 p.2) (fsub p.1 p.2)) (.zero, 0)
  else
    let r := pairs.foldl (fun acc p => accFma acc p.1 p.2) (.zero, 0)
    (fneg r.1, r.2)

/-- The distance of a product code: the sum of its M entries in subspace order. An entry that could not be read leaves
the item without a distance. -/
def codeDistance (table : Nat → Nat → Option Num) (code : List Byte) : Option (Num × Nat) :=
  match (List.range code.length).mapM (fun j => table j ((code[j]?).getD 0).toNat) with
  | none => none
  | some [] => none
  | some (e :: es) => some (es.foldl accAdd (e, 0))

/-- Ones among the low `n` bits. -/
def popcount : Nat → Nat → Nat
  | 0, _ => 0
  | n + 1, x => x % 2 + popcount n (x / 2)

/-- Hamming distance of two codes of `n` bits (R288). -/
def hamming (n : Nat) (a b : List Byte) : Num := .ofNat (popcount n (leNat a ^^^ leNat b))

/-! ### Order and selection (R289 to R292) -/

/-- A result entry: distance, item ID, list. -/
structure Cand where
  dist : Num
  id   : Nat
  list : Nat

/-- Whether a value is NaN. -/
def isNan : Num → Bool
  | .nan _ => true
  | _ => false

/-- The order of real entries (R289). -/
def candLt (a b : Cand) : Bool :=
  if isNan a.dist && isNan b.dist then decide (a.id < b.id)
  else if isNan a.dist then false
  else if isNan b.dist then true
  else if numLt a.dist b.dist then true
  else if numLt b.dist a.dist then false
  else decide (a.id < b.id)

/-- ITEM_ID of a pad entry. -/
def padId : Nat := 0xFFFFFFFFFFFFFFFF

/-- The 16 bytes of a result entry (R296). -/
def candBytes (c : Cand) : List Byte := leBytes 8 c.id ++ leBytes 4 (toFp32 c.dist) ++ leBytes 4 c.list

/-- The 16 bytes of a pad entry (R292). -/
def padBytes : List Byte := leBytes 8 padId ++ leBytes 4 0x7F7FFFFF ++ leBytes 4 0xFFFFFFFF

/-- A block of k entries, padded (R292). -/
def resultBlock (k : Nat) (cs : List Cand) : List Byte :=
  (cs.take k).flatMap candBytes ++ ((List.range (k - cs.length)).flatMap (fun _ => padBytes))

/-! ### SCAN -/

/-- The lists that a probe table names, in order, with their combined masks (R295). -/
def probeLists (q : Nat) (table : List Byte) : List (Nat × Nat) :=
  (chunks 8 (table.length / 8) table).foldl (fun acc e =>
    let n := bits (fieldAt e 0 4) 0 20
    let m := fieldAt e 4 2 % 2 ^ q
    if acc.any (fun x => x.1 == n) then acc.map (fun x => if x.1 == n then (n, x.2 ||| m) else x) else acc ++ [(n, m)]) []

/-- Fields of a SCAN (R294). -/
def scanQ (d : Descriptor) : Nat := bits d.arg0 2 4 + 1
def scanK (d : Descriptor) : Nat := bits d.arg0 6 10 + 1
def scanFilter (d : Descriptor) : Bool := bit d.arg0 16

/-- The codebook of an index: centroid values by row, `none` where a row could not be read (R271). -/
def readCodebook (s : State) (w : Work) (x : IndexDesc) : Got × List (Option (List Num)) × Nat :=
  let d := x.dim / x.m
  let size := storedSize x.cbFmt d
  let rows := (List.range (256 * x.m)).map (fun r => readSa s w (x.codebook + size * r) size)
  let vals := rows.map (fun g => if g.status == .ok then some (decodeRow x.cbFmt d g.data) else none)
  (Got.all (rows.map Got.mute), vals.map (fun v => v.map (·.1)), orFlags (vals.map (fun v => (v.map (·.2)).getD 0)))

/-- What a query measures an item by, and the flags of building it. -/
def distanceOf (x : IndexDesc) (srcFmt : Nat) (book : List (Option (List Num))) (query : Got) : (List Byte → Option (Num × Nat)) × Nat :=
  if query.status != .ok then (fun _ => none, 0)
  else if x.kind == 1 then
    let c := convertRow srcFmt 10 x.dim 0 query.data
    (fun code => some (hamming x.dim c.1 code, 0), c.2)
  else
    let d := x.dim / x.m
    let q := decodeRow srcFmt x.dim query.data
    let entries := (List.range book.length).map (fun r =>
      ((book[r]?).getD none).map (fun c => tableEntry x.metric ((q.1.drop (r / 256 * d)).take d) c))
    let table := fun j c => ((entries[256 * j + c]?).getD none).map (·.1)
    (codeDistance table, q.2 ||| orFlags (entries.map (fun e => (e.map (·.2)).getD 0)))

/-- Result of one query: its entries, the number of items it sees, its flags, and the reads of IDs that failed among the
first k (R290 to R293). -/
def queryResult (k : Nat) (dist : List Byte → Option (Num × Nat)) (pass : Nat → Bool) (items : List Item) :
    List Cand × Nat × Got :=
  let scored := (items.filter (fun i => pass i.tag)).filterMap (fun i => (dist i.code).map (fun d => (i, d)))
  let good := scored.filter (fun x => x.1.id.status == .ok)
  let sorted := sortBy candLt (good.map (fun x => { dist := x.2.1, id := fieldAt x.1.id.data 0 8, list := x.1.list }))
  let top := sorted.take k
  let met := (scored.filter (fun x => x.1.id.status != .ok)).filter (fun x =>
    decide (top.length < k) || match top.getLast? with
      | none => true
      | some c => !numLt c.dist x.2.1)
  (top, orFlags (scored.map (fun x => x.2.2)), Got.all (met.map (fun x => x.1.id.mute)))

/-- SCAN (R290 to R298). -/
def scanPlan (s : State) (w : Work) : Plan :=
  let hub := hubNode s
  match indexOf s w.desc.param with
  | none => .stop .permission hub
  | some x =>
    let k := scanK w.desc
    let q := scanQ w.desc
    let bad := w.desc.count == 0 || !selOk w.desc.srcFmt false x.dim false
      || (w.shape == shapePq && selFmt w.desc.srcFmt == 10)
    let st := if bad then worse (indexStatus s w) .formatUnsupported else indexStatus s w
    if st != .ok then .stop st (if st == .permission then hub else 0)
    else
      let probes := readPtr s w 0 0 (8 * w.desc.count)
      let stride := storedSize w.desc.srcFmt x.dim
      let queries := (List.range q).map (fun i => readPtr s w 1 (stride * i) stride)
      let tags := if scanFilter w.desc then (List.range q).map (fun i => readPtr s w 2 (32 * i) 32) else []
      if !(probes.needs ++ (Got.all queries).needs ++ (Got.all tags).needs).isEmpty then
        .wait (probes.needs ++ (Got.all queries).needs ++ (Got.all tags).needs)
      else
        let named := if probes.status == .ok then probeLists q probes.data else []
        let lists := named.map (fun p => (p.2, meetList s w x p.1))
        let open_ := lists.filter (fun l => l.1 != 0 && l.2.1.status == .ok && l.2.1.needs.isEmpty)
        let scanned := open_.map (fun l => (l.1, visibleItems s w x l.2.2 (bits w.desc.arg1 0 32) (scanFilter w.desc)))
        let book := if x.kind == 1 then ({}, [], 0) else readCodebook s w x
        let results := (List.range q).map (fun i =>
          let qg := (queries[i]?).getD {}
          let tg := (tags[i]?).getD {}
          let items := (scanned.filter (fun c => bit c.1 i)).flatMap (fun c => c.2.2)
          let d := distanceOf x w.desc.srcFmt book.2.1 qg
          let pass := fun t => !scanFilter w.desc || (tg.status == .ok && bit (leNat tg.data) t)
          let r := queryResult k d.1 pass items
          (r.1, d.2 ||| r.2.1, r.2.2))
        let got := Got.all ([probes.mute] ++ queries.map Got.mute ++ tags.map Got.mute ++ lists.map (fun l => l.2.1)
          ++ scanned.map (fun c => c.2.1) ++ [book.1] ++ results.map (fun r => r.2.2))
        let short := (results.filter (fun r => decide (r.1.length < k))).length
        { needs := got.needs, status := worse got.status (if short == 0 then .ok else .okPartialK), node := got.node,
          refused := got.refused,
          writes := [{ tva := isTva w.desc 3, addr := w.desc.ptr3, data := results.flatMap (fun r => resultBlock k r.1) }],
          count := results.foldl (fun m r => min m r.1.length) k,
          result := (named.filter (fun p => p.2 != 0)).length + short * 2 ^ 32,
          conv := orFlags (results.map (fun r => r.2.1)) ||| book.2.2 }

/-! ### APPEND and DELETE (R280 to R282) -/

/-- Fields of APPEND and DELETE (R294). -/
def mutList (d : Descriptor) : Nat := bits d.arg0 4 20
def mutFirst (d : Descriptor) : Nat := bits d.arg0 24 40

/-- Effective epoch that the journal entry of a mutation carries (R277). -/
def mutEpoch (d : Descriptor) : Nat := bits d.arg1 0 32

/-- A mutation that the checks end. -/
def mutStop (st : Status) (w : Work) (hub : Nat) : Plan :=
  { Plan.stop st (if st == .permission || st == .poison then hub else 0) with result := mutEpoch w.desc, intact := true }

/-- The checks that APPEND and DELETE make before they read their list. -/
def mutStatus (s : State) (w : Work) : Status :=
  let st := indexStatus s w
  let st := if w.desc.count == 0 then worse st .formatUnsupported else st
  if noEpoch ≤ mutEpoch w.desc then worse st .quotaExceeded else st

/-- A write through an SA. -/
def saWrite (sa : Nat) (data : List Byte) (poison : Bool) : WriteReq := { tva := false, addr := sa, data := data, poison := poison }

/-- A write of bytes as they were read: poison stays poison. -/
def carry (sa : Nat) (g : Got) : WriteReq := saWrite sa g.data (g.status == .poison)

/-- The writes of an APPEND whose range is free: codes, IDs and tags, then the record in order and REC_COUNT (R280). -/
def appendWrites (x : IndexDesc) (l : ListDesc) (n : Nat) (recs : List AppendRec) (new : AppendRec)
    (codes ids tags : Got) : List WriteReq :=
  let sorted := insertBy (fun a b => decide (a.first < b.first)) new recs
  [carry (l.codes + codeBytes x * new.first) codes, carry (l.ids + 8 * new.first) ids]
    ++ (if l.hasTags then [carry (l.tags + new.first) tags] else [])
    ++ [saWrite l.records (sorted.flatMap recordBytes) false, saWrite (listSa x n + 40) (leBytes 4 sorted.length) false]

/-- APPEND (R280). -/
def appendPlan (s : State) (w : Work) : Plan :=
  let hub := hubNode s
  let st := mutStatus s w
  match indexOf s w.desc.param with
  | none => mutStop .permission w hub
  | some x =>
    if st != .ok then mutStop st w hub
    else
      let m := meetList s w x (mutList w.desc)
      let l := m.2
      let recs := readRecords s w l
      let got := m.1.and (Got.all (recs.map Got.mute))
      let first := mutFirst w.desc
      let n := w.desc.count
      if !got.needs.isEmpty then .wait got.needs
      else if m.1.status != .ok then { mutStop m.1.status w m.1.node with refused := m.1.refused }
      else
        let exact := (goodRecords recs).any (fun r => r.first == first && r.count == n)
        let meets := (goodRecords recs).any (fun r => decide (first < r.first + r.count) && decide (r.first < first + n))
        if l.capacity < first + n then mutStop .quotaExceeded w hub
        else if got.status != .ok then { mutStop got.status w got.node with refused := got.refused }
        else if exact then { mutStop .ok w hub with count := n }
        else if meets then mutStop .ok w hub
        else if 65536 ≤ l.recCount then mutStop .quotaExceeded w hub
        else
          let codes := readPtr s w 0 0 (codeBytes x * n)
          let ids := readPtr s w 1 0 (8 * n)
          let tags : Got := if l.hasTags then readPtr s w 2 0 n else {}
          let src := (codes.mute.and ids.mute).and tags.mute
          { needs := src.needs, status := src.status, node := src.node, refused := src.refused, intact := true,
            writes := if src.status == .ok || src.status == .poison then
                appendWrites x l (mutList w.desc) (goodRecords recs) { first := first, count := n, epoch := mutEpoch w.desc }
                  codes ids tags
              else [],
            count := if src.status == .ok || src.status == .poison then n else 0, result := mutEpoch w.desc }

/-- What a DELETE has found on the slots before: its accesses, its writes, the bitmap bytes it changed, slots set. -/
structure DelAcc where
  got    : Got := {}
  writes : List WriteReq := []
  bytes  : Tbl Nat := []
  count  : Nat := 0

/-- DELETE of one slot: the epoch is written, then the bit is set (R281). -/
def deleteSlot (s : State) (w : Work) (l : ListDesc) (recs : List AppendRec) (acc : DelAcc) (slot : Nat) : DelAcc :=
  if !recs.any (fun r => covers r slot) then
    let t := readTomb s w l slot
    { acc with got := acc.got.and t.mute, count := acc.count + flag (t.status == .ok && tombSet t slot) }
  else
    let t := readTomb s w l slot
    if t.status != .ok then { acc with got := acc.got.and t.mute }
    else
      let now := Tbl.at acc.bytes (slot / 8) (fieldAt t.data 0 1)
      if bit now (slot % 8) then { acc with got := acc.got.and t.mute, count := acc.count + 1 }
      else
        let new := now + 2 ^ (slot % 8)
        { got := acc.got.and t.mute, count := acc.count + 1, bytes := Tbl.put acc.bytes (slot / 8) new,
          writes := acc.writes ++ [saWrite (delEpochSa l slot) (leBytes 4 (mutEpoch w.desc)) false,
                                   saWrite (l.tombs + slot / 8) (leBytes 1 new) false] }

/-- DELETE (R281). -/
def deletePlan (s : State) (w : Work) : Plan :=
  let hub := hubNode s
  let st := mutStatus s w
  match indexOf s w.desc.param with
  | none => mutStop .permission w hub
  | some x =>
    if st != .ok then mutStop st w hub
    else
      let m := meetList s w x (mutList w.desc)
      let recs := readRecords s w m.2
      let slots := readPtr s w 0 0 (8 * w.desc.count)
      let got := (m.1.and (Got.all (recs.map Got.mute))).and slots.mute
      if !got.needs.isEmpty then .wait got.needs
      else if got.status != .ok then { mutStop got.status w got.node with refused := got.refused }
      else
        let named := (chunks 8 w.desc.count slots.data).map (fun b => bits (leNat b) 0 40)
        let r := named.foldl (deleteSlot s w m.2 (goodRecords recs)) {}
        { needs := r.got.needs, status := r.got.status, node := r.got.node, refused := r.got.refused, intact := true,
          writes := r.writes, count := r.count, result := mutEpoch w.desc }

/-! ### SEAL (R278) -/

/-- SEAL: it completes once SEALED is at or above its epoch; until then it waits. -/
def sealPlan (s : State) (w : Work) : Option Plan :=
  let hub := hubNode s
  let e := bits w.desc.arg1 0 32
  match indexOf s w.desc.param with
  | none => some (mutStop .permission w hub)
  | some x =>
    let st := indexStatus s w
    let st := if e == noEpoch then worse st .quotaExceeded else st
    let p : Plan := { status := st, node := if st == .permission then hub else 0, result := x.sealed + x.sealTarget * 2 ^ 32 }
    if st != .ok then some p else if e ≤ x.sealed then some p else none

/-! ### TOPK_MERGE (R299 to R301) -/

/-- Entries of a result array that are not pads. -/
def parseEntries (b : List Byte) : List Cand :=
  ((chunks 16 (b.length / 16) b).map (fun e =>
    { dist := decodeElem 0 (fieldAt e 8 4), id := fieldAt e 0 8, list := fieldAt e 12 4 : Cand })).filter (fun c => c.id != padId)

/-- Entries kept once per item ID, the first of each (R300). -/
def dedupCands (l : List Cand) : List Cand :=
  l.foldl (fun acc c => if acc.any (fun x => x.id == c.id) then acc else acc ++ [c]) []

/-- TOPK_MERGE: an input that does not answer, or reads poison, is skipped (R301). -/
def topkPlan (s : State) (w : Work) : Plan :=
  let n := w.desc.count
  let k := bits w.desc.arg0 0 10 + 1
  if n == 0 || 4096 < n then .stop .formatUnsupported
  else
    let table := readPtr s w 0 0 (16 * n)
    if !table.needs.isEmpty then .wait table.needs
    else
      let rows := if table.status == .ok then chunks 16 n table.data else []
      let inputs := rows.map (fun r => readSa s w (fieldAt r 0 8) (16 * fieldAt r 8 4))
      let got := Got.all (table.mute :: inputs.map Got.mute)
      if !got.needs.isEmpty then .wait got.needs
      else
        let good := inputs.filter (fun g => g.status == .ok)
        let sorted := sortBy candLt (good.flatMap (fun g => parseEntries g.data))
        let kept := (if bit w.desc.arg0 10 then dedupCands sorted else sorted).take k
        { status := worse got.status (if kept.length < k then .okPartialK else .ok), node := got.node,
          refused := got.refused,
          writes := [{ tva := isTva w.desc 1, addr := w.desc.ptr1, data := resultBlock k kept }],
          count := kept.length, result := good.length + (n - good.length) * 2 ^ 32 }

/-! ### Commands -/

/-- Whether a row of a scan mode may act on a descriptor: it is of a scan shape in that mode. -/
def runScan (s : State) (queue : Nat) (seq : Seq48) (mode : Nat) (plan : State → Work → Plan) : State :=
  match workOf s queue seq with
  | none => s
  | some w => if isScanShape w && scanMode w.desc == mode then runShape s queue seq w.shape plan else s

/-- PQ_SCAN (R290). -/
def execPqScan (queue : Nat) (seq : Seq48) (s : State) : Host.Outcome State Fault Refusal :=
  act s (fun s => match workOf s queue seq with
    | none => s
    | some w => if w.shape == shapePq && !scanHeld s w then runScan s queue seq modeScan scanPlan else s)

/-- HAM_SCAN (R288). -/
def execHamScan (queue : Nat) (seq : Seq48) (s : State) : Host.Outcome State Fault Refusal :=
  act s (fun s => match workOf s queue seq with
    | none => s
    | some w => if w.shape == shapeHam && !scanHeld s w then runScan s queue seq modeScan scanPlan else s)

/-- APPEND (R280). -/
def execAppend (queue : Nat) (seq : Seq48) (s : State) : Host.Outcome State Fault Refusal :=
  act s (fun s => runScan s queue seq modeAppend appendPlan)

/-- DELETE (R281). -/
def execDelete (queue : Nat) (seq : Seq48) (s : State) : Host.Outcome State Fault Refusal :=
  act s (fun s => runScan s queue seq modeDelete deletePlan)

/-- SEAL (R278). -/
def execSeal (queue : Nat) (seq : Seq48) (s : State) : Host.Outcome State Fault Refusal :=
  act s (fun s =>
    let s := match workOf s queue seq with
      | none => s
      | some w => raiseSealed s w.desc.param
    match (workOf s queue seq).bind (sealPlan s) with
    | none => s
    | some p => runScan s queue seq modeSeal (fun _ _ => p))

/-- TOPK_MERGE (R300). -/
def execTopkMerge (queue : Nat) (seq : Seq48) (s : State) : Host.Outcome State Fault Refusal :=
  act s (fun s => runShape s queue seq shapeTopk topkPlan)

/-- SEGMENT_PLACE (R156): a scan whose snapshot is not sealed waits in the scheduler core (R279). -/
def execSegmentPlace (queue : Nat) (seq : Seq48) (s : State) : Host.Outcome State Fault Refusal :=
  act s (fun s => placeSegment scanHeld s queue seq)

end Sys2Proof.Machine
end

