-- ==== Sys2Proof/Machine/Queues.lean ====
section
/-! DEFINITION. Adwen queues: doorbells, acceptance, the journal and its copies, replay and Strip (chapter 05). -/

namespace Sys2Proof.Machine

open Sys2Proof

/-! ### Rings -/

/-- Entries of a queue's rings: 64 × 2^RING_LOG2 (R172, R218). -/
def ringEntries (b : QueueBind) : Nat := 64 * 2 ^ b.log2n

/-- Slot of a sequence number in a ring (R174). -/
def slotOf (b : QueueBind) (seq : Seq48) : Nat := seq.toNat % ringEntries b

/-- A descriptor from its 64 bytes (R182). -/
def parseDesc (b : List Byte) : Descriptor :=
  { seq := BitVec.ofNat 48 (fieldAt b 0 6), opcode := fieldAt b 6 1, flags := fieldAt b 7 1, srcFmt := fieldAt b 8 1,
    dstFmt := fieldAt b 9 1, param := fieldAt b 10 2, count := fieldAt b 12 4, ptr0 := fieldAt b 16 8,
    ptr1 := fieldAt b 24 8, ptr2 := fieldAt b 32 8, ptr3 := fieldAt b 40 8, arg0 := fieldAt b 48 8,
    arg1 := fieldAt b 56 4, userTag := fieldAt b 60 4 }

/-- The submission slot of a sequence number as the hub reads it: nothing where it reads poison. -/
def readSlot (s : State) (b : QueueBind) (seq : Seq48) : Option Descriptor :=
  let off := saOff b.sqBase + 64 * slotOf b seq
  if rangeGone s off 64 || rangePoison s off 64 then none else some (parseDesc (readMem s off 64))

/-- The 32 bytes of a completion record (R187). -/
def completionBytes (c : Completion) : List Byte :=
  leBytes 6 c.seq.toNat ++ leBytes 1 (statusCode c.status) ++ leBytes 1 c.conv ++ leBytes 4 c.userTag ++ leBytes 4 c.count
    ++ leBytes 8 c.result ++ leBytes 4 c.detail ++ leBytes 1 c.info ++ zeros 3

/-- Writes a completion record to its slot (R174, R188). -/
def postRecord (s : State) (b : QueueBind) (c : Completion) : State :=
  writeMem s (saOff b.cqBase + 32 * slotOf b c.seq) (completionBytes c)

/-! ### Journals -/

/-- A journal. -/
def journalOf (s : State) (k : Nat) : Journal := (s.journals[k]?).getD (Journal.home k)

/-- Changes a journal. -/
def modJournal (s : State) (k : Nat) (f : Journal → Journal) : State :=
  { s with journals := s.journals.modify k f }

/-- Whether a journal has a copy. -/
def hasCopy (j : Journal) : Bool := j.primary.isSome || j.mirror.isSome

/-- Whether a journal runs on one copy (R203). -/
def singleCopy (j : Journal) : Bool := j.primary.isSome != j.mirror.isSome

/-- REGION_STATE.JOURNAL: 0 both copies, 1 primary only, 2 mirror only, 3 neither. -/
def journalCode (j : Journal) : Nat := flag j.mirror.isNone + 2 * flag j.primary.isNone

/-- Open entries of a journal (R201). -/
def openEntries (s : State) (k : Nat) : List Work := s.works.filter (fun w => w.region == k)

/-- Bytes of one item of a redo record: its 16-byte header, and its bytes padded to 8 (R198). -/
def redoItemBytes : RedoItem → Nat
  | .bytes _ d => 16 + (d.length + 7) / 8 * 8
  | .remote _ d => 16 + (d.length + 7) / 8 * 8
  | .host _ _ d => 16 + (d.length + 7) / 8 * 8
  | .replica _ _ _ _ d => 16 + (d.length + 7) / 8 * 8
  | .moved _ _ _ d => 16 + (d.length + 7) / 8 * 8
  | .delta _ _ _ _ _ items => sumNat (items.map (fun i => 16 + 4 * i.elems.length))
  | .atomic _ _ _ _ entries => 48 * entries.length
  | .oldHere _ _ _ _ => 24
  | .oldFar _ _ _ _ => 24
  | .oldHost _ _ _ _ _ => 24

/-- Length of a redo record (R198). -/
def redoBytes (items : List RedoItem) : Nat := 32 + sumNat (items.map redoItemBytes)

/-- Redo bytes of a descriptor that has a record: in REDO_READY, or reserved (R201). -/
def workRedo (w : Work) : Nat := if w.redo.isEmpty then 0 else redoBytes w.redo

/-- Whether an open entry is in REDO_READY, or its apply is in progress. -/
def redoSet (w : Work) : Bool := w.phase == .redoReady || (w.phase == .applying && !w.redo.isEmpty)

/-- REDO_READY bytes of a journal. -/
def redoReadyBytes (s : State) (k : Nat) : Nat := sumNat (((openEntries s k).filter redoSet).map workRedo)

/-- Whether a journal is below every live limit (R201). -/
def belowLimits (s : State) (k : Nat) : Bool :=
  decide ((openEntries s k).length < 32768) && decide (redoReadyBytes s k < 8388608)
    && decide (sumNat ((openEntries s k).map workRedo) < 67108864) && decide ((journalOf s k).logs.length < 262144)

/-! ### Doorbells (R178 to R181) -/

/-- A queue's binding where its tenant is bound to a device, and the hub takes doorbells (R180, R209, R210). -/
def doorbellBind (s : State) (ld queue : Nat) : Option QueueBind :=
  (bindOf s queue).bind (fun b =>
    if boundTo s ld b.tenant && !s.pins.failing then some b else none)

/-- A doorbell write that is not taken (R178, R179). -/
def doorbellError (s : State) (queue : Nat) : State := modQueue s queue (fun x => { x with dbErr := true })

/-- SQ_TAIL (R178). -/
def execSqTail (ld queue : Nat) (tail : Seq48) (s : State) : Host.Outcome State Fault Refusal :=
  act s (fun s => match doorbellBind s ld queue with
    | none => s
    | some b =>
      let x := queueOf s queue
      if !Seq48.before tail x.sqTail && Seq48.notAfter tail (x.accHead + BitVec.ofNat 48 (ringEntries b)) then
        modQueue s queue (fun x => { x with sqTail := tail })
      else doorbellError s queue)

/-- CQ_HEAD: the completion log records before it are freed (R179, R196). -/
def execCqHead (ld queue : Nat) (head : Seq48) (s : State) : Host.Outcome State Fault Refusal :=
  act s (fun s => match doorbellBind s ld queue with
    | none => s
    | some b =>
      let x := queueOf s queue
      if !Seq48.before head x.cqHead && Seq48.notAfter head x.cqTail then
        modJournal (modQueue s queue (fun x => { x with cqHead := head })) b.region (fun j =>
          { j with logs := j.logs.filter (fun r => !(r.queue == queue && Seq48.before r.record.seq head)) })
      else doorbellError s queue)

/-- Puts a queue in REFUSING (R219). -/
def refuseQueue (s : State) (queue : Nat) (reason : Refuse) : State :=
  modQueue s queue (fun x => { x with state := .refusing, refuse := reason })

/-- Whether a queue has an announced descriptor that is not accepted, and accepts. -/
def announced (x : Queue) : Bool := x.state == .running && Seq48.before x.accHead x.sqTail && !x.unbinding

/-- BAD_SEQ: the slot did not come to hold the expected SEQ within 20 µs (R181). -/
def execBadSeq (queue : Nat) (s : State) : Host.Outcome State Fault Refusal :=
  act s (fun s => match bindOf s queue with
    | none => s
    | some b =>
      let x := queueOf s queue
      if announced x && (readSlot s b x.accHead).map (·.seq) != some x.accHead then refuseQueue s queue .badSeq else s)

/-! ### Acceptance (R190) -/

/-- Whether the hub is fenced: it lies in a domain and holds no authority (R420, R421). -/
def fenced (s : State) : Bool := s.boot.image.isSome && !s.fabric.authority

/-- Whether a fenced hub refuses a descriptor (R421). -/
def fencedWork (b : QueueBind) (d : Descriptor) : Bool :=
  (d.opcode == 1 && (b.shape == shapeScatter || b.shape == shapeAtomic || b.shape == shapePush)) || d.opcode == 4

/-- A bit of READY_VEC (R531). -/
def readyBit (s : State) (i : Nat) : Bool := bit s.boot.fnReady.toNat i

/-- Whether the start-up of a journal's queues is done: step 14 of R521 for its region, or for every region. -/
def queuesStarted (s : State) (region : Nat) : Bool := readyBit s 5 || readyBit s (112 + region)

/-- Whether acceptance waits in the whole hub (R210, R212, R456, R541, R557). -/
def acceptanceWaits (s : State) : Bool :=
  s.flush.area.isSome || s.pins.failing || !coreRuns s schedulerCore || decide (s.comp.live.lastSeq < s.comp.catchTo)

/-- Whether VDD_ENG stands at the floor of accepted work, or the power core can raise it there (R555). -/
def railReady (s : State) : Bool := decide (650 ≤ s.power.vddMv) || coreRuns s powerCore

/-- VDD_ENG raised to 0.65 V (R5, R555). -/
def raiseRail (s : State) : State :=
  if 650 ≤ s.power.vddMv then s
  else emit (logPoint { s with power := { s.power with vddMv := 650, target := max 650 s.power.target } } powerCore 0 2 650)
    (.avs 650)

/-- Whether a descriptor names stochastic rounding in its destination while a random source fails (R114). -/
def srBarred (s : State) (d : Descriptor) : Bool :=
  d.opcode == 1 && selRnd d.dstFmt == 2 && !s.units.srFailing.isEmpty

/-- The descriptor as its journal entry holds it: a mutation carries its effective epoch (R277). -/
def journalled (s : State) (b : QueueBind) (d : Descriptor) : Descriptor :=
  if d.opcode == 1 && (b.shape == shapePq || b.shape == shapeHam) && (scanMode d == modeAppend || scanMode d == modeDelete) then
    match indexOf s d.param with
    | none => d
    | some x => { d with arg1 := min noEpoch (effectiveEpoch x (bits d.arg1 0 32)) }
  else d

/-- A descriptor just accepted. -/
def newWork (s : State) (queue : Nat) (b : QueueBind) (d : Descriptor) : Work :=
  { queue := queue, seq := d.seq, desc := journalled s b d, tenant := b.tenant, region := b.region, shape := b.shape,
    stamp := s.stamp, replayed := false, restored := false, singleCopy := singleCopy (journalOf s b.region),
    barred := srBarred s d, strip := false, phase := .ready, delivered := false, status := .ok,
    node := 0, conv := 0, count := 0, result := 0, placed := 0, cluster := 0, waits := [], acks := [], owners := [],
    fetched := [], asked := [], trowel := [], stale := [], redo := [], olds := [], guards := [], waited := none,
    tallyBytes := 0, tallyPkts := 0, layer := 0, staged := [], follow := [] }

/-- A SEAL raises SEAL_TARGET at its acceptance (R278), which counts as its DELIVER write (R283). -/
def sealAtAccept (s : State) (w : Work) : State :=
  let e := bits w.desc.arg1 0 32
  if isScanShape w && scanMode w.desc == modeSeal && indexStatus s w == .ok && e != noEpoch then
    modWork (modIndex s w.desc.param (fun x => { x with sealTarget := max x.sealTarget e })) w.queue w.seq
      (fun x => { x with delivered := true })
  else s

/-- Tags of the fabric messages of a tenant that are unacknowledged: a FENCE of scope FABRIC waits on them (R353). -/
def tenantTags (s : State) (tenant : Nat) : List Nat :=
  (s.fabric.outstanding.filter (fun o => o.tenant == tenant && match o.await with
    | .hostRead _ _ _ => false
    | .ats _ _ _ => false
    | _ => true)).map (·.tag)

/-- Earlier descriptors that a FENCE of a scope waits on: of its queue, or of its tenant (R353). A descriptor that a Strip
reached counts as complete (R354). -/
def fenceWaits (s : State) (w : Work) (scope : Nat) : List Work :=
  s.works.filter (fun x => decide (x.stamp < w.stamp) && !x.strip && (if scope == 0 then x.queue == w.queue else x.tenant == w.tenant))

/-- What a FENCE finds to wait on at its acceptance (R352, R353). -/
def fenceAtAccept (s : State) (w : Work) : Work :=
  if w.desc.opcode != 2 then w
  else { w with result := (fenceWaits s w (bits w.desc.param 0 2)).length, waits := tenantTags s w.tenant }

/-- Acceptance of a descriptor: its open entry is written and ACC_HEAD advances (R190, R194). -/
def acceptWork (s : State) (queue : Nat) (b : QueueBind) (d : Descriptor) : State :=
  let w := fenceAtAccept s (newWork s queue b d)
  let s := { s with works := s.works ++ [w], stamp := s.stamp + 1 }
  sealAtAccept (modQueue s queue (fun x => { x with accHead := x.accHead + 1 })) w

/-- DESCRIPTOR_ACCEPT (R185, R190). -/
def execDescriptorAccept (queue : Nat) (s : State) : Host.Outcome State Fault Refusal :=
  act s (fun s => match bindOf s queue with
    | none => s
    | some b =>
      let x := queueOf s queue
      let j := journalOf s b.region
      if !announced x || !Seq48.before x.accHead (x.cqHead + BitVec.ofNat 48 (ringEntries b)) || acceptanceWaits s
          || j.rebuilding || j.replay || !queuesStarted s b.region then s
      else if !hasCopy j then refuseQueue s queue .journalDown
      else match readSlot s b x.accHead with
        | none => s
        | some d =>
          if d.seq != x.accHead then s
          else if 5 ≤ d.opcode then refuseQueue s queue .badOpcode
          else if bits d.flags 5 3 != 0 then refuseQueue s queue .reservedSet
          else if fenced s && fencedWork b d then refuseQueue s queue .fenced
          else if belowLimits s b.region && railReady s then acceptWork (raiseRail s) queue b d
          else s)

/-- NOP completes with OK (R184). -/
def execNop (queue : Nat) (seq : Seq48) (s : State) : Host.Outcome State Fault Refusal :=
  act s (fun s => match workOf s queue seq with
    | none => s
    | some w => if w.desc.opcode == 0 && w.phase == .ready && !awaitsReplay s w then
        modWork s queue seq (fun x => { x with phase := .done }) else s)

/-! ### Strip (R213 to R217) -/

/-- The Strip register of a sender: the management port keeps the one past the logical devices. -/
def senderKey : Sender → Nat
  | .ld n => n
  | .mgmt => 64

/-- A Strip command that is not taken. -/
def stripError (s : State) (who : Sender) : State :=
  { s with strips := Tbl.change s.strips (senderKey who) Strip.idle (fun x => { x with err := true }) }

/-- Whether a Strip of a sender is in progress. -/
def stripBusy (s : State) (who : Sender) : Bool := (Tbl.at s.strips (senderKey who) Strip.idle).busy

/-- Terminal state of a descriptor that a Strip reaches (R213): `none` is COMPLETE. -/
def terminal (w : Work) : Option Status :=
  if w.desc.opcode == 1 && !idempotent w.shape then
    if w.delivered || redoSet w then none else some .aborted
  else if w.delivered then some .abortedPartial else some .aborted

/-- A descriptor in its terminal state (R213, R214). -/
def stripWork (w : Work) : Work :=
  match terminal w with
  | none => { w with strip := true }
  | some st => { w with strip := true, phase := .done, status := worse w.status st, waits := [], acks := [], guards := [],
                        tallyBytes := 0, tallyPkts := 0 }

/-- Ends a descriptor by Strip: its segments leave the clusters. -/
def stripOne (s : State) (w : Work) : State :=
  let s := modWork s w.queue w.seq stripWork
  if (terminal w).isSome then liftSegments s w.queue w.seq else s

/-- Runs a Strip on the descriptors that a test takes; the queues of `targets` enter STRIPPING (R213, R216). -/
def runStrip (s : State) (who : Sender) (targets : List Nat) (hit : Work → Bool) : State :=
  let ws := s.works.filter (fun w => hit w && !w.strip)
  let count (p : Option Status → Bool) : Nat := min 0xFFFF (ws.filter (fun w => p (terminal w))).length
  let s := ws.foldl stripOne s
  let s := targets.foldl (fun s q => modQueue s q (fun x => { x with state := .stripping })) s
  let r : Strip :=
    { busy := true, err := (Tbl.at s.strips (senderKey who) Strip.idle).err, done := false, targets := targets,
      aborted := count (· == some .aborted), partials := count (· == some .abortedPartial), complete := count (·.isNone) }
  { s with strips := Tbl.put s.strips (senderKey who) r }

/-- Whether a sender may strip a tenant's work: only a logical device that carries the tenant. -/
def mayStrip (s : State) (who : Sender) (tenant : Nat) : Bool :=
  match who with
  | .mgmt => false
  | .ld n => boundTo s n tenant

/-- A Strip of one queue. -/
def stripQueueNow (s : State) (who : Sender) (queue : Nat) : State :=
  match bindOf s queue with
  | none => stripError s who
  | some b =>
    if stripBusy s who || !mayStrip s who b.tenant then stripError s who
    else runStrip s who [queue] (fun w => w.queue == queue)

/-- A Strip of every queue of a tenant. -/
def stripTenantNow (s : State) (who : Sender) (tenant : Nat) : State :=
  if stripBusy s who || !mayStrip s who tenant then stripError s who
  else
    let qs := (s.comp.live.queueBinds.filter (fun e => e.2.tenant == tenant)).map (·.1)
    runStrip s who qs (fun w => qs.contains w.queue)

/-- Whether a descriptor has a segment on a cluster. -/
def onCluster (s : State) (c : Nat) (w : Work) : Bool :=
  let x := clusterOf s c
  (x.inFlight ++ x.placed).any (fun g => g.queue == w.queue && g.seq == w.seq)

/-- A Strip of every descriptor with a segment on one cluster; no queue stops (R216). -/
def stripClusterNow (s : State) (who : Sender) (cluster : Nat) : State :=
  if stripBusy s who || !hasAdmin s who || decide (32 ≤ cluster) then stripError s who
  else runStrip s who [] (onCluster s cluster)

/-- STRIP_QUEUE (R213). -/
def execStripQueue (who : Sender) (queue : Nat) (s : State) : Host.Outcome State Fault Refusal :=
  act s (fun s => stripQueueNow s who queue)

/-- STRIP_TENANT (R213). -/
def execStripTenant (who : Sender) (tenant : Nat) (s : State) : Host.Outcome State Fault Refusal :=
  act s (fun s => stripTenantNow s who tenant)

/-- STRIP_CLUSTER (R213). -/
def execStripCluster (who : Sender) (cluster : Nat) (s : State) : Host.Outcome State Fault Refusal :=
  act s (fun s => stripClusterNow s who cluster)

/-- RESUME: leaves REFUSING or STOPPED with SQ_TAIL set to TAIL (R216, R218, R219). -/
def resumeNow (s : State) (ld queue : Nat) (tail : Seq48) : State :=
  match doorbellBind s ld queue with
  | none => s
  | some b =>
    let x := queueOf s queue
    let fits := Seq48.notAfter x.accHead tail && Seq48.notAfter tail (x.accHead + BitVec.ofNat 48 (ringEntries b))
    if (x.state == .refusing || x.state == .stopped) && fits then
      modQueue s queue (fun x => { x with state := .running, refuse := .none, sqTail := tail })
    else doorbellError s queue

/-- RESUME (R216). -/
def execResume (ld queue : Nat) (tail : Seq48) (s : State) : Host.Outcome State Fault Refusal :=
  act s (fun s => resumeNow s ld queue tail)

/-! ### Replay (R204, R205, R217) -/

/-- An open entry run again from its start, or its redo record applied again (R204). -/
def rerun (w : Work) : Work :=
  if w.strip then
    if redoSet w || (w.desc.opcode == 1 && !idempotent w.shape && w.delivered) then { w with phase := .redoReady, acks := [], waits := [] }
    else if w.phase == .done then w
    else stripWork { w with delivered := w.desc.opcode == 1 && idempotent w.shape }
  else if redoSet w || (w.desc.opcode == 1 && !idempotent w.shape && w.delivered) then
    { w with phase := .redoReady, replayed := true, acks := [], waits := [] }
  else
    { w with phase := .ready, replayed := true, status := .ok,
             node := 0, conv := 0, count := 0, result := 0, placed := 0, waits := [], acks := [], owners := [],
             fetched := [], asked := [], trowel := [], stale := [], redo := [], olds := [], guards := [],
             tallyBytes := 0, tallyPkts := 0, layer := 0, staged := [], follow := [] }

/-- Forgets what a descriptor had under way: its segments, transactions and held accesses. -/
def abandon (s : State) (w : Work) : State :=
  let mine (a : Await) : Bool := match a with
    | .load q n _ => q == w.queue && n == w.seq
    | .store q n => q == w.queue && n == w.seq
    | .tally q n => q == w.queue && n == w.seq
    | .credit q n => q == w.queue && n == w.seq
    | .check q n => q == w.queue && n == w.seq
    | .prep q n => q == w.queue && n == w.seq
    | .delta q n => q == w.queue && n == w.seq
    | .atomic q n _ => q == w.queue && n == w.seq
    | .version q n => q == w.queue && n == w.seq
    | .hostRead q n _ => q == w.queue && n == w.seq
    | _ => false
  let s := liftSegments s w.queue w.seq
  { s with fabric := { s.fabric with outstanding := s.fabric.outstanding.filter (fun o => !mine o.await) } }

/-- Replays the open entries that a test takes. -/
def replayWorks (s : State) (hit : Work → Bool) : State :=
  let s := (s.works.filter hit).foldl abandon s
  { s with works := s.works.map (fun w => if hit w then rerun w else w) }

/-- Writes the log records of a journal to their completion slots again (R204). -/
def repostLogs (s : State) (k : Nat) : State :=
  (journalOf s k).logs.foldl (fun s r => match bindOf s r.queue with
    | none => s
    | some b => postRecord s b r.record) s

/-- REPLAY of a journal that awaits it: its log records are written again and its open entries run again (R204). -/
def execReplay (journal : Nat) (s : State) : Host.Outcome State Fault Refusal :=
  act s (fun s =>
    let j := journalOf s journal
    if !j.replay || !hasCopy j then s
    else modJournal (replayWorks (repostLogs s journal) (fun w => w.region == journal)) journal
      (fun j => { j with replay := false }))

/-! ### Journal copies (R202, R203) -/

/-- Where a lost primary is rebuilt: the other stack of its host region, or the next region's once that one is isolated. -/
def primaryHome (s : State) (j : Journal) : Option Nat :=
  let host := if regionIn s j.host then j.host else (j.host + 1) % 4
  [2 * host, 2 * host + 1].find? (unitIn s .near)

/-- Where a mirror is built: the lowest channel in service of the regions after its host's, in order (R202). -/
def mirrorHome (s : State) (host : Nat) : Option Nat :=
  firstSome (fun i => [0, 1, 2].findSome? (fun c =>
    let ch := 3 * ((host + i) % 4) + c
    if unitIn s .far ch then some ch else none)) [1, 2, 3]

/-- The queues of a journal that is lost, LOST by R580. -/
def loseQueue (s : State) (queue : Nat) : State :=
  let x := queueOf s queue
  let last := x.sqTail - 1
  let s := modQueue s queue (fun x =>
    { x with state := .stopped, lost := true, lostFirst := x.cqTail, lostLast := last, lostValid := x.cqTail != x.sqTail,
             accHead := x.sqTail, cqTail := x.sqTail })
  let s := (s.works.filter (fun w => w.queue == queue)).foldl abandon s
  raise { s with works := s.works.filter (fun w => w.queue != queue) } 0x0402
    { addr := queue, arg := last.toNat, tenant := (bindOf s queue).map (·.tenant) }

/-- A journal whose content no copy holds any more (R208). -/
def loseJournal (s : State) (k : Nat) : State :=
  let qs := (s.comp.live.queueBinds.filter (fun e => e.2.region == k)).map (·.1)
  modJournal (qs.foldl loseQueue s) k (fun j => { j with logs := [], replay := false })

/-- A journal after parts left service: lost copies go, and are rebuilt where a home is left (R202). -/
def checkJournal (s : State) (k : Nat) : State :=
  let j := journalOf s k
  let p := j.primary.bind (fun u => if unitIn s .near u then some u else none)
  let m := j.mirror.bind (fun u => if unitIn s .far u then some u else none)
  if p == j.primary && m == j.mirror then s
  else
    let host := if regionIn s j.host then j.host else (j.host + 1) % 4
    let j' := { j with primary := p, mirror := m, host := host }
    let again := hasCopy j' && ((p.isNone && (primaryHome s j').isSome) || (m.isNone && (mirrorHome s host).isSome))
    let s := modJournal s k (fun _ => { j' with rebuilding := again })
    let s := raise s 0x0401 { kind := .region, inst := k, arg := journalCode j' }
    if hasCopy j' then s else loseJournal s k

/-- Every journal after parts left service. -/
def checkJournals (s : State) : State := [0, 1, 2, 3].foldl checkJournal s

/-- Queues refusing with JOURNAL_DOWN return when a copy is back (R219). -/
def journalBack (s : State) (k : Nat) : State :=
  (s.comp.live.queueBinds.filter (fun e => e.2.region == k)).foldl (fun s e => modQueue s e.1 (fun x =>
    if x.state == .refusing && x.refuse == .journalDown then { x with state := .running, refuse := .none } else x)) s

/-- A stack that can take a primary: its 128 pages are free there (R202). -/
def homeWithRoom (s : State) (j : Journal) : Option Nat :=
  (primaryHome s j).bind (fun u => if 128 ≤ unitFree s .near u then some u else none)

/-- JOURNAL_REBUILD_DONE: the copy being rebuilt is whole; acceptance in the region goes on (R202). -/
def execJournalRebuildDone (journal : Nat) (s : State) : Host.Outcome State Fault Refusal :=
  act s (fun b =>
    let j := journalOf b journal
    if !j.rebuilding then b
    else
      let p := if j.primary.isSome then j.primary else homeWithRoom b j
      let m := if j.mirror.isSome then j.mirror else mirrorHome b j.host
      if p.isNone && (primaryHome b j).isSome then b
      else healthEvents b (journalBack (modJournal b journal (fun j =>
        { j with primary := p, mirror := m, rebuilding := false })) journal))

end Sys2Proof.Machine
end

