-- ==== Sys2Proof/Machine/Shards.lean ====
section
/-! DEFINITION. Embedding tables: where a row lies, what an owner serves, the row cache and the Clove sketch
(chapter 06). -/

namespace Sys2Proof.Machine

open Sys2Proof

/-! ### Tables and maps (R221 to R232) -/

/-- A table descriptor. -/
def tableOf (s : State) (id : Nat) : Option TableDesc := Tbl.find s.comp.live.tables id

/-- PLACE of a table: 0 REPLICATED, 1 HASH, 2 RANGE. -/
def isReplicated (t : TableDesc) : Bool := t.place == 0

/-- Bytes from one slot to the next (R222). -/
def strideOf (t : TableDesc) : Nat := if t.stride == 0 then storedSize t.storeFmt t.rowElems else t.stride

/-- Stored size of a row (R103). -/
def rowSize (t : TableDesc) : Nat := storedSize t.storeFmt t.rowElems

/-- The map of an epoch, where the hub keeps it (R230). -/
def mapAt (t : TableDesc) (epoch : Nat) : Option (List ShardEntry) :=
  if epoch == t.mapEpoch then some t.map0
  else if epoch + 1 == t.mapEpoch then some t.map1
  else if epoch + 2 == t.mapEpoch then some t.map2
  else none

/-- The mix of R226. -/
def mixHash (q : Nat) : Nat := (q * 0x9e3779b97f4a7c15) % 2 ^ 64 >>> 32

/-- Shard and slot of a row of a sharded table; of a REPLICATED one the primary's (R226). -/
def shardSlot (t : TableDesc) (i : Nat) : Nat × Nat :=
  if isReplicated t then (0, i)
  else if t.place == 2 then (i / t.shardRows, i % t.shardRows)
  else (((i % t.shards) + mixHash (i / t.shards)) % t.shards, i / t.shards)

/-- The replica that a requester reads (R229). -/
def replicaFor (t : TableDesc) (node : Nat) : Nat :=
  match indexOf? (fun e => e.node == node && e.state == 0) t.map0 with
  | some i => i
  | none =>
    let i := node % t.shards
    if ((t.map0[i]?).map (·.state)) == some 2 then 0 else i

/-- A shard map entry. -/
def entryAt (map : List ShardEntry) (shard : Nat) : ShardEntry := (map[shard]?).getD default

/-- SA of a slot under a map entry (R226). -/
def slotSa (t : TableDesc) (e : ShardEntry) (q : Nat) : Nat := saOf e.node (e.base + q * strideOf t)

/-- SA that a requester reads a row from under its current map. -/
def readRowSa (s : State) (t : TableDesc) (i : Nat) : Nat :=
  if isReplicated t then slotSa t (entryAt t.map0 (replicaFor t (hubNode s))) i
  else slotSa t (entryAt t.map0 (shardSlot t i).1) (shardSlot t i).2

/-- SA of a row at its owner under the current map; of a REPLICATED table at its primary (R263). -/
def ownerRowSa (t : TableDesc) (i : Nat) : Nat := slotSa t (entryAt t.map0 (shardSlot t i).1) (shardSlot t i).2

/-- SA at which this hub holds a row under the map of an epoch, where that map names it (R231). -/
def heldRowSa (s : State) (t : TableDesc) (epoch i : Nat) : Option Nat :=
  (mapAt t epoch).bind (fun map =>
    if isReplicated t then (map.find? (fun e => e.node == hubNode s)).map (fun e => slotSa t e i)
    else
      let e := entryAt map (shardSlot t i).1
      if e.node == hubNode s then some (slotSa t e (shardSlot t i).2) else none)

/-- Whether a request of an epoch must wait for this hub's own map (R231). -/
def epochAhead (t : TableDesc) (epoch : Nat) : Bool := decide (t.mapEpoch < epoch)

/-- Indices of a list of `n`-byte entries (R235); with 64-bit entries a nonzero [63:40] makes the index too large. -/
def parseIndices (idx32 : Bool) (count : Nat) (b : List Byte) : List Nat :=
  (chunks (if idx32 then 4 else 8) count b).map leNat

/-- Bytes of an index entry. -/
def indexBytes (idx32 : Bool) : Nat := if idx32 then 4 else 8

/-! ### Row cache and sketch (R148, R264 to R267) -/

/-- Row-cache slice that homes a sector on the E-die of a cluster (R148). -/
def sliceFor (cluster off : Nat) : Nat := 16 * clusterDie cluster + Config.homeSlice (off / 64) % 16

/-- Key of a counter of a sketch: slice, row of the sketch, column. -/
def counterKey (slice r table index : Nat) : Nat := (slice * 4 + r) * 65536 + Config.cloveHash r table index % 65536

/-- Counts a row in a sketch (R265). -/
def cloveCount (s : State) (slice table index : Nat) : State :=
  let sk := [0, 1, 2, 3].foldl (fun k r => Tbl.change k (counterKey slice r table index) 0 (fun v => min 15 (v + 1))) s.embed.sketch
  { s with embed := { s.embed with sketch := sk, counts := Tbl.change s.embed.counts slice 0 (· + 1) } }

/-- Estimate of a row: the least of its counters (R265). -/
def cloveEstimate (s : State) (slice table index : Nat) : Nat :=
  [0, 1, 2, 3].foldl (fun m r => min m (Tbl.at s.embed.sketch (counterKey slice r table index) 0)) 15

/-- Sectors of 64 bytes that a cached row takes. -/
def tagSectors (r : RowTag) : Nat := (unitsOf r.off r.len).length

/-- Sectors of a slice: 6 MiB (R147). -/
def sliceSectors : Nat := 98304

/-- Sectors of a slice in use. -/
def sliceUsed (s : State) (slice : Nat) : Nat :=
  sumNat ((s.embed.rowCache.filter (fun r => r.slice == slice)).map tagSectors)

/-- Puts a row in the cache as the most recently used. -/
def cacheRow (s : State) (r : RowTag) : State :=
  { s with embed := { s.embed with rowCache := r :: s.embed.rowCache.filter (fun x =>
      !(x.slice == r.slice && x.table == r.table && x.index == r.index)) } }

/-- Takes the least recently used row of a slice out. -/
def evictRow (s : State) (v : RowTag) : State :=
  { s with embed := { s.embed with rowCache := s.embed.rowCache.filter (· != v) } }

/-- A miss: the row is admitted where there is room, or when its estimate exceeds the victim's, or without the sketch
(R266). -/
def admitRow (s : State) (noCache : Bool) (r : RowTag) : State :=
  if sliceUsed s r.slice + tagSectors r ≤ sliceSectors then cacheRow s r
  else match (s.embed.rowCache.filter (fun x => x.slice == r.slice)).getLast? with
    | none => s
    | some v =>
      if noCache || !cloveEnabled s
          || decide (cloveEstimate s v.slice v.table v.index < cloveEstimate s r.slice r.table r.index) then
        cacheRow (evictRow s v) r
      else s

/-- A table-row read of GATHER, POOL or SCATTER_ADD from this hub's memory, as the row cache meets it (R149, R266). -/
def cacheLookup (s : State) (t : TableDesc) (table index cluster tenant off : Nat) : State :=
  match pageAt s off with
  | none => s
  | some p =>
    let slice := sliceFor cluster off
    let s := cloveCount s slice table index
    let r : RowTag := { slice := slice, table := table, index := index, owner := p.owner, off := off, len := rowSize t }
    if s.embed.rowCache.contains r && p.owner == tenant then cacheRow s r else admitRow s t.noCache r

/-- Row reads of a descriptor as the row cache meets them. -/
def cacheRows (s : State) (w : Work) (t : TableDesc) (rows : List Nat) : State :=
  rows.foldl (fun s i =>
    let sa := readRowSa s t i
    if saNode sa == hubNode s then cacheLookup s t w.desc.param i w.cluster w.tenant (saOff sa) else s) s

/-- Every counter of every Clove sketch becomes 0 (R268). -/
def clearSketches (s : State) : State := { s with embed := { s.embed with sketch := [] } }

/-- CLOVE_HALVE: after 2²⁰ counts each counter of a sketch is halved (R265). -/
def execCloveHalve (cluster : Nat) (s : State) : Host.Outcome State Fault Refusal :=
  act s (fun s =>
    if Tbl.at s.embed.counts cluster 0 < 2 ^ 20 then s
    else
      let halved := s.embed.sketch.map (fun e => if e.1 / 262144 == cluster then (e.1, e.2 / 2) else e)
      { s with embed := { s.embed with sketch := halved, counts := Tbl.put s.embed.counts cluster 0 } })

/-! ### Reading a row -/

/-- Reads a row at an SA: from this hub's memory, or through Trowel with its table, index and epoch (R252). -/
def readRow (s : State) (w : Work) (t : TableDesc) (index sa : Nat) : Got :=
  if saNode sa == hubNode s then readSa s w sa (rowSize t)
  else .all ((cutRange 512 (rowSize t + 1) sa (rowSize t)).map (fun p =>
    match received w .store p.1 p.2 with
    | some g => g
    | none =>
      if !reachable s (saNode sa) then .fail .nodeUnreachable (saNode sa) p.2
      else .wait (.load p.1 p.2 (some (w.desc.param, index, t.mapEpoch))) p.2))

/-- Whether a row has met STALE_MAP three times (R233). -/
def staleThrice (w : Work) (index : Nat) : Bool := decide (3 ≤ Tbl.at w.stale index 0)

/-- Whether a row that met STALE_MAP still waits for the newer map; `w.result` holds the newest epoch received. -/
def staleWaits (w : Work) (t : TableDesc) (index : Nat) : Bool :=
  Tbl.has w.stale index && decide (t.mapEpoch < w.result)

/-- Reads a row under the current map, by R229 and R233. -/
def fetchRow (s : State) (w : Work) (t : TableDesc) (index : Nat) : Got :=
  let sa := readRowSa s t index
  if staleThrice w index then .fail .staleMap (saNode sa) (rowSize t)
  else if staleWaits w t index then .wait .map (rowSize t)
  else readRow s w t index sa

end Sys2Proof.Machine
end

