-- ==== Sys2Proof/Machine/Embedding.lean ====
section
/-! DEFINITION. GATHER, POOL and the exchange (chapter 06). -/

namespace Sys2Proof.Machine

open Sys2Proof

/-! ### GATHER (R234 to R239) -/

/-- Output stride: 0 means the stored size of the output row (R234). -/
def strideOr (arg size : Nat) : Nat := if bits arg 0 32 == 0 then size else bits arg 0 32

/-- A write of one output row through PTRi: converted, or poisoned (R239). -/
def rowWrite (d : Descriptor) (i addr : Nat) (data : List Byte) (poison : Bool) : WriteReq :=
  { tva := isTva d i, addr := addr, data := data, poison := poison }

/-- Whether a row that was read leaves its output as poisoned data: POISON, an unreachable node, a dead line holder
(R239). -/
def poisons (st : Status) : Bool := st == .poison || st == .nodeUnreachable || st == .lineOwnerLost

/-- Result word of GATHER and POOL: distinct rows and Trowel rows, or the newest epoch for STALE_MAP (R187, R238). -/
def rowsResult (w : Work) (st : Status) (rows trowel : Nat) : Nat :=
  (if st == .staleMap then bits w.result 0 32 else bits rows 0 32) + bits trowel 0 32 * 2 ^ 32

/-- GATHER. -/
def gatherPlan (s : State) (w : Work) : Plan :=
  match tableOf s w.desc.param with
  | none => .stop .permission (hubNode s)
  | some t =>
    let d := w.desc
    let n := d.count
    let size := storedSize d.dstFmt t.rowElems
    if n == 0 || !selOk d.dstFmt true t.rowElems w.barred then .stop .formatUnsupported
    else
      let idx := readPtr s w 0 0 (indexBytes (bit d.arg0 0) * n)
      if !idx.needs.isEmpty then .wait idx.needs
      else if idx.status != .ok then { Plan.stop idx.status idx.node with refused := idx.refused }
      else
        let list := parseIndices (bit d.arg0 0) n idx.data
        if list.any (fun i => decide (t.rows ≤ i)) then .stop .permission (hubNode s)
        else
          let rows := (dedup list).map (fun i => (i, fetchRow s w t i))
          let got := Got.all (rows.map (fun r => r.2.mute))
          if !got.needs.isEmpty then .wait got.needs
          else
            let conv := (List.range rows.length).map (fun j =>
              let r := (rows[j]?).getD (0, {})
              let c := if r.2.status == .ok then convertRow t.storeFmt d.dstFmt t.rowElems (s.free + 4096 * j) r.2.data
                       else (zeros size, 0)
              (r.1, r.2.status, c))
            let outs := (List.range n).filterMap (fun p =>
              (conv.find? (fun c => c.1 == (list[p]?).getD 0)).bind (fun c =>
                if c.2.1 == .ok || c.2.1 == .permission || poisons c.2.1 then
                  some (rowWrite d 1 (d.ptr1 + strideOr d.arg1 size * p) c.2.2.1 (poisons c.2.1))
                else none))
            { status := got.status, node := got.node, refused := got.refused, writes := outs, count := outs.length,
              result := rowsResult w got.status rows.length
                (rows.filter (fun r => saNode (readRowSa s t r.1) != hubNode s)).length,
              conv := orFlags (conv.map (fun c => c.2.2.2)), draws := 4096 * rows.length }

/-- A shape over a table once its plan needs nothing more: its local row reads meet the row cache (R149). -/
def runRows (s : State) (queue : Nat) (seq : Seq48) (shape : Nat) (plan : State → Work → Plan) (rows : State → Work → List Nat) : State :=
  match workOf s queue seq with
  | none => s
  | some w =>
    if !mayRun s w shape then s
    else
      let p := plan s w
      let s' := match tableOf s w.desc.param with
        | some t => if p.needs.isEmpty && (p.status == .ok || poisons p.status) then cacheRows s w t (rows s w) else s
        | none => s
      runPlan s' w p

/-- The distinct indices that a descriptor names. -/
def namedRows (idx32 : Descriptor → Bool) (s : State) (w : Work) : List Nat :=
  dedup (parseIndices (idx32 w.desc) w.desc.count (readPtr s w 0 0 (indexBytes (idx32 w.desc) * w.desc.count)).data)

/-- GATHER (R234). -/
def execGather (queue : Nat) (seq : Seq48) (s : State) : Host.Outcome State Fault Refusal :=
  act s (fun s => runRows s queue seq shapeGather gatherPlan (namedRows (fun d => bit d.arg0 0)))

/-! ### POOL: bags, segments and entries (R235 to R243) -/

/-- OP of a POOL descriptor: 0 SUM, 1 MEAN, 2 MAX, 3 WSUM. -/
def poolOp (d : Descriptor) : Nat := bits d.arg0 32 2

/-- Bag bounds: an offset below the one before it counts as equal to it, one above COUNT as COUNT (R236). -/
def bagBounds (count : Nat) (offs : List Nat) : List Nat :=
  (offs.foldl (fun (acc : Nat × List Nat) o =>
    let v := max acc.1 (min o count)
    (v, acc.2 ++ [v])) (0, [])).2

/-- The bags of a descriptor, each with its first position and its number of indices. -/
def bagSpans (bounds : List Nat) : List (Nat × Nat) := (bounds.zip (bounds.drop 1)).map (fun p => (p.1, p.2 - p.1))

/-- Cuts bags into segments of at most 4,096 indices that end at bag boundaries, unless a bag alone is longer (R154).
Each result is a segment number, a bag, and the positions of that bag in the segment. -/
def cutBags (spans : List (Nat × Nat)) : List (Nat × Nat × List Nat) :=
  (spans.foldl (fun (acc : Nat × Nat × Nat × List (Nat × Nat × List Nat)) b =>
    let bag := acc.2.2.1
    let poss := (List.range b.2).map (· + b.1)
    if b.2 ≤ 4096 then
      if acc.2.1 + b.2 ≤ 4096 then (acc.1, acc.2.1 + b.2, bag + 1, acc.2.2.2 ++ [(acc.1, bag, poss)])
      else (acc.1 + 1, b.2, bag + 1, acc.2.2.2 ++ [(acc.1 + 1, bag, poss)])
    else
      let first := if acc.2.1 == 0 then acc.1 else acc.1 + 1
      let parts := chunks 4096 (b.2 / 4096 + 1) poss
      (first + (parts.length - 1), (parts.getLast?.map (·.length)).getD 0, bag + 1,
        acc.2.2.2 ++ (List.range parts.length).map (fun i => (first + i, bag, (parts[i]?).getD []))))
    (0, 0, 0, [])).2.2.2

/-- Weight of an index in a bag of a window: its count, or the FP32 sum of its weights (R242). -/
def entryWeight (op : Nat) (weights : Nat → Nat) (poss : List Nat) : Nat :=
  if op == 3 then match poss.map (fun p => ofFp32 (weights p)) with
    | [] => 0
    | x :: t => toFp32 (t.foldl fadd x)
  else poss.length

/-- The distinct entries of a segment's bag (R242). -/
def bagEntries (op : Nat) (index weights : Nat → Nat) (piece : Nat × Nat × List Nat) : List (Nat × PoolEntry) :=
  (dedup (piece.2.2.map index)).map (fun i =>
    (piece.1, { index := i, bag := piece.2.1, weight := entryWeight op weights (piece.2.2.filter (fun p => index p == i)) }))

/-! ### Pooling (R125, R237, R242) -/

/-- A running reduction of a bag: its elements, none before the first term, and its flags. -/
abbrev BagAcc := Option (List Num) × Nat

/-- Two vectors combined element by element, with the flags of the sums. -/
def zipAcc (f : Num → Num → Num) (a b : List Num) : List Num × Nat :=
  let r := a.zip b |>.map (fun p => (f p.1 p.2, p))
  (r.map (·.1), orFlags (r.map (fun x => accFlag x.1 [x.2.1, x.2.2])))

/-- A partial result joins a bag. -/
def addPartial (op : Nat) (acc : BagAcc) (vals : List Num) : BagAcc :=
  match acc.1 with
  | none => (some vals, acc.2)
  | some a =>
    if op == 2 then (some ((a.zip vals).map (fun p => fmax p.1 p.2)), acc.2)
    else
      let r := zipAcc fadd a vals
      (some r.1, acc.2 ||| r.2)

/-- A row joins a bag, c times or with its weight (R242). -/
def addRow (op : Nat) (acc : BagAcc) (vals : List Num) (weight : Nat) : BagAcc :=
  if op == 2 then addPartial op acc vals
  else if op == 3 then
    let w := ofFp32 weight
    let a := acc.1.getD (vals.map (fun _ => .zero))
    let r := (vals.zip a).map (fun p => (ffma p.1 w p.2, p))
    (some (r.map (·.1)), acc.2 ||| orFlags (r.map (fun x => accFlag x.1 [x.2.1, w, x.2.2])))
  else
    let c := fp32 (.ofNat weight)
    let r := vals.map (fun x => (fmul x c, x))
    addPartial op (acc.1, acc.2 ||| orFlags (r.map (fun x => accFlag x.1 [x.2, c]))) (r.map (·.1))

/-! ### POOL: where each entry comes from (R244 to R246) -/

/-- Code of an entry that reads through Trowel: its segment and index. -/
def trowelCode (part index : Nat) : Nat := part * 2 ^ 40 + index

/-- Whether an owner's rows go by exchange (R244). -/
def byExchange (s : State) (w : Work) (t : TableDesc) (owner : Nat) : Bool :=
  exchEnabled s && !t.gatherOnly && !bit w.desc.arg0 35 && (domainHubs s).contains owner && !isReplicated t
    && owner != hubNode s && reachable s owner

/-- Whether a POOL_REQ holds an entry. -/
def asks (a : PoolAsk) (e : Nat × PoolEntry) : Bool :=
  a.part == e.1 && a.entries.any (fun x => x.index == e.2.index && x.bag == e.2.bag)

/-- Entries that no POOL_REQ holds and that go by exchange: those of one segment and one owner make one message. -/
def newAsks (s : State) (w : Work) (t : TableDesc) (entries : List (Nat × PoolEntry)) : List Need :=
  let fresh := entries.filter (fun e => !w.trowel.contains (trowelCode e.1 e.2.index) && !w.asked.any (fun a => asks a e)
    && byExchange s w t (saNode (readRowSa s t e.2.index)))
  let keys := dedup (fresh.map (fun e => e.1 * 4096 + saNode (readRowSa s t e.2.index)))
  let op := (if poolOp w.desc == 1 then 0 else poolOp w.desc) + 4 * flag (bit w.desc.arg0 36)
  keys.map (fun k =>
    let es := (fresh.filter (fun e => e.1 * 4096 + saNode (readRowSa s t e.2.index) == k)).map (·.2)
    .exchange (k % 4096) (k / 4096)
      { op := op, table := w.desc.param, tenant := w.tenant, src := hubNode s, epoch := t.mapEpoch, queue := w.queue,
        seq := w.seq, part := k / 4096, status := .ok } es)

/-- The entries that this hub reads itself: local rows, and rows through Trowel. -/
def directEntries (s : State) (w : Work) (t : TableDesc) (entries : List (Nat × PoolEntry)) : List (Nat × PoolEntry) :=
  entries.filter (fun e => !w.asked.any (fun a => asks a e)
    && (w.trowel.contains (trowelCode e.1 e.2.index) || !byExchange s w t (saNode (readRowSa s t e.2.index))))

/-- One bag of the output: its value, its flags, whether it is poisoned, whether a row of it met STALE_MAP. -/
structure Bag where
  vals   : List Num
  flags  : Nat
  poison : Bool
  stale  : Bool

/-- Reduces a bag from the rows read here and the partials received (R237, R243). -/
def reduceBag (t : TableDesc) (op size bag : Nat) (rows : List (Nat × Got)) (direct : List (Nat × PoolEntry))
    (asked : List PoolAsk) : Bag :=
  let mine := (direct.filter (fun e => e.2.bag == bag)).map (fun e =>
    (e.2, ((rows.find? (fun r => r.1 == e.2.index)).map (·.2)).getD {}))
  let parts := (asked.flatMap (fun a => a.answer.getD [])).filter (fun p => p.bag == bag)
  let bad := mine.any (fun m => poisons m.2.status) || parts.any (·.poison)
  let stale := mine.any (fun m => m.2.status == .staleMap)
  let acc := mine.foldl (fun (acc : BagAcc) m =>
    if m.2.status != .ok then acc
    else
      let v := decodeRow t.storeFmt t.rowElems m.2.data
      addRow op (acc.1, acc.2 ||| v.2) v.1 m.1.weight) (none, 0)
  let acc := parts.foldl (fun acc p => addPartial op acc (p.elems.map ofFp32)) acc
  let vals := acc.1.getD (List.replicate t.rowElems .zero)
  { vals := if op == 1 && size != 0 then vals.map (fun v => fdiv v (fp32 (.ofNat size))) else vals,
    flags := acc.2, poison := bad, stale := stale }

/-- POOL. -/
def poolPlan (s : State) (w : Work) : Plan :=
  match tableOf s w.desc.param with
  | none => .stop .permission (hubNode s)
  | some t =>
    let d := w.desc
    let n := d.count
    let bags := bits d.arg0 0 32
    let op := poolOp d
    let idx32 := bit d.arg0 34
    if n == 0 || !selOk d.dstFmt true t.rowElems w.barred then .stop .formatUnsupported
    else
      let idx := readPtr s w 0 0 (indexBytes idx32 * n)
      let offs := readPtr s w 1 0 (4 * (bags + 1))
      let wts : Got := if op == 3 then readPtr s w 2 0 (4 * n) else {}
      let src := (idx.mute.and offs.mute).and wts.mute
      if !src.needs.isEmpty then .wait src.needs
      else if src.status != .ok then { Plan.stop src.status src.node with refused := src.refused }
      else
        let list := parseIndices idx32 n idx.data
        let index := fun p => (list[p]?).getD 0
        let weights := fun p => fieldAt wts.data (4 * p) 4
        let spans := bagSpans (bagBounds n ((chunks 4 (bags + 1) offs.data).map leNat))
        let entries := (cutBags spans).flatMap (bagEntries op index weights)
        if entries.any (fun e => decide (t.rows ≤ e.2.index)) then .stop .permission (hubNode s)
        else
          let asksNow := newAsks s w t entries
          let direct := directEntries s w t entries
          let rows := (dedup (direct.map (fun e => e.2.index))).map (fun i => (i, fetchRow s w t i))
          let got := Got.all (rows.map (fun r => r.2.mute))
          let owed := w.asked.any (fun a => a.answer.isNone)
          let needs := asksNow ++ got.needs ++ (if owed then [.map] else [])
          if !needs.isEmpty then .wait needs
          else
            let size := storedSize d.dstFmt t.rowElems
            let outs := (List.range spans.length).map (fun b =>
              let bag := reduceBag t op (((spans[b]?).map (·.2)).getD 0) b rows direct w.asked
              let enc := encodeRow d.dstFmt (s.free + 4096 * b) bag.vals
              (bag, enc, rowWrite d 3 (d.ptr3 + strideOr d.arg1 size * b) enc.1 bag.poison))
            let kept := outs.filter (fun o => !o.1.stale)
            let bad := w.asked.any (fun a => (a.answer.getD []).any (·.poison))
            let st := if bad then worse got.status .poison else got.status
            let owner := ((w.asked.find? (fun a => (a.answer.getD []).any (·.poison))).map (·.owner)).getD 0
            { status := st, node := if st == got.status then got.node else owner, refused := got.refused,
              writes := kept.map (fun o => o.2.2), count := kept.length,
              result := rowsResult w st (dedup (entries.map (fun e => e.2.index))).length
                (rows.filter (fun r => saNode (readRowSa s t r.1) != hubNode s)).length,
              conv := orFlags (kept.map (fun o => o.1.flags ||| (if o.1.poison then 0 else o.2.1.2))),
              draws := 4096 * spans.length }

/-- POOL (R234). -/
def execPool (queue : Nat) (seq : Seq48) (s : State) : Host.Outcome State Fault Refusal :=
  act s (fun s => runRows s queue seq shapePool poolPlan (namedRows (fun d => bit d.arg0 34)))

/-! ### The exchange at the requester (R245, R246, R252) -/

/-- Makes an answered descriptor ready to run on. -/
def wake (s : State) (queue : Nat) (seq : Seq48) : State :=
  modWork s queue seq (fun x => if x.phase == .waiting then { x with phase := .ready } else x)

/-- The unanswered POOL_REQs that a test takes go to Trowel, entry by entry (R245). -/
def toTrowel (s : State) (queue : Nat) (seq : Seq48) (hit : PoolAsk → Bool) : State :=
  let gone (a : PoolAsk) : Bool := a.answer.isNone && hit a
  wake (modWork s queue seq (fun x =>
    { x with asked := x.asked.filter (fun a => !gone a),
             trowel := x.trowel ++ ((x.asked.filter gone).flatMap (fun a =>
               a.entries.map (fun e => trowelCode a.part e.index))) })) queue seq

/-- BUSY: the owner's entries are read through Trowel (R252). -/
def execBusy (src : Nat) (h : ExHeader) (s : State) : Host.Outcome State Fault Refusal :=
  act s (fun s => toTrowel s h.queue h.seq (fun a => a.owner == src && a.part == h.part))

/-- STRAGGLE: a segment's unanswered entries are read through Trowel (R245). -/
def execStraggle (queue : Nat) (seq : Seq48) (part : Nat) (s : State) : Host.Outcome State Fault Refusal :=
  act s (fun s => toTrowel s queue seq (fun a => a.part == part))

/-- One more STALE_MAP meeting of each of some rows, carrying an epoch (R233). -/
def meetStale (x : Work) (indices : List Nat) (epoch : Nat) : Work :=
  { x with stale := (dedup indices).foldl (fun t i => Tbl.change t i 0 (· + 1)) x.stale, result := max x.result epoch }

/-- POOL_RSP: the partials answer their POOL_REQ, stale entries go to Trowel; an answer that comes too late is discarded
(R246). -/
def execPoolRsp (src : Nat) (h : ExHeader) (partials : List Partial) (stale : List PoolEntry) (s : State) :
    Host.Outcome State Fault Refusal :=
  act s (fun s =>
    let hit (a : PoolAsk) : Bool := a.owner == src && a.part == h.part && a.answer.isNone
    match workOf s h.queue h.seq with
    | none => s
    | some w =>
      if !w.asked.any hit then s
      else
        let set (a : PoolAsk) : PoolAsk :=
          if hit a then
            { a with answer := some partials,
                     entries := a.entries.filter (fun e => !stale.any (fun x => x.index == e.index && x.bag == e.bag)) }
          else a
        let s := modWork s h.queue h.seq (fun x =>
          let x := { x with asked := x.asked.map set, trowel := x.trowel ++ stale.map (fun e => trowelCode h.part e.index) }
          let x := if stale.isEmpty then x else meetStale x (stale.map (·.index)) h.epoch
          if h.status == .ok then x else { x with status := worse x.status h.status, node := src })
        wake s h.queue h.seq)

/-! ### The exchange at the owner (R245, R247, R248, R251) -/

/-- Bytes of a POOL_REQ: its header and 16 bytes an entry. -/
def poolReqBytes (entries : List PoolEntry) : Nat := 32 + 16 * entries.length

/-- Exchange receive buffer in use by messages that wait (R231, R248). -/
def receiveUsed (s : State) : Nat :=
  sumNat (s.embed.held.map (fun c => match c with
    | .poolReq _ _ entries => poolReqBytes entries
    | _ => 0))

/-- Keeps a message until it can be served. -/
def holdMessage (s : State) (c : Instr) : State :=
  if s.embed.held.contains c then s else { s with embed := { s.embed with held := s.embed.held ++ [c] } }

/-- One bag's partial at the owner: its rows pooled in FP32, MEAN as SUM, rounded to BF16 when asked (R245, R251). -/
def ownerPartial (t : TableDesc) (op bag : Nat) (rows : List (PoolEntry × Status × List Byte)) : Partial :=
  let mine := rows.filter (fun r => r.1.bag == bag)
  let acc := mine.foldl (fun (acc : BagAcc) r =>
    if r.2.1 != .ok then acc
    else addRow (bits op 0 2) acc (decodeRow t.storeFmt t.rowElems r.2.2).1 r.1.weight) (none, 0)
  let vals := acc.1.getD (List.replicate t.rowElems .zero)
  let round (x : Num) : Nat := if bit op 2 then toFp32 (decodeElem 1 (encodeElem 1 .rne x).1) else toFp32 x
  { bag := bag, rows := mine.length, poison := mine.any (fun r => r.2.1 != .ok), elems := vals.map round }

/-- Serves a POOL_REQ: nothing for a newer epoch yet, PERMISSION as a whole, or partials and stale entries (R231, R247). -/
def servePoolReq (s : State) (src : Nat) (h : ExHeader) (entries : List PoolEntry) : State :=
  let answer (s : State) (st : Status) (epoch : Nat) (ps : List Partial) (stale : List PoolEntry) : State :=
    emit s (.poolRsp src { h with epoch := epoch, op := 0, status := st } ps stale)
  match tableOf s h.table with
  | none => answer s .permission 0 [] []
  | some t =>
    if !isMember s src then answer s .permission 0 [] []
    else if entries.any (fun e => decide (t.rows ≤ e.index)) then answer s .permission t.mapEpoch [] []
    else
      let served := entries.filterMap (fun e => (heldRowSa s t h.epoch e.index).map (fun sa => (e, saOff sa)))
      let stale := entries.filter (fun e => (heldRowSa s t h.epoch e.index).isNone)
      let refused := served.filter (fun r => !permits s h.tenant r.2 (rowSize t) false)
      match refused with
      | r :: _ =>
        answer (refuse s h.tenant (refusedAt s h.tenant r.2 (rowSize t) false) 1 (some src)) .permission t.mapEpoch [] []
      | [] =>
        let rows := served.map (fun r =>
          (r.1, localReadStatus s h.tenant r.2 (rowSize t), viewMem s h.tenant h.src r.2 (rowSize t)))
        let s := served.foldl (fun s r => touch s r.2 (rowSize t)) s
        answer s .ok t.mapEpoch ((dedup (rows.map (fun r => r.1.bag))).map (fun b => ownerPartial t h.op b rows)) stale

/-- POOL_REQ at the owner (R245): BUSY where it does not serve or its buffer is full (R248). -/
def takePoolReq (s : State) (src : Nat) (h : ExHeader) (entries : List PoolEntry) : State :=
  let ahead := ((tableOf s h.table).map (fun t => epochAhead t h.epoch)).getD false
  if !exchServes s || decide (67108864 < receiveUsed s + poolReqBytes entries) then emit s (.exchange src 8 h)
  else if ahead then holdMessage s (.poolReq src h entries)
  else servePoolReq s src h entries

/-- POOL_REQ (R245). -/
def execPoolReq (src : Nat) (h : ExHeader) (entries : List PoolEntry) (s : State) : Host.Outcome State Fault Refusal :=
  act s (fun s => takePoolReq s src h entries)

end Sys2Proof.Machine
end

