-- ==== Sys2Proof/Machine/Updates.lean ====
section
/-! DEFINITION. Updates: guards, redo records and their apply, SCATTER_ADD with its messages, and the rows that other
nodes read (chapter 06, R196 to R200). -/

namespace Sys2Proof.Machine

open Sys2Proof

/-! ### Update guards (R259) -/

/-- Guard of a line of another node that an atomic of this hub locks (R367); lines of this hub keep their number. -/
def farGuard (node line : Nat) : Nat := (node + 1) * 2 ^ 41 + line

/-- Whether an update of a stamp must wait for a guard: an earlier update holds it, or one in REDO_READY. -/
def guardBlocked (s : State) (stamp : Nat) (guards : List Nat) : Bool :=
  s.works.any (fun w => w.stamp != stamp && (decide (w.stamp < stamp) || redoSet w) && w.guards.any guards.contains)

/-- An update that holds a guard an earlier-stamped update wants gives up every guard and forms again later. -/
def displace (s : State) (stamp : Nat) (guards : List Nat) : State :=
  { s with works := s.works.map (fun w =>
      if decide (stamp < w.stamp) && !redoSet w && w.guards.any guards.contains then
        { w with guards := [], fetched := [], phase := if w.phase == .formed then .ready else w.phase }
      else w) }

/-! ### Applying a redo record (R199, R255) -/

/-- Writes an after-image, which R68 does not check again (R167); on a Published page it goes into the draft of its tenant
and node (R390). -/
def writeImage (s : State) (tenant writer off : Nat) (data : List Byte) : State :=
  (cutUnits (data.length + 1) off data).foldl (putPiece tenant writer) s

/-- Sends bytes to another node in STOREs of at most 512 bytes, each awaited for a purpose; on this hub they are written. -/
def sendCopy (s : State) (tenant : Nat) (await : Await) (sa : Nat) (data : List Byte) : State :=
  if saNode sa == hubNode s then writeImage s tenant (hubNode s) (saOff sa) data
  else (cutRange 512 (data.length + 1) sa data.length).foldl (fun s c =>
    let tag := s.fabric.nextTag
    emit (openTx s (saNode sa) await tenant c.1 c.2) (.store (saNode sa) tenant tag (saOff c.1) ((data.drop (c.1 - sa)).take c.2))) s

/-- Header of an exchange message of a descriptor. -/
def exHeader (s : State) (w : Work) (table epoch op part : Nat) : ExHeader :=
  { op := op, table := table, tenant := w.tenant, src := hubNode s, epoch := epoch, queue := w.queue, seq := w.seq,
    part := part, status := .ok }

/-- An unreachable owner ends its part of a descriptor with NODE_UNREACHABLE; every other part takes effect (R262). -/
def ownerLost (s : State) (w : Work) (owner : Nat) : State :=
  modWork s w.queue w.seq (fun x => if worse x.status .nodeUnreachable == x.status then x
    else { x with status := .nodeUnreachable, node := owner })

/-- Applies one item of a descriptor's redo record. -/
def applyItem (w : Work) (s : State) (item : RedoItem) : State :=
  match item with
  | .bytes off d => writeImage s w.tenant (hubNode s) off d
  | .remote sa d => if reachable s (saNode sa) then sendCopy s w.tenant (.store w.queue w.seq) sa d else ownerLost s w (saNode sa)
  | .host ld hpa d => hostWrite s w.queue w.seq ld hpa d
  | .replica table entry epoch sa d => sendCopy s w.tenant (.replicaWrite table entry epoch) sa d
  | .moved table shard sa d => sendCopy s w.tenant (.moveWrite table shard) sa d
  | .delta owner table part epoch op items =>
    if reachable s owner then
      emit (openTx s owner (.delta w.queue w.seq) w.tenant part 0) (.delta owner (exHeader s w table epoch op part) items)
    else ownerLost s w owner
  | .atomic owner part scope slots entries =>
    if reachable s owner then
      let tag := s.fabric.nextTag
      emit (openTx s owner (.atomic w.queue w.seq slots) w.tenant part 0)
        (.atomic owner w.tenant tag scope false w.queue w.seq part entries)
    else ownerLost s w owner
  | .oldHere _ _ _ _ => s
  | .oldFar _ _ _ _ => s
  | .oldHost _ _ _ _ _ => s

/-- Owners that a descriptor's redo record sends updates to: a RELEASE follows the log record (R254, R370). -/
def redoOwners (w : Work) : List Nat :=
  dedup (w.redo.filterMap (fun i => match i with
    | .delta owner _ _ _ _ _ => some owner
    | .atomic owner _ _ _ _ => some owner
    | _ => none))

/-- Offsets of this hub that a redo record writes. -/
def redoTargets (w : Work) : List (Nat × Nat) :=
  w.redo.filterMap (fun i => match i with
    | .bytes off d => some (off, d.length)
    | _ => none)

/-- Whether a target of a redo record has no page map entry, after a flush (R212). -/
def redoAbsent (s : State) (w : Work) : Bool :=
  (redoTargets w).any (fun t => (pagesOf t.1 t.2).any (fun p => !Tbl.has s.store.pages p))

/-- Applies a redo record in full (R199): the guards are released, and RELEASE follows the log record. -/
def applyRedo (s : State) (w : Work) : State :=
  if w.restored && redoAbsent s w then
    modWork s w.queue w.seq (fun x => { x with status := worse x.status .stateLost, node := hubNode s, guards := [], phase := .done })
  else
    let s := modWork (w.redo.foldl (applyItem w) s) w.queue w.seq (fun x =>
      { x with phase := .applying, guards := [],
               follow := [.release ((redoOwners w).map (fun o => (o, exHeader s w w.desc.param 0 0 0)))] })
    settle s w.queue w.seq

/-- A descriptor whose after-images are formed: QUOTA_EXCEEDED past 4 MiB (R200), a wait at a live limit (R201), else
REDO_READY. -/
def formRedo (s : State) (w : Work) (items : List RedoItem) (st : Status) (node conv count result draws : Nat) : State :=
  if 4194304 < redoBytes items then runPlan s w (.stop .quotaExceeded)
  else if redoReadyBytes s w.region + redoBytes items ≤ 8388608
      && sumNat ((openEntries s w.region).map workRedo) + redoBytes items ≤ 67108864 then
    spend (modWork s w.queue w.seq (fun x =>
      { x with redo := items, status := worse x.status st, node := if worse x.status st == x.status then x.node else node,
               conv := x.conv ||| conv, count := count, result := result, delivered := true, phase := .redoReady })) draws
  else modWork s w.queue w.seq (fun x => { x with phase := .formed })

/-! ### After-images of rows (R125, R126, R263) -/

/-- STORE_FMT with the RND of a requester's DST_FMT (R263). -/
def updateSel (t : TableDesc) (rnd : Nat) : Nat := t.storeFmt % 64 + rnd % 4 * 64

/-- A row with a delta added: its bytes and its flags. -/
def addDelta (t : TableDesc) (rnd base : Nat) (old : List Byte) (delta : List Num) : List Byte × Nat :=
  let d := decodeRow t.storeFmt t.rowElems old
  let sum := zipAcc fadd d.1 delta
  let e := encodeRow (updateSel t rnd) base sum.1
  (e.1, (d.2 ||| sum.2) ||| e.2)

/-- Items that carry an after-image on: to every other replica of a REPLICATED table, one being refreshed included, to the
new copy of a MOVING shard, and to the old copy during the grace (R258, R263, R464, R467). -/
def onwardItems (s : State) (t : TableDesc) (table index : Nat) (data : List Byte) : List RedoItem :=
  let q := (shardSlot t index).2
  let shard := (shardSlot t index).1
  let replicas := if isReplicated t then
      (List.range t.map0.length).filterMap (fun i =>
        let e := entryAt t.map0 i
        if e.node != hubNode s && (e.state != 2 || s.comp.live.moves.any (fun m => m.table == table && m.shard == i)) then some (.replica table i t.mapEpoch (slotSa t e q) data) else none)
    else []
  let moved := if isReplicated t then [] else
      (s.comp.live.moves.filter (fun m => m.table == table && m.shard == shard)).map (fun m =>
        if m.step < 4 then RedoItem.moved table shard (saOf m.newNode (m.newBase + q * strideOf t)) data
        else RedoItem.moved table shard (saOf m.oldNode (m.oldBase + q * strideOf t)) data)
  replicas ++ moved

/-- Lines of a row at an offset. -/
def rowLines (t : TableDesc) (off : Nat) : List Nat := linesOf off (rowSize t)

/-! ### SCATTER_ADD at the requester (R254) -/

/-- One summed delta: its row, whether it could be read, its elements, the flags of the sum. -/
structure Summed where
  index : Nat
  got   : Got
  vals  : List Num
  flags : Nat

/-- Deltas of one row summed in FP32 (R242). -/
def sumDeltas (srcFmt n index : Nat) (rows : List Got) : Summed :=
  let g := Got.all (rows.map Got.mute)
  let vals := rows.map (fun r => decodeRow srcFmt n r.data)
  let acc : List Num × Nat := match vals with
    | [] => ([], 0)
    | v :: t => t.foldl (fun acc x =>
        let r := zipAcc fadd acc.1 x.1
        (r.1, (acc.2 ||| x.2) ||| r.2)) v
  { index := index, got := g, vals := acc.1, flags := acc.2 }

/-- What a SCATTER_ADD reads: its summed deltas, or the plan that ends or holds it. -/
def scatterRead (s : State) (w : Work) (t : TableDesc) : Except Plan (List Summed) :=
  let d := w.desc
  let n := d.count
  if n == 0 || !selOk d.srcFmt false t.rowElems false || selRnd d.dstFmt == 3 || (selRnd d.dstFmt == 2 && w.barred) then
    .error (.stop .formatUnsupported)
  else
    let idx := readPtr s w 0 0 (indexBytes (bit d.arg0 0) * n)
    if !idx.needs.isEmpty then .error (.wait idx.needs)
    else if idx.status != .ok then .error { Plan.stop idx.status idx.node with refused := idx.refused }
    else
      let list := parseIndices (bit d.arg0 0) n idx.data
      if list.any (fun i => decide (t.rows ≤ i)) then .error (.stop .permission (hubNode s))
      else
        let size := storedSize d.srcFmt t.rowElems
        let rows := (List.range n).map (fun p => ((list[p]?).getD 0, readPtr s w 1 (strideOr d.arg1 size * p) size))
        let needs := rows.flatMap (fun r => r.2.needs)
        let refused := rows.flatMap (fun r => r.2.refused)
        if !needs.isEmpty then .error (.wait needs)
        else if rows.any (fun r => r.2.status == .permission || r.2.status == .translationFault || r.2.status == .stateLost) then
          let g := Got.all (rows.map (fun r => r.2.mute))
          .error { Plan.stop g.status g.node with refused := refused }
        else .ok ((dedup list).map (fun i =>
          sumDeltas d.srcFmt t.rowElems i ((rows.filter (fun r => r.1 == i)).map (·.2))))

/-- The summed deltas of rows on other nodes, in messages of `n` items by owner; PART is the number of the first item. -/
def remoteParts (t : TableDesc) (n : Nat) (sums : List Summed) : List (Nat × Nat × List Summed) :=
  let owners := dedup (sums.map (fun u => saNode (ownerRowSa t u.index)))
  (owners.foldl (fun (acc : Nat × List (Nat × Nat × List Summed)) o =>
    let mine := sums.filter (fun u => saNode (ownerRowSa t u.index) == o)
    (chunks n mine.length mine).foldl (fun acc c => (acc.1 + c.length, acc.2 ++ [(o, acc.1, c)])) acc) (0, [])).2

/-- Whether a PREP of a descriptor is unanswered. -/
def prepOpen (s : State) (w : Work) : Bool :=
  s.fabric.outstanding.any (fun o => match o.await with
    | .prep q n => q == w.queue && n == w.seq
    | _ => false)

/-- Sends the PREPs of owners that have not been asked yet (R254, step 3). -/
def sendPreps (s : State) (w : Work) (t : TableDesc) (parts : List (Nat × Nat × List Summed)) : State :=
  parts.foldl (fun s p =>
    if w.owners.any (fun o => o.1 == p.1) then s
    else
      let s := emit (openTx s p.1 (.prep w.queue w.seq) w.tenant p.2.1 0)
        (.prep p.1 (exHeader s w w.desc.param t.mapEpoch 0 p.2.1) (p.2.2.map (·.index)))
      modWork s w.queue w.seq (fun x => if x.owners.any (fun o => o.1 == p.1) then x else { x with owners := x.owners ++ [(p.1, 0)] })) s

/-- The redo items of a descriptor's local rows, with the flags of forming them. -/
def localItems (s : State) (w : Work) (t : TableDesc) (rows : List (Summed × Got)) : List (List RedoItem × Nat) :=
  (List.range rows.length).map (fun j =>
    match rows[j]? with
    | none => ([], 0)
    | some r =>
      let off := saOff (ownerRowSa t r.1.index)
      let a := addDelta t (selRnd w.desc.dstFmt) (s.free + 4096 * j) r.2.data r.1.vals
      (RedoItem.bytes off a.1 :: onwardItems s t w.desc.param r.1.index a.1, a.2 ||| r.1.flags))

/-- Forms the redo record of a SCATTER_ADD whose owners have all answered (R254, step 4). -/
def scatterForm (s : State) (w : Work) (t : TableDesc) (sums : List Summed) (locals : List (Summed × Got)) : State :=
  let good := locals.filter (fun r => r.2.status == .ok && r.1.got.status == .ok)
  let items := localItems s w t good
  let far := sums.filter (fun u => saNode (ownerRowSa t u.index) != hubNode s && u.got.status == .ok)
  let rem := (remoteParts t 64 far).map (fun p =>
    RedoItem.delta p.1 w.desc.param p.2.1 t.mapEpoch (selRnd w.desc.dstFmt * 64)
      (p.2.2.map (fun u => { index := u.index, elems := u.vals.map toFp32 })))
  let g := Got.all (sums.map (fun u => u.got.mute) ++ locals.map (fun r => r.2.mute))
  formRedo s w (items.flatMap (·.1) ++ rem) g.status g.node
    (orFlags (items.map (·.2) ++ far.map (·.flags))) (good.length + far.length)
    (dedup (sums.map (fun u => saNode (ownerRowSa t u.index)))).length (4096 * good.length)

/-- SCATTER_ADD: it reads its rows, takes the guards of local ones, asks the owners of others, and forms its redo record. -/
def scatterRun (s : State) (w : Work) : State :=
  match tableOf s w.desc.param with
  | none => runPlan s w (.stop .permission (hubNode s))
  | some t =>
    match scatterRead s w t with
    | .error p => runPlan s w p
    | .ok sums =>
      let here := sums.filter (fun u => saNode (ownerRowSa t u.index) == hubNode s)
      let locals := here.map (fun u => (u, readSa s w (ownerRowSa t u.index) (rowSize t)))
      let off (u : Summed) : Nat := saOff (ownerRowSa t u.index)
      let barred := here.filter (fun u => !permits s w.tenant (off u) (rowSize t) true)
      let needs := locals.flatMap (fun r => r.2.needs ++ (deepPages s (off r.1) (rowSize t)).map Need.deep
        ++ (linesToWrite s (off r.1) (rowSize t)).map Need.lineWrite)
      let guards := dedup (here.flatMap (fun u => rowLines t (off u)))
      let parts := remoteParts t 4096 (sums.filter (fun u => saNode (ownerRowSa t u.index) != hubNode s))
      if !barred.isEmpty && w.restored && barred.all (fun u => onlyAbsent s w.tenant (off u) (rowSize t) true) then
        runPlan s w (.stop .stateLost (hubNode s))
      else if !barred.isEmpty then
        runPlan s w { Plan.stop .permission (hubNode s) with
          refused := barred.map (fun u => refusedAt s w.tenant (off u) (rowSize t) true) }
      else if !needs.isEmpty then askAll s w needs
      else if w.owners.any (fun o => o.2 == 2) then
        runPlan s w (.stop .permission (((w.owners.find? (fun o => o.2 == 2)).map (·.1)).getD 0))
      else match parts.find? (fun p => !reachable s p.1 || w.owners.any (fun o => o.1 == p.1 && o.2 == 3)) with
        | some p => runPlan s w (.stop .nodeUnreachable p.1)
        | none =>
          if guardBlocked s w.stamp guards then modWork s w.queue w.seq (fun x => { x with phase := .waiting })
          else
            let s := modWork (displace s w.stamp guards) w.queue w.seq (fun x => { x with guards := guards, phase := .formed })
            if parts.any (fun p => !w.owners.any (fun o => o.1 == p.1)) then sendPreps s w t parts
            else if prepOpen s w then s
            else
              let s := cacheRows s w t (here.map (·.index))
              scatterForm s { w with guards := guards, phase := .formed } t sums locals

/-- SCATTER_ADD (R254). -/
def execScatterAdd (queue : Nat) (seq : Seq48) (s : State) : Host.Outcome State Fault Refusal :=
  act s (fun s => match workOf s queue seq with
    | none => s
    | some w => if mayRun s w shapeScatter then scatterRun s w else s)

/-! ### Owners (R256 to R258, R263) -/

/-- Whether this hub is the fenced primary of a REPLICATED table: it answers no PREP or DELTA of it (R421). -/
def fencedPrimary (s : State) (t : TableDesc) : Bool := fenced s && isReplicated t

/-- The nodes that hold some rows under this hub's map, each with the positions of its rows. -/
def byHolder (t : TableDesc) (indices : List Nat) : List (Nat × List Nat) :=
  (dedup (indices.map (fun i => saNode (ownerRowSa t i)))).map (fun n =>
    (n, (List.range indices.length).filter (fun p => saNode (ownerRowSa t ((indices[p]?).getD 0)) == n)))

/-- Numbers of the messages (R249). -/
def kindPrepRsp : Nat := 4
def kindDeltaAck : Nat := 6
def kindRelease : Nat := 7

/-- Answers a PREP or DELTA. -/
def answerUpdate (s : State) (isDelta : Bool) (asker : Nat) (h : ExHeader) (st : Status) (flags : Nat) : State :=
  let epoch := ((tableOf s h.table).map (·.mapEpoch)).getD 0
  emit s (.exchange asker (if isDelta then kindDeltaAck else kindPrepRsp) { h with op := flags, epoch := epoch, status := st })

/-- The check of R166 of a PREP's rows held here: PERMISSION with a record when one is refused. -/
def checkRows (s : State) (src : Nat) (h : ExHeader) (t : TableDesc) (indices : List Nat) : State × Status :=
  match indices.find? (fun i => decide (t.rows ≤ i) || !permits s h.tenant (saOff (ownerRowSa t i)) (rowSize t) true) with
  | none => (s, .ok)
  | some i =>
    if t.rows ≤ i then (s, .permission)
    else (refuse s h.tenant (refusedAt s h.tenant (saOff (ownerRowSa t i)) (rowSize t) true) 1 (some src), .permission)

/-- Adds a relay (R258). -/
def addRelay (s : State) (r : Relay) : State := { s with embed := { s.embed with relays := s.embed.relays ++ [r] } }

/-- PREP at a hub: rows held here are checked, others are passed on, and one answer goes back (R254, R258). -/
def takePrep (s : State) (src : Nat) (h : ExHeader) (indices : List Nat) : State :=
  match tableOf s h.table with
  | none => answerUpdate s false src h .permission 0
  | some t =>
    if !isMember s src then answerUpdate s false src h .permission 0
    else if fencedPrimary s t then s
    else
      let groups := byHolder t indices
      let mine := (groups.find? (fun g => g.1 == hubNode s)).map (fun g => g.2.map (fun p => (indices[p]?).getD 0))
      let c := checkRows s src h t (mine.getD [])
      let others := groups.filter (fun g => g.1 != hubNode s)
      if others.isEmpty then answerUpdate c.1 false src h c.2 0
      else
        let s := others.foldl (fun s g => emit s (.prep g.1 { h with part := h.part + (g.2.head?.getD 0) }
          (g.2.map (fun p => (indices[p]?).getD 0)))) c.1
        addRelay s { isDelta := false, asker := src, h := h, flags := 0, status := c.2,
                     missing := others.map (fun g => (g.1, h.part + (g.2.head?.getD 0))) }

/-- PREP (R254). -/
def execPrep (src : Nat) (h : ExHeader) (indices : List Nat) (s : State) : Host.Outcome State Fault Refusal :=
  act s (fun s => takePrep s src h indices)

/-- A part of a relayed message is answered; the last answer goes on to the asker (R258). -/
def relayAnswer (s : State) (isDelta : Bool) (src : Nat) (h : ExHeader) : Option State :=
  let hit (r : Relay) : Bool := r.isDelta == isDelta && r.h.queue == h.queue && r.h.seq == h.seq && r.h.src == h.src
    && r.missing.contains (src, h.part)
  match s.embed.relays.find? hit with
  | none => none
  | some r =>
    let r' := { r with missing := r.missing.filter (· != (src, h.part)), flags := r.flags ||| (if isDelta then h.op else 0),
                       status := worse r.status h.status }
    let rest := s.embed.relays.filter (· != r)
    if r'.missing.isEmpty then
      some (answerUpdate { s with embed := { s.embed with relays := rest } } isDelta r.asker r.h r'.status r'.flags)
    else some { s with embed := { s.embed with relays := rest ++ [r'] } }

/-- The outstanding PREP or DELTA of a descriptor to a node and part. -/
def updateTx (s : State) (isDelta : Bool) (src : Nat) (h : ExHeader) : Option Outstanding :=
  s.fabric.outstanding.find? (fun o => o.node == src && o.addr == h.part && match o.await with
    | .prep q n => !isDelta && q == h.queue && n == h.seq
    | .delta q n => isDelta && q == h.queue && n == h.seq
    | _ => false)

/-- PREP_RSP: the owner's answer is kept (R254). -/
def execPrepRsp (src : Nat) (h : ExHeader) (s : State) : Host.Outcome State Fault Refusal :=
  act s (fun s => match relayAnswer s false src h with
    | some s' => s'
    | none => match updateTx s false src h with
      | none => s
      | some o =>
        let code := if h.status == .ok then 1 else 2
        let s := modWork (closeTx s o.tag) h.queue h.seq (fun x =>
          { x with owners := x.owners.map (fun e => if e.1 == src then (e.1, max e.2 code) else e),
                   phase := if x.phase == .waiting then .ready else x.phase })
        s)

/-- The receipt of a key (R257). -/
def receiptOf (s : State) (src queue : Nat) (seq : Seq48) (part : Nat) : Option Receipt :=
  s.receipts.find? (fun r => r.src == src && r.queue == queue && r.seq == seq && r.part == part)

/-- Receipts that a hub holds (R257). -/
def receiptRoom (s : State) : Bool := decide (s.receipts.length < 1048576)

/-- Journal regions that home some offsets. -/
def homeRegions (s : State) (offs : List Nat) : List Nat :=
  dedup (offs.filterMap (fun o => (pageAt s o).map (fun p => tierRegion p.tier p.unit)))

/-- Items of a delta entry for one row, summed in FP32 in item order (R260). -/
def itemSum (items : List DeltaItem) (index : Nat) : List Num × Nat :=
  match (items.filter (fun i => i.index == index)).map (fun i => i.elems.map ofFp32) with
  | [] => ([], 0)
  | v :: t => t.foldl (fun acc x =>
      let r := zipAcc fadd acc.1 x
      (r.1, acc.2 ||| r.2)) (v, 0)

/-- Sends an after-image on from its owner (R258, R263). -/
def sendOnward (tenant : Nat) (s : State) (item : RedoItem) : State :=
  match item with
  | .replica table entry epoch sa d => sendCopy s tenant (.replicaWrite table entry epoch) sa d
  | .moved table shard sa d => sendCopy s tenant (.moveWrite table shard) sa d
  | _ => s

/-- Applies one row of a delta entry: a poisoned row keeps its poison (R262). -/
def applyDeltaRow (h : ExHeader) (t : TableDesc) (items : List DeltaItem) (acc : State × Nat × Status) (index : Nat) :
    State × Nat × Status :=
  let s := acc.1
  let off := saOff (ownerRowSa t index)
  let st := localReadStatus s h.tenant off (rowSize t)
  if st != .ok then (s, acc.2.1, worse acc.2.2 (if st == .permission then .permission else .poison))
  else
    let sum := itemSum items index
    let a := addDelta t (bits h.op 6 2) s.free (viewMem s h.tenant h.src off (rowSize t)) sum.1
    let s := spend (writeImage s h.tenant h.src off a.1) 4096
    ((onwardItems s t h.table index a.1).foldl (sendOnward h.tenant) s, (acc.2.1 ||| sum.2) ||| a.2, acc.2.2)

/-- Records and applies a delta entry for the rows held here, with its receipt (R256, R257). -/
def recordDelta (s : State) (h : ExHeader) (t : TableDesc) (items : List DeltaItem) : State × Nat × Status :=
  let r := (dedup (items.map (·.index))).foldl (applyDeltaRow h t items) (s, 0, .ok)
  let rc : Receipt := { src := h.src, queue := h.queue, seq := h.seq, part := h.part, flags := r.2.1, status := r.2.2, olds := [] }
  ({ r.1 with receipts := r.1.receipts ++ [rc], stamp := r.1.stamp + 1 }, r.2)

/-- Whether a DELTA must wait: for a receipt, a live limit, a guard, a deep page or the copies of a Held line (R256, R257,
R259). -/
def deltaWaits (s : State) (offs : List Nat) (len : Nat) : Bool :=
  !receiptRoom s || !(homeRegions s offs).all (belowLimits s)
    || guardBlocked s s.stamp (offs.flatMap (fun o => linesOf o len))
    || offs.any (fun o => !(deepPages s o len).isEmpty || !(linesToWrite s o len).isEmpty)

/-- What a waiting update asks for meanwhile: the promotion of deep pages and the copies of Held lines. -/
def clearWay (s : State) (offs : List Nat) (len : Nat) : State :=
  offs.foldl (fun s o =>
    let s := (deepPages s o len).foldl (fun s p => startMove s p .far true) s
    (linesToWrite s o len).foldl (fun s l => beginLine s l .recall) s) s

/-- DELTA at a hub: acknowledged again from its receipt, recorded, passed on, or held (R256 to R258). -/
def takeDelta (s : State) (src : Nat) (h : ExHeader) (items : List DeltaItem) : State :=
  match tableOf s h.table with
  | none => answerUpdate s true src h .permission 0
  | some t =>
    if !isMember s src then answerUpdate s true src h .permission 0
    else if fencedPrimary s t then s
    else if items.any (fun i => decide (t.rows ≤ i.index)) then answerUpdate s true src h .permission 0
    else
      let groups := byHolder t (items.map (·.index))
      let pick (g : Nat × List Nat) : List DeltaItem := g.2.filterMap (fun p => items[p]?)
      let mine := (groups.find? (fun g => g.1 == hubNode s)).map pick |>.getD []
      let first := (((groups.find? (fun g => g.1 == hubNode s)).bind (fun g => g.2.head?))).getD 0
      let h' := { h with part := h.part + first }
      let offs := dedup (mine.map (fun i => saOff (ownerRowSa t i.index)))
      let others := groups.filter (fun g => g.1 != hubNode s)
      let done := (receiptOf s h.src h.queue h.seq h'.part).isSome
      if !mine.isEmpty && !done && deltaWaits s offs (rowSize t) then
        holdMessage (clearWay s offs (rowSize t)) (.delta src h items)
      else
        let r := match receiptOf s h.src h.queue h.seq h'.part with
          | some rc => (s, rc.flags, rc.status)
          | none => if mine.isEmpty then (s, 0, .ok) else recordDelta s h' t mine
        if others.isEmpty then answerUpdate r.1 true src h r.2.2 r.2.1
        else
          let s := others.foldl (fun s g => emit s (.delta g.1 { h with part := h.part + (g.2.head?.getD 0) } (pick g))) r.1
          addRelay s { isDelta := true, asker := src, h := h, flags := r.2.1, status := r.2.2,
                       missing := others.map (fun g => (g.1, h.part + (g.2.head?.getD 0))) }

/-- DELTA (R256). -/
def execDelta (src : Nat) (h : ExHeader) (items : List DeltaItem) (s : State) : Host.Outcome State Fault Refusal :=
  act s (fun s => takeDelta s src h items)

/-- DELTA_ACK: the flags join the descriptor's, which is done once every DELTA is acknowledged (R254, R256). -/
def execDeltaAck (src : Nat) (h : ExHeader) (s : State) : Host.Outcome State Fault Refusal :=
  act s (fun s => match relayAnswer s true src h with
    | some s' => s'
    | none => match updateTx s true src h with
      | none => s
      | some o =>
        let s := modWork (closeTx s o.tag) h.queue h.seq (fun x =>
          let st := worse x.status h.status
          { x with conv := x.conv ||| h.op, status := st, node := if st == x.status then x.node else src })
        settle s h.queue h.seq)

/-! ### LOAD (R231, R355) -/

/-- LOAD at a hub: a Trowel read is checked against the map first, and held for a newer one (R224, R231). -/
def takeLoad (s : State) (m : MsgHeader) (len : Nat) (row : Option (Nat × Nat × Nat)) : State :=
  let plain := serve s [] (.load m.src m.tag m.offset m.tenant len)
  if !isMember s m.src then emit s (.loadRsp m.src m.tag .permission 0 (ones len))
  else match row with
  | none => plain
  | some (table, index, epoch) =>
    match tableOf s table with
    | none => emit s (.loadRsp m.src m.tag .permission 0 (ones len))
    | some t =>
      if epochAhead t epoch then holdMessage s (.load m len row)
      else if t.rows ≤ index then emit s (.loadRsp m.src m.tag .permission t.mapEpoch (ones len))
      else if (heldRowSa s t epoch index).isNone then emit s (.loadRsp m.src m.tag .staleMap t.mapEpoch (ones len))
      else plain

/-- LOAD (R355). -/
def execLoad (m : MsgHeader) (len : Nat) (row : Option (Nat × Nat × Nat)) (s : State) : Host.Outcome State Fault Refusal :=
  act s (fun s => takeLoad s m len row)

end Sys2Proof.Machine
end

