-- ==== Sys2Proof/Machine/Atomics.lean ====
section
/-! DEFINITION. Atomics: ATOMIC_BATCH, the ATOMIC messages, and the apply of redo records (chapter 09, R196 to R199). -/

namespace Sys2Proof.Machine

open Sys2Proof

/-! ### Entries (R364, R365) -/

/-- Bytes of an operand. -/
def atomicWidth (e : AtomicEntry) : Nat := if e.wide then 8 else 4

/-- An atomic entry from its 32 bytes; for width 32 the upper halves of OPERAND and COMPARE are ignored. -/
def parseAtomic (b : List Byte) : AtomicEntry :=
  let op := fieldAt b 8 1
  let wide := bit (fieldAt b 9 1) 0
  let operand := fieldAt b 16 (if wide then 8 else 4)
  let compare := fieldAt b 24 (if wide then 8 else 4)
  { target := fieldAt b 0 8, op := op, wide := wide, operand := operand, compare := compare,
    rsvd := decide (1 < fieldAt b 9 1) || fieldAt b 10 6 != 0 || (op != 10 && compare != 0) }

/-- Whether an entry breaks R365. -/
def badAtomic (e : AtomicEntry) : Bool :=
  decide (10 < e.op) || (e.op == 1 && e.wide) || e.target % atomicWidth e != 0 || e.rsvd

/-- Signed value of a `w`-bit word. -/
def signedOf (w x : Nat) : Int := if 2 ^ (w - 1) ≤ x then (x : Int) - 2 ^ w else x

/-- New value of an atomic operation (R364). -/
def atomicNew (e : AtomicEntry) (old : Nat) : Nat :=
  let w := 8 * atomicWidth e
  let v := e.operand % 2 ^ w
  match e.op with
  | 0 => (old + v) % 2 ^ w
  | 1 => toFp32 (fadd (ofFp32 old) (ofFp32 v))
  | 2 => if signedOf w v < signedOf w old then v else old
  | 3 => if signedOf w old < signedOf w v then v else old
  | 4 => min old v
  | 5 => max old v
  | 6 => old &&& v
  | 7 => old ||| v
  | 8 => old ^^^ v
  | 9 => v
  | _ => if old == e.compare % 2 ^ w then v else old

/-- ACC_INF of an FADD (R123, R125). -/
def atomicFlags (e : AtomicEntry) (old : Nat) : Nat :=
  if e.op == 1 then accFlag (fadd (ofFp32 old) (ofFp32 e.operand)) [ofFp32 old, ofFp32 e.operand] else 0

/-! ### Performing entries in order (R366) -/

/-- Entries performed so far: the bytes they changed by SA, the redo items, old values by slot, and how it ended. -/
structure Performed where
  bytes  : Tbl Byte := []
  items  : List RedoItem := []
  olds   : List (Nat × Nat) := []
  status : Status := .ok
  node   : Nat := 0
  flags  : Nat := 0

/-- Bytes as earlier entries left them. -/
def overBytes (t : Tbl Byte) (sa : Nat) (data : List Byte) : List Byte :=
  (List.range data.length).map (fun i => Tbl.at t (sa + i) ((data[i]?).getD 0))

/-- Performs one entry on the bytes that `read` gives; a target that cannot be read takes no update (R262), and its slot
returns ones. -/
def performEntry (hub : Nat) (read : Nat → Nat → Got) (acc : Performed) (x : Nat × AtomicEntry) : Performed :=
  let e := x.2
  let n := atomicWidth e
  let g := read e.target n
  if g.status != .ok then
    { acc with olds := acc.olds ++ [(x.1, 2 ^ (8 * n) - 1)], status := worse acc.status g.status,
               node := if statusRank g.status < statusRank acc.status then g.node else acc.node }
  else
    let old := leNat (overBytes acc.bytes e.target g.data)
    let new := leBytes n (atomicNew e old)
    { acc with bytes := (List.range n).foldl (fun t i => Tbl.put t (e.target + i) ((new[i]?).getD 0)) acc.bytes,
               items := acc.items ++ [if saNode e.target == hub then .bytes (saOff e.target) new else .remote e.target new],
               olds := acc.olds ++ [(x.1, old)], flags := acc.flags ||| atomicFlags e old }

/-- Performs entries in order. -/
def performAll (hub : Nat) (read : Nat → Nat → Got) (es : List (Nat × AtomicEntry)) : Performed :=
  es.foldl (performEntry hub read) {}

/-! ### ATOMIC_BATCH at the requester (R363 to R370) -/

/-- A resolved write of an old value, as items of the redo record: its bytes, or its place when a remote owner returns it. -/
def oldItems (slot : Nat) (known : Bool) (puts : List Put) : List RedoItem :=
  (puts.foldl (fun (acc : Nat × List RedoItem) p =>
    let n := p.data.length
    let item : RedoItem := match p.target with
      | .here off => if known then .bytes off p.data else .oldHere slot acc.1 n off
      | .far sa => if known then .remote sa p.data else .oldFar slot acc.1 n sa
      | .copy node line off =>
        if known then .remote (saOf node (line * 128 + off)) p.data else .oldFar slot acc.1 n (saOf node (line * 128 + off))
      | .host ld hpa => if known then .host ld hpa p.data else .oldHost slot acc.1 n ld hpa
    (acc.1 + n, acc.2 ++ [item])) (0, [])).2

/-- Where an old value is written. -/
def oldWrite (d : Descriptor) (slot value : Nat) : WriteReq := rowWrite d 1 (d.ptr1 + 8 * slot) (leBytes 8 value) false

/-- Entries of one message to an owner: at most 15, in 512 bytes. -/
def atomicParts (es : List (Nat × AtomicEntry)) : List (Nat × List (Nat × AtomicEntry)) :=
  (dedup (es.map (fun e => saNode e.2.target))).flatMap (fun o =>
    let mine := es.filter (fun e => saNode e.2.target == o)
    (chunks 15 mine.length mine).map (fun c => (o, c)))

/-- PART of a message: the number of its first entry. -/
def partOf (es : List (Nat × AtomicEntry)) : Nat := ((es.head?).map (·.1)).getD 0

/-- Sends the CHECK messages of owners that have not been asked (R370). -/
def sendChecks (s : State) (w : Work) (scope : Nat) (parts : List (Nat × List (Nat × AtomicEntry))) : State :=
  parts.foldl (fun s p =>
    if w.owners.any (fun o => o.1 == p.1) then s
    else
      let tag := s.fabric.nextTag
      let s := emit (openTx s p.1 (.check w.queue w.seq) w.tenant (partOf p.2) 0)
        (.atomic p.1 w.tenant tag scope true w.queue w.seq (partOf p.2) (p.2.map (·.2)))
      modWork s w.queue w.seq (fun x => if x.owners.any (fun o => o.1 == p.1) then x else { x with owners := x.owners ++ [(p.1, 0)] })) s

/-- Whether a CHECK of a descriptor is unanswered. -/
def checkOpen (s : State) (w : Work) : Bool :=
  s.fabric.outstanding.any (fun o => match o.await with
    | .check q n => q == w.queue && n == w.seq
    | _ => false)

/-- Forms the redo record of an ATOMIC_BATCH: after-images, operations for FABRIC owners, and old values (R370). -/
def atomicForm (s : State) (w : Work) (scope : Nat) (es far : List (Nat × AtomicEntry)) : State :=
  let d := w.desc
  let near := es.filter (fun e => !far.any (fun f => f.1 == e.1))
  let p := performAll (hubNode s) (fun sa n => readSa s w sa n) near
  let known (i : Nat) : Option Nat := (p.olds.find? (fun o => o.1 == i)).map (·.2)
  let slots := es.map (fun e => (e.1, resolve s w false (oldWrite d e.1 ((known e.1).getD 0))))
  let r := Puts.all (slots.map (·.2))
  let reads := Got.all (near.map (fun e => (readSa s w e.2.target (atomicWidth e.2)).mute))
  if !(reads.needs ++ r.needs).isEmpty then askAll s w (reads.needs ++ r.needs)
  else if r.status == .permission || reads.status == .permission || r.status == .translationFault
      || reads.status == .stateLost || r.status == .stateLost then
    runPlan s w { status := worse r.status reads.status,
                  node := if statusRank r.status < statusRank reads.status then r.node else reads.node,
                  refused := reads.refused, writes := es.map (fun e => oldWrite d e.1 0) }
  else
    let ops := (atomicParts far).map (fun q => RedoItem.atomic q.1 (partOf q.2) scope (q.2.map (·.1)) (q.2.map (·.2)))
    let olds := slots.flatMap (fun x => oldItems x.1 (known x.1).isSome x.2.puts)
    formRedo s w (p.items ++ ops ++ olds) (worse p.status r.status)
      (if statusRank r.status < statusRank p.status then r.node else p.node) p.flags 0 0 0

/-- ATOMIC_BATCH: its checks, its guards, the CHECKs of other hubs, then its redo record. -/
def atomicRun (s : State) (w : Work) : State :=
  let d := w.desc
  let n := d.count
  let scope := bits d.param 0 2
  let hub := hubNode s
  if n == 0 || 1048576 < n || scope == 3 then runPlan s w (.stop .formatUnsupported)
  else
    let g := readPtr s w 0 0 (32 * n)
    if !g.needs.isEmpty then askAll s w g.needs
    else
      let list := (chunks 32 n g.data).map parseAtomic
      let es := (List.range list.length).zip list
      let undef : List WriteReq := es.map (fun e => oldWrite d e.1 0)
      if g.status != .ok then runPlan s w { Plan.stop g.status g.node with refused := g.refused, writes := if g.status == .permission then undef else [] }
      else if list.any badAtomic then runPlan s w (.stop .formatUnsupported)
      else
        let here := es.filter (fun e => saNode e.2.target == hub)
        let away := es.filter (fun e => saNode e.2.target != hub)
        let off (e : Nat × AtomicEntry) : Nat := saOff e.2.target
        let barred := here.filter (fun e => !saWellFormed e.2.target || !permits s w.tenant (off e) (atomicWidth e.2) true)
        let far := if scope == 2 then away else []
        let guards := dedup (here.map (fun e => off e / 128)
          ++ (away.filter (fun e => !far.any (fun f => f.1 == e.1))).map (fun e => farGuard (saNode e.2.target) (off e / 128)))
        let needs := here.flatMap (fun e => (deepPages s (off e) 8).map Need.deep ++ (linesToWrite s (off e) (atomicWidth e.2)).map Need.lineWrite)
        let parts := atomicParts (away.filter (fun e => (domainHubs s).contains (saNode e.2.target)))
        if hubOnly s && !away.isEmpty then runPlan s w (.stop .scopeUnsupported)
        else if !barred.isEmpty && w.restored && barred.all (fun e => onlyAbsent s w.tenant (off e) (atomicWidth e.2) true) then
          runPlan s w (.stop .stateLost hub)
        else if !barred.isEmpty then
          runPlan s w { Plan.stop .permission hub with refused := barred.map off, writes := undef }
        else if !needs.isEmpty then askAll s w needs
        else match w.owners.find? (fun o => o.2 == 2) with
          | some o => runPlan s w { Plan.stop .permission o.1 with writes := undef }
          | none =>
            match away.find? (fun e => !reachable s (saNode e.2.target)
                || w.owners.any (fun o => o.1 == saNode e.2.target && o.2 == 3)) with
            | some e => runPlan s w (.stop .nodeUnreachable (saNode e.2.target))
            | none =>
              if guardBlocked s w.stamp guards then modWork s w.queue w.seq (fun x => { x with phase := .waiting })
              else
                let s := modWork (displace s w.stamp guards) w.queue w.seq (fun x => { x with guards := guards, phase := .formed })
                if parts.any (fun p => !w.owners.any (fun o => o.1 == p.1)) then sendChecks s w scope parts
                else if checkOpen s w then s
                else atomicForm s { w with guards := guards, phase := .formed } scope es far

/-- ATOMIC_BATCH (R363). -/
def execAtomicBatch (queue : Nat) (seq : Seq48) (s : State) : Host.Outcome State Fault Refusal :=
  act s (fun s => match workOf s queue seq with
    | none => s
    | some w => if mayRun s w shapeAtomic then atomicRun s w else s)

/-! ### ATOMIC at the owner (R370) -/

/-- Whether a target lies in a REPLICATED table whose primary this hub is (R421). -/
def targetsPrimary (s : State) (off : Nat) : Bool :=
  s.comp.live.tables.any (fun e =>
    let p := entryAt e.2.map0 0
    isReplicated e.2 && p.node == hubNode s && decide (p.base ≤ off) && decide (off < p.base + e.2.rows * strideOf e.2))

/-- The check of R68 of an ATOMIC's targets: the offsets refused. -/
def atomicRefused (s : State) (tenant : Nat) (entries : List AtomicEntry) : List Nat :=
  (entries.filter (fun e => !permits s tenant (saOff e.target) (atomicWidth e) true)).map (fun e => saOff e.target)

/-- Answers an ATOMIC that a target refuses. -/
def refuseAtomic (s : State) (m : MsgHeader) (offs : List Nat) : State :=
  emit (offs.foldl (fun s o => refuse s m.tenant o 1 (some m.src)) s) (.atomicRsp m.src m.tag .permission [])

/-- ATOMIC_CHECK: the owner checks and keeps nothing (R370). -/
def execAtomicCheck (m : MsgHeader) (_scope _queue : Nat) (_seq : Seq48) (_part : Nat) (entries : List AtomicEntry) (s : State) :
    Host.Outcome State Fault Refusal :=
  act s (fun s => if !isMember s m.src then emit s (.atomicRsp m.src m.tag .permission []) else match atomicRefused s m.tenant entries with
    | [] => emit s (.atomicRsp m.src m.tag .ok [])
    | offs => refuseAtomic s m offs)

/-- Reads a target of this hub for a message. -/
def readTarget (s : State) (m : MsgHeader) (sa n : Nat) : Got :=
  let st := localReadStatus s m.tenant (saOff sa) n
  if st != .ok then .fail st (hubNode s) n else { data := viewMem s m.tenant m.src (saOff sa) n }

/-- ATOMIC at its owner: answered again from its receipt, held, refused, or recorded and applied as a delta entry. -/
def takeAtomic (s : State) (m : MsgHeader) (scope queue : Nat) (seq : Seq48) (part : Nat) (entries : List AtomicEntry) : State :=
  let offs := entries.map (fun e => saOff e.target)
  if !isMember s m.src then emit s (.atomicRsp m.src m.tag .permission [])
  else match receiptOf s m.src queue seq part with
  | some rc => emit s (.atomicRsp m.src m.tag rc.status rc.olds)
  | none =>
    if fenced s && offs.any (targetsPrimary s) then s
    else if entries.any badAtomic then emit s (.atomicRsp m.src m.tag .formatUnsupported [])
    else match atomicRefused s m.tenant entries with
      | o :: os => refuseAtomic s m (o :: os)
      | [] =>
        if deltaWaits s offs 8 then holdMessage (clearWay s offs 8) (.atomic m scope queue seq part entries)
        else
          let es := (List.range entries.length).zip (entries.map (fun e => { e with target := saOf (hubNode s) (saOff e.target) }))
          let p := performAll (hubNode s) (readTarget s m) es
          let s := p.items.foldl (fun s i => match i with
            | .bytes off d => writeImage s m.tenant m.src off d
            | _ => s) s
          let rc : Receipt := { src := m.src, queue := queue, seq := seq, part := part, flags := p.flags, status := p.status,
                                olds := p.olds.map (·.2) }
          emit { s with receipts := s.receipts ++ [rc], stamp := s.stamp + 1 } (.atomicRsp m.src m.tag p.status rc.olds)

/-- ATOMIC (R370). -/
def execAtomic (m : MsgHeader) (scope queue : Nat) (seq : Seq48) (part : Nat) (entries : List AtomicEntry) (s : State) :
    Host.Outcome State Fault Refusal :=
  act s (fun s => takeAtomic s m scope queue seq part entries)

/-! ### ATOMIC_RSP (R370) -/

/-- Writes an old value that a remote owner returned. -/
def placeOld (w : Work) (value : Nat × Nat) (s : State) (item : RedoItem) : State :=
  let d (skip len : Nat) : List Byte := ((leBytes 8 value.2).drop skip).take len
  match item with
  | .oldHere slot skip len off => if slot == value.1 then writeImage s w.tenant (hubNode s) off (d skip len) else s
  | .oldFar slot skip len sa => if slot == value.1 then sendCopy s w.tenant (.store w.queue w.seq) sa (d skip len) else s
  | .oldHost slot skip len ld hpa => if slot == value.1 then hostWrite s w.queue w.seq ld hpa (d skip len) else s
  | _ => s

/-- An owner's answer to a descriptor: its status, and its old values by slot. -/
def takeOlds (s : State) (queue : Nat) (seq : Seq48) (slots : List Nat) (src : Nat) (status : Status) (olds : List Nat) : State :=
  match workOf s queue seq with
  | none => s
  | some w =>
    let s := (slots.zip olds).foldl (fun s v => w.redo.foldl (placeOld w v) s) s
    let s := modWork s queue seq (fun x =>
      let st := worse x.status status
      { x with status := st, node := if st == x.status then x.node else src,
               olds := (slots.zip olds).foldl (fun t v => Tbl.put t v.1 v.2) x.olds })
    settle s queue seq

/-- ATOMIC_RSP: the answer to a CHECK, or the old values of an ATOMIC (R370). -/
def execAtomicRsp (src tag : Nat) (status : Status) (olds : List Nat) (s : State) : Host.Outcome State Fault Refusal :=
  act s (fun s => match txOf s tag with
    | none => s
    | some o =>
      if o.node != src then s
      else match o.await with
        | .check q n =>
          let code := if status == .ok then 1 else 2
          settle (modWork (closeTx s tag) q n (fun x =>
            { x with owners := x.owners.map (fun e => if e.1 == src then (e.1, max e.2 code) else e) })) q n
        | .atomic q n slots => takeOlds (closeTx s tag) q n slots src status olds
        | _ => s)

/-! ### Held messages, REDO_APPLY and RELEASE -/

/-- Takes a held message again. -/
def takeAgain (s : State) (c : Instr) : State :=
  match c with
  | .poolReq src h entries => takePoolReq s src h entries
  | .delta src h items => takeDelta s src h items
  | .load m len row => takeLoad s m len row
  | .atomic m scope queue seq part entries => takeAtomic s m scope queue seq part entries
  | _ => s

/-- Takes every held message again, in order: a map, a guard, a receipt or a limit may have changed. -/
def retryHeld (s : State) : State :=
  s.embed.held.foldl takeAgain { s with embed := { s.embed with held := [] } }

/-- REDO_APPLY: a descriptor in REDO_READY is applied in full (R199). The power-loss sequence stops applies (R210). -/
def execRedoApply (queue : Nat) (seq : Seq48) (s : State) : Host.Outcome State Fault Refusal :=
  act s (fun s => match workOf s queue seq with
    | none => s
    | some w =>
      if w.phase == .redoReady && !awaitsReplay s w && !s.pins.failing then retryHeld (applyRedo s w)
      else s)

/-- RELEASE: the receipts of a descriptor are freed (R257, R370). -/
def execRelease (_src : Nat) (h : ExHeader) (s : State) : Host.Outcome State Fault Refusal :=
  act s (fun s => retryHeld { s with receipts := s.receipts.filter (fun r =>
    !(r.src == h.src && r.queue == h.queue && r.seq == h.seq)) })

end Sys2Proof.Machine
end

