-- ==== Sys2Proof/Machine/Records.lean ====
section
/-! DEFINITION. CRC-32C, and the bytes of fault records (R561, R562, R568). -/

namespace Sys2Proof.Machine

open Sys2Proof

/-- One bit of CRC-32C, reflected. -/
def crcBit (c : Nat) : Nat := if c % 2 == 1 then Nat.xor (c / 2) 0x82F63B78 else c / 2

/-- One byte of CRC-32C. -/
def crcByte (c : Nat) (b : Byte) : Nat :=
  crcBit (crcBit (crcBit (crcBit (crcBit (crcBit (crcBit (crcBit (Nat.xor c b.toNat))))))))

/-- CRC-32C of some bytes. -/
def crc32c (bytes : List Byte) : Nat := Nat.xor (bytes.foldl crcByte 0xFFFFFFFF) 0xFFFFFFFF

/-- Code of a UNIT KIND (R562). -/
def unitCode : UnitKind → Nat
  | .cluster => 0x01
  | .hbm => 0x02
  | .ddr => 0x03
  | .flash => 0x04
  | .ifl => 0x05
  | .cxl => 0x06
  | .region => 0x10
  | .chip => 0x20
  | .d2d => 0x21
  | .core => 0x22
  | .sensor => 0x23

/-- A 12-bit number with VALID in bit 15, or 0 of none (R561). -/
def validField (x : Option Nat) : List Byte :=
  match x with
  | none => zeros 2
  | some n => leBytes 2 (n % 4096 + 32768)

/-- Bytes 16 to 59 of a fault record (R561). -/
def faultBody (r : FaultRecord) : List Byte :=
  leBytes 1 r.level ++ leBytes 1 r.severity ++ leBytes 2 r.code
    ++ leBytes 1 (unitCode r.kind) ++ leBytes 1 r.inst ++ leBytes 1 r.cell ++ zeros 1
    ++ validField r.tenant ++ validField r.node ++ leBytes 1 r.status
    ++ leBytes 1 (flag r.cause.isSome + 2 * flag r.alert) ++ leBytes 2 r.merged
    ++ leBytes 8 r.addr ++ leBytes 8 r.arg
    ++ leBytes 8 (match r.cause with
        | none => 0
        | some c => c.2 % 2 ^ 62 + (c.1 <<< 62))
    ++ zeros 4

/-- The 64 bytes of a fault record as a reader sees it: in full, or with bytes 16 to 59 zero; CRC over the bytes shown (R561,
R568). -/
def faultBytes (full : Bool) (r : FaultRecord) : List Byte :=
  let shown := leBytes 8 r.seq ++ leBytes 8 r.time ++ (if full then faultBody r else zeros 44)
  shown ++ leBytes 4 (crc32c shown)

end Sys2Proof.Machine
end

