-- ==== Sys2Proof/Machine/Ordering.lean ====
section
/-! DEFINITION. FENCE, tally channels, Glaze and Published regions, STORE (chapter 09). -/

namespace Sys2Proof.Machine

open Sys2Proof

/-! ### Ending a descriptor that writes nothing -/

/-- Ends a FENCE, WAIT_TALLY or GLAZE. -/
def finish (s : State) (w : Work) (st : Status) (node result : Nat) : State :=
  modWork s w.queue w.seq (fun x =>
    { x with status := worse x.status st, node := if x.status == .ok then node else x.node, result := result, phase := .done })

/-- Whether a descriptor of an opcode may run: it is accepted, not finished, its journal not awaiting replay. -/
def openOf (s : State) (queue : Nat) (seq : Seq48) (opcode : Nat) : Option Work :=
  (workOf s queue seq).bind (fun w =>
    if w.desc.opcode == opcode && (w.phase == .ready || w.phase == .waiting) && !awaitsReplay s w then some w else none)

/-! ### FENCE (R352 to R354) -/

/-- Whether a message a FENCE of scope FABRIC counted is unacknowledged. -/
def fenceMessages (s : State) (w : Work) : Bool :=
  w.waits.any (fun t => (txOf s t).isSome) || s.embed.relays.any (fun r => r.h.tenant == w.tenant)

/-- Whether the conditions of a FENCE hold (R353). -/
def fenceHolds (s : State) (w : Work) (scope : Nat) : Bool :=
  (fenceWaits s w scope).isEmpty && (fenceWaits s w 0).isEmpty && (scope != 2 || !fenceMessages s w)

/-- FENCE of a scope: it completes once its conditions hold, and waits without limit. -/
def fenceNow (s : State) (queue : Nat) (seq : Seq48) (scope : Nat) : State :=
  match openOf s queue seq 2 with
  | none => s
  | some w =>
    if bits w.desc.param 0 2 == 3 then finish s w .formatUnsupported 0 0
    else if bits w.desc.param 0 2 != scope then s
    else if fenceHolds s w scope then finish s w .ok 0 w.result
    else modWork s queue seq (fun x => { x with result := max x.result (fenceWaits s w scope).length, phase := .waiting })

/-- FENCE_QUEUE (R353). -/
def execFenceQueue (queue : Nat) (seq : Seq48) (s : State) : Host.Outcome State Fault Refusal :=
  act s (fun s => fenceNow s queue seq 0)

/-- FENCE_HUB (R353). -/
def execFenceHub (queue : Nat) (seq : Seq48) (s : State) : Host.Outcome State Fault Refusal :=
  act s (fun s => fenceNow s queue seq 1)

/-- FENCE_FABRIC (R353). -/
def execFenceFabric (queue : Nat) (seq : Seq48) (s : State) : Host.Outcome State Fault Refusal :=
  act s (fun s => fenceNow s queue seq 2)

/-- A message that ends by its timeout counts as acknowledged for every FENCE, which then names its node (R354). -/
def fenceLost (s : State) (tag node : Nat) : State :=
  { s with works := s.works.map (fun w =>
      if w.desc.opcode == 2 && bits w.desc.param 0 2 == 2 && w.waits.contains tag && w.status == .ok && w.phase != .done then
        { w with status := .nodeUnreachable, node := node }
      else w) }

/-! ### STORE and the tally channels (R355 to R362) -/

/-- A STORE of another endpoint: one that is no member of the domain gets PERMISSION (R66). -/
def takeStore (s : State) (m : MsgHeader) (data : List Byte) : State :=
  if !isMember s m.src then emit s (.storeAck m.src m.tag .permission)
  else serve s [] (.store m.src m.tag m.offset m.tenant data)

/-- STORE: the bytes are written at the target after the check of R68, and answered with STORE_ACK (R355). -/
def execStore (m : MsgHeader) (data : List Byte) (s : State) : Host.Outcome State Fault Refusal :=
  act s (fun s => takeStore s m data)

/-- TALLY_STORE: a STORE without order (R359). -/
def execTallyStore (m : MsgHeader) (data : List Byte) (s : State) : Host.Outcome State Fault Refusal :=
  act s (fun s => takeStore s m data)

/-- Bindings of the image: send channels and counters (R358). -/
def tallySends (s : State) : Tbl TallySend := (s.boot.image.map (·.tallySend)).getD []
def tallyRecvs (s : State) : Tbl TallyRecv := (s.boot.image.map (·.tallyRecv)).getD []

/-- Whether a counter's binding has taken effect: its tenant is that of the queue behind the channel (R358). -/
def tallyValid (s : State) (r : TallyRecv) : Bool := (bindOf s r.queue).map (·.tenant) == some r.tenant

/-- Whether a tally write of a descriptor is unacknowledged. -/
def tallyOpen (s : State) (queue : Nat) (seq : Seq48) : Bool :=
  s.fabric.outstanding.any (fun o => match o.await with
    | .tally q n => q == queue && n == seq
    | _ => false)

/-- Whether a descriptor owes a credit: it sent tally writes and did not end ABORTED (R360, R361). -/
def owesCredit (w : Work) : Bool :=
  decide (0 < w.tallyPkts) && w.status != .aborted && w.status != .abortedPartial

/-- TALLY_CREDIT_SEND: every tally write of a descriptor is visible; credits of a channel go in SEQ order (R360). -/
def execTallyCreditSend (queue : Nat) (seq : Seq48) (s : State) : Host.Outcome State Fault Refusal :=
  act s (fun s => match workOf s queue seq with
    | none => s
    | some w =>
      let earlier := s.works.any (fun x => x.queue == queue && Seq48.before x.seq seq && owesCredit x)
      if !owesCredit w || w.phase != .done || tallyOpen s queue seq || earlier then s
      else
        let s := modWork s queue seq (fun x => { x with tallyBytes := 0, tallyPkts := 0 })
        match (tallySends s).find? (fun e => e.2.queue == queue) with
        | none => s
        | some e =>
          let tag := s.fabric.nextTag
          emit (openTx s e.2.dest (.credit queue seq) w.tenant e.1 0)
            (.tallyCredit e.2.dest e.1 tag seq w.tallyBytes w.tallyPkts))

/-- A credit at its counter: added when SEEN is clear or its SEQ comes after the last (R360). -/
def creditCounter (c : TallyCounter) (seq : Seq48) (bytes packets : Nat) : TallyCounter :=
  if !c.seen || Seq48.before c.lastSeq seq then
    { bytes := c.bytes + BitVec.ofNat 48 bytes, packets := c.packets + BitVec.ofNat 32 packets, lastSeq := seq, seen := true }
  else c

/-- TALLY_CREDIT (R360). -/
def execTallyCredit (src channel tag : Nat) (seq : Seq48) (bytes packets : Nat) (s : State) : Host.Outcome State Fault Refusal :=
  act s (fun s =>
    let s := match (tallyRecvs s).find? (fun e => e.2.src == src && e.2.channel == channel && tallyValid s e.2) with
      | none => s
      | some e =>
        let t := Tbl.change s.order.tally e.1 TallyCounter.zero (fun c => creditCounter c seq bytes packets)
        { s with order := { s.order with tally := t } }
    emit s (.creditAck src tag))

/-- CREDIT_ACK: the credit is acknowledged (R353). -/
def execCreditAck (src tag : Nat) (s : State) : Host.Outcome State Fault Refusal :=
  act s (fun s => match txOf s tag with
    | none => s
    | some o => match o.await with
      | .credit _ _ => if o.node == src then closeTx s tag else s
      | _ => s)

/-- Whether a count has reached a target, modulo its width in the manner of R175. -/
def reached48 (c : BitVec 48) (t : Nat) : Bool := decide ((c - BitVec.ofNat 48 t).toNat < 2 ^ 47)
def reached32 (c : BitVec 32) (t : Nat) : Bool := decide ((c - BitVec.ofNat 32 t).toNat < 2 ^ 31)

/-- WAIT_TALLY (R362). -/
def execWaitTally (queue : Nat) (seq : Seq48) (s : State) : Host.Outcome State Fault Refusal :=
  act s (fun s => match openOf s queue seq 3 with
    | none => s
    | some w =>
      let c := bits w.desc.param 0 6
      match Tbl.find (tallyRecvs s) c with
      | none => finish s w .permission (hubNode s) 0
      | some r =>
        let k := Tbl.at s.order.tally c TallyCounter.zero
        if !tallyValid s r || r.tenant != w.tenant then finish s w .permission (hubNode s) 0
        else if reached48 k.bytes (bits w.desc.arg0 0 48) && reached32 k.packets (bits w.desc.arg1 0 32) then
          finish s w .ok 0 k.bytes.toNat
        else if declaredLost s r.src then finish s w .nodeUnreachable r.src 0
        else modWork s queue seq (fun x => { x with phase := .waiting }))

/-! ### Glaze (R383 to R390) -/

/-- MODE of a GLAZE, the SA of its region, and its writer node (R383). -/
def glazeMode (d : Descriptor) : Nat := bits d.param 0 2
def glazeWriter (d : Descriptor) : Nat := bits d.arg1 0 12

/-- The Published region of this hub that an SA names: its first page and state, where the tenant may read it (R384). -/
def namedRegion (s : State) (tenant sa : Nat) : Option (Nat × PubRegion) :=
  if saWellFormed sa && saNode sa == hubNode s && saOff sa % Config.pageBytes == 0 && permits s tenant (saOff sa) 1 false then
    (regionOf s (pageOf (saOff sa))).bind (fun r => if r.1 == pageOf (saOff sa) then some r else none)
  else none

/-- Renews the lease of a draft (R389). -/
def renewDraft (s : State) (region tenant writer : Nat) : State :=
  { s with order := { s.order with drafts := s.order.drafts.map (fun d =>
      if d.region == region && d.tenant == tenant && d.writer == writer then { d with renewed := s.now } else d) } }

/-- Frees drafts that a test takes. -/
def dropDrafts (s : State) (hit : Draft → Bool) : State :=
  { s with order := { s.order with drafts := s.order.drafts.filter (fun d => !hit d) } }

/-- Whether another PUBLISH of a region has its outcome and has not flipped. -/
def flipPending (s : State) (region : Nat) : Bool :=
  s.works.any (fun w => w.follow.any (fun f => match f with
    | .flip r _ _ _ => r == region
    | _ => false))

/-- GLAZE_PUBLISH: the outcome is fixed with the log record, the flip follows it (R385, R386). -/
def execGlazePublish (queue : Nat) (seq : Seq48) (s : State) : Host.Outcome State Fault Refusal :=
  act s (fun s => match openOf s queue seq 4 with
    | none => s
    | some w =>
      if glazeMode w.desc != 0 then s
      else match namedRegion s w.tenant w.desc.ptr0 with
        | none => finish s w .permission (hubNode s) 0
        | some (r, x) =>
          let writer := glazeWriter w.desc
          if flipPending s r || !gateOpen s w then s
          else
            let s := renewDraft s r w.tenant writer
            match draftOf s r w.tenant writer with
            | none => finish s w .ok 0 x.version
            | some d =>
              if d.granules.isEmpty then finish s w .ok 0 x.version
              else if !x.lastWins && w.desc.arg0 != x.version then finish s w .conflict 0 x.version
              else modWork (finish s w .ok 0 (x.version + 1)) queue seq (fun y =>
                { y with follow := [.flip r w.tenant writer (x.version + 1)] }))

/-- GLAZE_DISCARD: the draft is freed (R385). -/
def execGlazeDiscard (queue : Nat) (seq : Seq48) (s : State) : Host.Outcome State Fault Refusal :=
  act s (fun s => match openOf s queue seq 4 with
    | none => s
    | some w =>
      if glazeMode w.desc != 1 then s
      else match namedRegion s w.tenant w.desc.ptr0 with
        | none => finish s w .permission (hubNode s) 0
        | some (r, x) =>
          if !gateOpen s w then s
          else finish (dropDrafts s (fun d => d.region == r && d.tenant == w.tenant && d.writer == glazeWriter w.desc)) w .ok 0 x.version)

/-- Kinds of the version messages (R406). -/
def kindVersionRsp : Nat := 0x27
def kindVersionNotice : Nat := 0x44
def kindVersionReq : Nat := 0x45

/-- Drops the cached sectors of a region of another node: those at and after its FIRST_SA (R385). -/
def dropRegion (s : State) (sa : Nat) : State :=
  { s with order := { s.order with sectors := s.order.sectors.filter (fun p =>
      !(p.node == saNode sa && decide (saOff sa ≤ 128 * p.sector))) } }

/-- Learns the version of a region: at home, or by VERSION_REQ (R385). -/
def learnVersion (s : State) (w : Work) : State :=
  let sa := w.desc.ptr0
  if saNode sa == hubNode s then
    match namedRegion s w.tenant sa with
    | none => finish s w .permission (hubNode s) 0
    | some (r, x) => finish (renewDraft s r w.tenant (hubNode s)) w .ok 0 x.version
  else if !saWellFormed sa || !(domainHubs s).contains (saNode sa) then finish s w .permission (saNode sa) 0
  else if !reachable s (saNode sa) then finish s w .nodeUnreachable (saNode sa) 0
  else
    let tag := s.fabric.nextTag
    emit (modWork (openTx s (saNode sa) (.version w.queue w.seq) w.tenant sa 0) w.queue w.seq (fun x => { x with phase := .waiting }))
      (.version (saNode sa) kindVersionReq tag (saOff sa) .ok w.tenant)

/-- GLAZE_REFRESH: cached sectors are dropped, then the version is learned (R385). -/
def execGlazeRefresh (queue : Nat) (seq : Seq48) (s : State) : Host.Outcome State Fault Refusal :=
  act s (fun s => match openOf s queue seq 4 with
    | none => s
    | some w => if glazeMode w.desc == 2 && w.phase == .ready && gateOpen s w then learnVersion (dropRegion s w.desc.ptr0) w else s)

/-- GLAZE_VERSION: the version is learned, nothing is dropped (R385). -/
def execGlazeVersion (queue : Nat) (seq : Seq48) (s : State) : Host.Outcome State Fault Refusal :=
  act s (fun s => match openOf s queue seq 4 with
    | none => s
    | some w => if glazeMode w.desc == 3 && w.phase == .ready && gateOpen s w then learnVersion s w else s)

/-- The flip of a PUBLISH: the draft's granules replace the version's in one step; version notices go to every hub of the
domain (R386, R387). Nothing happens where the version has risen already. -/
def flipDraft (s : State) (region tenant writer version : Nat) : State :=
  match Tbl.find s.order.regions region, draftOf s region tenant writer with
  | some x, some d =>
    if x.version + 1 != version then s
    else
      let base := region * Config.pageBytes
      let s := d.granules.foldl (fun s g =>
        let off := base + g * 65536
        let s := dropRows s off 65536
        let cells := d.data.filter (fun c => decide (off ≤ c.1) && decide (c.1 < off + 65536))
        let mem := cells.foldl (fun m c => memPut m c.1 c.2) (memClear s.store.mem off 65536)
        let poison := s.store.poison.filter (fun u => u < off / 64 || (off + 65536) / 64 ≤ u)
        { s with store := { s.store with mem := mem, poison := poison } }) s
      let s := dropDrafts s (fun y => y.region == region && y.tenant == tenant && y.writer == writer)
      let s := { s with order := { s.order with regions := Tbl.put s.order.regions region { x with version := version } } }
      if noticesOn s then
        ((domainHubs s).filter (· != hubNode s)).foldl (fun s n => emit s (.version n kindVersionNotice 0 base .ok version)) s
      else s
  | _, _ => s

/-- VERSION_REQ at the home: the version, or PERMISSION where no region has that FIRST_SA (R384, R385). -/
def execVersionReq (m : MsgHeader) (s : State) : Host.Outcome State Fault Refusal :=
  act s (fun s => match (if isMember s m.src then namedRegion s m.tenant (saOf (hubNode s) m.offset) else none) with
    | none => emit s (.version m.src kindVersionRsp m.tag m.offset .permission 0)
    | some (r, x) => emit (renewDraft s r m.tenant m.src) (.version m.src kindVersionRsp m.tag m.offset .ok x.version))

/-- Remembers the version of a region of another node. -/
def learned (s : State) (sa version : Nat) : State :=
  { s with order := { s.order with learned := Tbl.put s.order.learned sa version } }

/-- VERSION_RSP: the GLAZE that waits for it ends (R385). -/
def execVersionRsp (m : MsgHeader) (status : Status) (version : Nat) (s : State) : Host.Outcome State Fault Refusal :=
  act s (fun s => match txOf s m.tag with
    | none => s
    | some o => match o.await with
      | .version q n =>
        if o.node != m.src then s
        else
          let s := if status == .ok then learned (closeTx s m.tag) o.addr version else closeTx s m.tag
          match workOf s q n with
          | none => s
          | some w => finish s w status m.src version
      | _ => s)

/-- VERSION_NOTICE: a hint; older sectors of the region are dropped (R387). -/
def execVersionNotice (m : MsgHeader) (version : Nat) (s : State) : Host.Outcome State Fault Refusal :=
  act s (fun s =>
    let sa := saOf m.src m.offset
    learned { s with order := { s.order with sectors := s.order.sectors.filter (fun p =>
      !(p.node == m.src && p.region == m.offset && decide (p.version < version))) } } sa version)

/-- DRAFT_LEASE_EXPIRY: the draft is freed (R389). -/
def execDraftLeaseExpiry (region tenant writer : Nat) (s : State) : Host.Outcome State Fault Refusal :=
  act s (fun s => dropDrafts s (fun d => d.region == region && d.tenant == tenant && d.writer == writer))

end Sys2Proof.Machine
end

