-- ==== Sys2Proof/Machine/Coherence.lean ====
section
/-! DEFINITION. Held lines: the members' requests at the home, and the home's messages at a member (R372 to R380). -/

namespace Sys2Proof.Machine

open Sys2Proof

/-! ### At the home -/

/-- Line of a message's offset. -/
def msgLine (m : MsgHeader) : Nat := m.offset / 128

/-- Directory entries of a region (R372). -/
def regionLines (s : State) (k : Nat) : List (Nat × DirEntry) := s.order.directory.filter (fun e => lineRegion s e.1 == k)

/-- Whether a region's directory is full (R372). -/
def directoryFull (s : State) (k : Nat) : Bool := decide (1048576 ≤ (regionLines s k).length)

/-- The line of a region least recently granted, among those without a transaction (R374). -/
def leastGranted (s : State) (k : Nat) : Option Nat :=
  let idle := (regionLines s k).filter (fun e => e.2.busy.isNone)
  (leastBy (fun e => e.2.granted) idle).map (·.1)

/-- Answers a member with line data: its granted state, or the status that refuses it. -/
def sendData (s : State) (dst tag line : Nat) (granted : LineState) (status : Status) (data : List Byte) : State :=
  emit s (.line dst kindData 0 tag (line * 128) (lineStateCode granted) status data)

/-- NACK with the line's next ticket (R378). -/
def nackLine (s : State) (m : MsgHeader) (line : Nat) : State :=
  match Tbl.find s.order.directory line with
  | none => emit s (.line m.src kindNack 0 m.tag (line * 128) 0 .ok [])
  | some e =>
    emit (modLine s line (fun x => { x with next := (x.next + 1) % 128 }))
      (.line m.src kindNack 0 m.tag (line * 128) e.next .ok [])

/-- NACK that keeps the requester's ticket (R378). -/
def nackAgain (s : State) (m : MsgHeader) (line ticket : Nat) : State :=
  emit s (.line m.src kindNack 0 m.tag (line * 128) ticket .ok [])

/-- Status of a member's request: it needs a Held page, the right, readable data, and a line whose owner lives. -/
def lineStatus (s : State) (m : MsgHeader) (write : Bool) : Status :=
  let line := msgLine m
  let st := if write then (if permits s m.tenant (line * 128) 128 true then .ok else .permission)
            else readStatus s m.tenant (line * 128) 128
  let st := if st == .ok && rangeGone s (line * 128) 128 then .poison else st
  let held := ((pageAt s (line * 128)).map (fun p => p.cls == .held)).getD false
  if st == .permission || !held then .permission
  else if lostLines s (line * 128) 128 then .lineOwnerLost
  else st

/-- A directory entry for a first holder. -/
def firstHolder (s : State) (state : LineState) (node : Nat) : DirEntry :=
  { state := state, owner := node, sharers := [], next := 0, serve := 0, lost := false, busy := none, acksDue := [],
    waiting := [], granted := s.order.grants }

/-- Counts one more grant (R374). -/
def countGrant (s : State) : State := { s with order := { s.order with grants := s.order.grants + 1 } }

/-- READ_SHARED on a line without a transaction (R376). -/
def serveShared (s : State) (m : MsgHeader) : State :=
  let line := msgLine m
  let data := readMem s (line * 128) 128
  let s := countGrant s
  match Tbl.find s.order.directory line with
  | none =>
    sendData { s with order := { s.order with directory := Tbl.put s.order.directory line (firstHolder s .exclusive m.src) } }
      m.src m.tag line .exclusive .ok data
  | some e =>
    let grant (f : DirEntry → DirEntry) : State := modLine s line (fun x => { f x with granted := s.order.grants })
    match e.state with
    | .shared => sendData (grant (fun x => { x with sharers := dedup (x.sharers ++ [m.src]) })) m.src m.tag line .shared .ok data
    | .exclusive =>
      sendLine (grant (fun x => { x with state := .shared, sharers := dedup (x.sharers ++ [x.owner, m.src]) }))
        e.owner kindFwdShared line m.src .ok []
    | _ =>
      sendLine (grant (fun x => { x with state := .owned, sharers := dedup (x.sharers ++ [m.src]) }))
        e.owner kindFwdShared line m.src .ok []

/-- READ_OWN or UPGRADE on a line without a transaction: the other copies are invalidated first (R376). -/
def serveOwn (s : State) (m : MsgHeader) (request : LineRequest) : State :=
  let line := msgLine m
  let s := match Tbl.find s.order.directory line with
    | some _ => s
    | none => { s with order := { s.order with directory := Tbl.put s.order.directory line (firstHolder s .shared m.src) } }
  match Tbl.find s.order.directory line with
  | none => s
  | some e =>
    let request := if request == .upgrade && !(holders e).contains m.src then .readOwn else request
    let tx := LineTx.member m.src m.tag request
    if ((holders e).filter (· != m.src)).isEmpty then finishTx s line { e with busy := some tx }
    else startTx s line e tx

/-- A member's request: refused, NACKed while a transaction is in progress or the directory is full, or served (R374,
R376, R378, R379). -/
def memberRequest (s : State) (m : MsgHeader) (request : LineRequest) : State :=
  let line := msgLine m
  let st := lineStatus s m (request != .readShared)
  if !(domainHubs s).contains m.src then sendData s m.src m.tag line .shared .permission (ones 128)
  else if st != .ok then sendData s m.src m.tag line .shared st (ones 128)
  else match Tbl.find s.order.directory line with
    | some e =>
      if e.busy.isSome then nackLine s m line
      else if request == .readShared then serveShared s m else serveOwn s m request
    | none =>
      let k := lineRegion s line
      if directoryFull s k then
        let s := match leastGranted s k with
          | none => s
          | some l => beginLine s l .recall
        nackLine s m line
      else if request == .readShared then serveShared s m else serveOwn s m request

/-- READ_SHARED (R376). -/
def execReadShared (m : MsgHeader) (s : State) : Host.Outcome State Fault Refusal := act s (fun s => memberRequest s m .readShared)

/-- READ_OWN (R376). -/
def execReadOwn (m : MsgHeader) (s : State) : Host.Outcome State Fault Refusal := act s (fun s => memberRequest s m .readOwn)

/-- UPGRADE (R376). -/
def execUpgrade (m : MsgHeader) (s : State) : Host.Outcome State Fault Refusal := act s (fun s => memberRequest s m .upgrade)

/-- EVICT: the member is removed; a dirty line is written back (R376). -/
def execEvict (m : MsgHeader) (dirty : List Byte) (s : State) : Host.Outcome State Fault Refusal :=
  act s (fun s =>
    let line := msgLine m
    match Tbl.find s.order.directory line with
    | none => s
    | some e =>
      if !(holders e).contains m.src then s
      else
        let owner := e.state != .shared && e.owner == m.src
        let s := if owner && !dirty.isEmpty then setMem s (line * 128) (dirty.take 128) else s
        let sharers := e.sharers.filter (· != m.src)
        if e.busy.isSome then modLine s line (fun x => { x with sharers := sharers })
        else if owner then
          if sharers.isEmpty then freeLine s line else modLine s line (fun x => { x with state := .shared, sharers := sharers })
        else if sharers.isEmpty && e.state == .shared then freeLine s line
        else modLine s line (fun x => { x with sharers := sharers }))

/-- RETRY: a ticket is served in its order, or NACKed again (R378). -/
def execRetry (m : MsgHeader) (request : LineRequest) (ticket : Nat) (s : State) : Host.Outcome State Fault Refusal :=
  act s (fun s =>
    let line := msgLine m
    match Tbl.find s.order.directory line with
    | none => memberRequest s m request
    | some e =>
      if e.busy.isSome || ticket != e.serve then nackAgain s m line ticket
      else memberRequest (modLine s line (fun x => { x with serve := (x.serve + 1) % 128 })) m request)

/-- INV_ACK at the home (R375, R376). -/
def execInvAck (m : MsgHeader) (line : List Byte) (s : State) : Host.Outcome State Fault Refusal :=
  act s (fun s => lineAnswer s m.src (msgLine m) line)

/-! ### At a member -/

/-- The copy of a line that this hub holds from a home. -/
def heldCopy (s : State) (home line : Nat) : Option HeldCopy :=
  s.order.copies.find? (fun c => c.node == home && c.line == line)

/-- Drops a copy. -/
def dropCopy (s : State) (home line : Nat) : State :=
  { s with order := { s.order with copies := s.order.copies.filter (fun c => !(c.node == home && c.line == line)) } }

/-- Changes the state of a copy. -/
def setCopy (s : State) (home line : Nat) (state : LineState) : State :=
  { s with order := { s.order with copies := s.order.copies.map (fun c =>
      if c.node == home && c.line == line then { c with state := state } else c) } }

/-- Whether a copy is dirty. -/
def dirtyCopy (c : HeldCopy) : Bool := c.state == .modified || c.state == .owned

/-- Writes a copy back and gives it up (R376). -/
def evictCopy (s : State) (c : HeldCopy) : State :=
  emit (dropCopy s c.node c.line)
    (.line c.node kindEvict c.tenant 0 (c.line * 128) 0 .ok (if dirtyCopy c then c.data else []))

/-- Lines that the far caches of a hub hold: 64 MiB (R147). -/
def farLines : Nat := 524288

/-- Takes a line into the far cache; a full cache gives up its oldest copy (R153). -/
def addCopy (s : State) (c : HeldCopy) : State :=
  let s := if s.order.copies.length < farLines then s else match s.order.copies with
    | [] => s
    | old :: _ => evictCopy s old
  let s := dropCopy s c.node c.line
  { s with order := { s.order with copies := s.order.copies ++ [c] } }

/-- A request of this hub for a line, by line number and, for an answer of the home, its node. -/
def missOf (s : State) (line : Nat) : Option LineMiss := s.order.misses.find? (fun x => x.line == line)

/-- Ends a request of this hub. -/
def dropMiss (s : State) (x : LineMiss) : State :=
  { s with order := { s.order with misses := s.order.misses.filter (fun y => !(y.node == x.node && y.line == x.line)) } }

/-- Hands the status of a refused line to the waiting descriptors of its tenant. -/
def failLine (s : State) (x : LineMiss) (st : Status) : State :=
  { s with works := s.works.map (fun w =>
      if w.tenant == x.tenant && w.phase == .waiting then
        { w with fetched := w.fetched ++ [{ space := .store, addr := saOf x.node (x.line * 128), status := st, node := x.node,
                                            data := ones 128 }] }
      else w) }

/-- DATA: the home of a line takes what its holder supplies for a non-member read; a member takes the line it asked for
(R375, R376). -/
def execData (m : MsgHeader) (status : Status) (granted : LineState) (line : List Byte) (s : State) :
    Host.Outcome State Fault Refusal :=
  act s (fun s =>
    let l := msgLine m
    let home := match Tbl.find s.order.directory l with
      | none => false
      | some e => match e.busy with
        | some (.read _) => e.owner == m.src
        | _ => false
    if home then lineSupplied s m.src l (line.take 128)
    else match missOf s l with
      | none => s
      | some x =>
        let s := dropMiss s x
        if status != .ok then failLine s x status
        else addCopy s { node := x.node, line := l, tenant := x.tenant, state := granted, data := line.take 128 ++ zeros (128 - line.length) })

/-- GRANT: an UPGRADE has completed (R376, R377). -/
def execGrant (m : MsgHeader) (s : State) : Host.Outcome State Fault Refusal :=
  act s (fun s => match missOf s (msgLine m) with
    | none => s
    | some x => if x.node == m.src && x.request == .upgrade then setCopy (dropMiss s x) x.node x.line .modified else s)

/-- NACK: the request is retried with its ticket (R378). -/
def execNack (m : MsgHeader) (ticket : Nat) (s : State) : Host.Outcome State Fault Refusal :=
  act s (fun s => match missOf s (msgLine m) with
    | none => s
    | some x =>
      if x.node != m.src then s
      else
        let s := { s with order := { s.order with misses := s.order.misses.map (fun y =>
          if y.node == x.node && y.line == x.line then { y with ticket := some ticket } else y) } }
        emit s (.line x.node kindRetry x.tenant m.tag (x.line * 128) ticket .ok []))

/-- FWD_SHARED: the holder supplies the data; M moves to O, E to S (R375, R376). -/
def execFwdShared (m : MsgHeader) (requester : Nat) (s : State) : Host.Outcome State Fault Refusal :=
  act s (fun s => match heldCopy s m.src (msgLine m) with
    | none => s
    | some c =>
      let next := if dirtyCopy c then LineState.owned else .shared
      sendData (setCopy s c.node c.line next) requester m.tag c.line .shared .ok c.data)

/-- FWD_OWN: the M or O holder sends its data to the requester, gives its copy up, and tells the home (R376). -/
def execFwdOwn (m : MsgHeader) (requester : Nat) (s : State) : Host.Outcome State Fault Refusal :=
  act s (fun s => match heldCopy s m.src (msgLine m) with
    | none => s
    | some c =>
      let s := sendData (dropCopy s c.node c.line) requester m.tag c.line .modified .ok c.data
      emit s (.line m.src kindInvAck 0 m.tag (c.line * 128) 0 .ok []))

/-- INV or RECALL at a member: the copy is dropped, and a dirty one goes home with the acknowledgement (R374, R375). -/
def invalidate (s : State) (m : MsgHeader) : State :=
  let data := match heldCopy s m.src (msgLine m) with
    | some c => if dirtyCopy c then c.data else []
    | none => []
  emit (dropCopy s m.src (msgLine m)) (.line m.src kindInvAck 0 m.tag (msgLine m * 128) 0 .ok data)

/-- INV (R376). -/
def execInv (m : MsgHeader) (s : State) : Host.Outcome State Fault Refusal := act s (fun s => invalidate s m)

/-- RECALL (R374). -/
def execRecall (m : MsgHeader) (s : State) : Host.Outcome State Fault Refusal := act s (fun s => invalidate s m)

end Sys2Proof.Machine
end

