-- ==== Sys2Proof/Machine/Transfers.lean ====
section
/-! DEFINITION. The shapes that move data: COPY_CONVERT, FILL, PAGE_OUT, PAGE_IN and LAYER_STREAM (chapters 03, 04
and 08). -/

namespace Sys2Proof.Machine

open Sys2Proof

/-! ### COPY_CONVERT (R603) -/

/-- A row stride: 0 means the stored size; a stride below it, or no multiple of 8, is out of range (R603). -/
def strideBad (stride size : Nat) : Bool := stride != 0 && (decide (stride < size) || stride % 8 != 0)

/-- The checks of R105 and R186 on a COPY_CONVERT. -/
def copyBad (w : Work) : Bool :=
  let d := w.desc
  let n := d.param
  d.count == 0 || decide (n < 4) || decide (4096 < n) || !selOk d.srcFmt false n false || !selOk d.dstFmt true n w.barred
    || d.ptr0 % 8 != 0 || d.ptr1 % 8 != 0 || strideBad (bits d.arg0 0 32) (storedSize d.srcFmt n)
    || strideBad (bits d.arg0 32 32) (storedSize d.dstFmt n)

/-- A row read becomes a row to write: converted, or poisoned where it reads poison (R106, R115, R239). A refused row is
still one that the descriptor would have written (R165). -/
def convertGot (d : Descriptor) (base : Nat) (g : Got) : List Byte × Nat × Bool :=
  if g.status == .ok then
    let c := convertRow d.srcFmt d.dstFmt d.param base g.data
    (c.1, c.2, false)
  else (zeros (storedSize d.dstFmt d.param), 0, poisons g.status)

/-- COPY_CONVERT. -/
def copyPlan (s : State) (w : Work) : Plan :=
  let d := w.desc
  if copyBad w then .stop .formatUnsupported
  else
    let inSize := storedSize d.srcFmt d.param
    let inStride := strideOr (bits d.arg0 0 32) inSize
    let outStride := strideOr (bits d.arg0 32 32) (storedSize d.dstFmt d.param)
    let rows := (List.range d.count).map (fun i => readPtr s w 0 (i * inStride) inSize)
    let got := Got.all (rows.map Got.mute)
    if !got.needs.isEmpty then .wait got.needs
    else
      let outs := (List.range d.count).map (fun i =>
        (i, convertGot d (s.free + 4096 * i) ((rows[i]?).getD {}), ((rows[i]?).getD {}).status))
      let kept := outs.filter (fun o => o.2.2 == .ok || o.2.2 == .permission || poisons o.2.2)
      { status := got.status, node := got.node, refused := got.refused, count := kept.length,
        conv := orFlags (outs.map (fun o => o.2.1.2.1)), draws := 4096 * d.count,
        writes := kept.map (fun o => rowWrite d 1 (d.ptr1 + o.1 * outStride) o.2.1.1 o.2.1.2.2) }

/-- COPY_CONVERT (R603). -/
def execCopyConvert (queue : Nat) (seq : Seq48) (s : State) : Host.Outcome State Fault Refusal :=
  act s (fun s => runShape s queue seq shapeCopy copyPlan)

/-! ### FILL (R604) -/

/-- The byte of a pattern at a destination address (R604). -/
def fillByte (pattern addr : Nat) : Byte := BitVec.ofNat 8 (pattern >>> (8 * (addr % 8)))

/-- FILL. -/
def fillPlan (_ : State) (w : Work) : Plan :=
  let d := w.desc
  if d.count == 0 then .stop .formatUnsupported
  else
    { count := d.count,
      writes := [rowWrite d 0 d.ptr0 ((List.range d.count).map (fun i => fillByte d.arg0 (d.ptr0 + i))) false] }

/-- FILL (R604). -/
def execFill (queue : Nat) (seq : Seq48) (s : State) : Host.Outcome State Fault Refusal :=
  act s (fun s => runShape s queue seq shapeFill fillPlan)

/-! ### PAGE_OUT and PAGE_IN (R334 to R337) -/

/-- Bytes of one entry of the lists: GRAN (R334). -/
def granBytes (d : Descriptor) : Nat := if bit d.param 0 then 2097152 else 4096

/-- An 8-byte list of addresses, each aligned to GRAN, once it is read. -/
def addressList (count : Nat) (data : List Byte) : List Nat := (List.range count).map (fun i => fieldAt data (8 * i) 8)

/-- Whether the lists hold an entry out of its range: not aligned, or a slot that is no SA of this hub (R186, R334). -/
def listsBad (s : State) (g : Nat) (hosts slots : List Nat) : Bool :=
  hosts.any (fun a => a % g != 0) || slots.any (fun a => a % g != 0 || saNode a != hubNode s || !saWellFormed a)

/-- The host list and the slot list of a descriptor. -/
structure PageLists where
  got   : Got
  hosts : List Nat
  slots : List Nat

/-- Reads both lists: the host list through `hostPtr`, the slot list through the other pointer. -/
def readLists (s : State) (w : Work) (hostPtr slotPtr : Nat) : PageLists :=
  let n := w.desc.count
  let h := readPtr s w hostPtr 0 (8 * n)
  let l := readPtr s w slotPtr 0 (8 * n)
  { got := Got.and h.mute l.mute, hosts := addressList n h.data, slots := addressList n l.data }

/-- Whether COUNT is out of range (R334). -/
def pagesBad (d : Descriptor) : Bool := d.count == 0 || decide (65536 < d.count)

/-- A plan for both shapes once the lists are read and hold good entries. -/
def pagePlan (s : State) (w : Work) (hostPtr slotPtr : Nat) (body : PageLists → Plan) : Plan :=
  if pagesBad w.desc then .stop .formatUnsupported
  else
    let l := readLists s w hostPtr slotPtr
    if !l.got.needs.isEmpty then .wait l.got.needs
    else if l.got.status != .ok then { Plan.stop l.got.status l.got.node with refused := l.got.refused }
    else if listsBad s (granBytes w.desc) l.hosts l.slots then .stop .formatUnsupported
    else body l

/-- Stored form of 4 KiB of data in the slot of a page: raw in the near tier, its PAGE_OUT form elsewhere (R335). -/
def formOf (s : State) (slot : Nat) (data : List Byte) : UnitForm :=
  match pageAt s (saOff slot) with
  | none => .raw
  | some p =>
    if p.tier == .near then .raw
    else if patternEnabled s && isPattern data then .pattern
    else if lzEnabled s then
      let n := Config.lzSectors data
      if 1 ≤ n ∧ n ≤ 7 then .lz n else .raw
    else .raw

/-- RESULT of PAGE_OUT: the sectors stored, saturating, and the pattern units (R337). -/
def storedResult (forms : List UnitForm) : Nat :=
  min 0xFFFFFFFF (sumNat (forms.map (fun f => match f with
    | .raw => 8
    | .pattern => 0
    | .lz n => n))) + (forms.filter (· == .pattern)).length * 2 ^ 32

/-- Slots that lie in the deep tier while it is short: PAGE_OUT waits for room there (R320). -/
def deepWait (s : State) (slots : List Nat) : Bool :=
  tierShort s .deep && slots.any (fun a => ((pageAt s (saOff a)).map (fun p => p.tier == .deep)).getD false)

/-- Whether a PAGE_OUT has waited 10 ms for room (R313, R320). -/
def outWaited (s : State) (w : Work) : Bool :=
  match w.waited with
  | none => false
  | some t => decide (t + 10000000 ≤ s.now)

/-- PAGE_OUT. -/
def pageOutPlan (s : State) (w : Work) : Plan :=
  pagePlan s w 0 1 (fun l =>
    let g := granBytes w.desc
    let pages := (l.hosts.zip l.slots).map (fun p => (p.2, readTva s w p.1 g))
    let got := Got.all (pages.map (fun p => p.2.mute))
    if !got.needs.isEmpty then .wait got.needs
    else if deepWait s l.slots then
      (if outWaited s w then .stop .quotaExceeded (hubNode s) else .wait [.map])
    else
      let kept := pages.filter (fun p => p.2.status == .ok || p.2.status == .permission || poisons p.2.status)
      { status := got.status, node := got.node, refused := got.refused, direct := true, count := kept.length,
        result := storedResult (kept.flatMap (fun p => (chunks 4096 512 p.2.data).map (formOf s p.1))),
        writes := kept.map (fun p => { tva := false, addr := p.1, data := p.2.data, poison := poisons p.2.status }) })

/-- A 4 KiB unit of a page takes its PAGE_OUT form (R307, R335). -/
def packUnit (s : State) (off : Nat) : State :=
  let page := pageOf off
  let u := off % Config.pageBytes / 4096
  let form := unitForm s page u
  modPage s page (fun p => if p.tier == .near || p.phase == .lost then p
    else if form == .pattern then { p with forms := Tbl.del p.forms u } else { p with forms := Tbl.put p.forms u form })

/-- Units of the slots of a list. -/
def slotUnits (g : Nat) (slots : List Nat) : List Nat :=
  slots.flatMap (fun a => (List.range (g / 4096)).map (fun i => saOff a + 4096 * i))

/-- Whether a descriptor has issued its writes. -/
def issued (s : State) (queue : Nat) (seq : Seq48) : Bool :=
  match workOf s queue seq with
  | none => false
  | some w => w.phase == .applying || w.phase == .done

/-- PAGE_OUT once it can run: its writes, then the stored form of the units written. A wait for room is timed. -/
def runPageOut (s : State) (queue : Nat) (seq : Seq48) : State :=
  match workOf s queue seq with
  | none => s
  | some w =>
    if !mayRun s w shapePageOut then s
    else
      let p := pageOutPlan s w
      let s' := runPlan s w p
      if issued s' queue seq && !p.writes.isEmpty then
        (slotUnits (granBytes w.desc) (p.writes.map (·.addr))).foldl (fun s off =>
          if permits s w.tenant off 4096 true then packUnit s off else s) s'
      else if p.needs == [.map] && w.waited.isNone then
        modWork s' queue seq (fun x => { x with waited := some s.now })
      else s'

/-- PAGE_OUT (R335). -/
def execPageOut (queue : Nat) (seq : Seq48) (s : State) : Host.Outcome State Fault Refusal :=
  act s (fun s => runPageOut s queue seq)

/-- CLEAR of a PAGE_IN (R334). -/
def clearsSlots (d : Descriptor) : Bool := bit d.arg0 0

/-- PAGE_IN: with CLEAR the slots are checked for writing too, and are cleared after the log record (R336). -/
def pageInPlan (s : State) (w : Work) : Plan :=
  pagePlan s w 1 0 (fun l =>
    let g := granBytes w.desc
    let pages := (l.hosts.zip l.slots).map (fun p => (p.1, readSa s w p.2 g))
    let barred := if clearsSlots w.desc then l.slots.filter (fun a => !permits s w.tenant (saOff a) g true) else []
    let got := Got.all (pages.map (fun p => p.2.mute))
    if !got.needs.isEmpty then .wait got.needs
    else
      let kept := pages.filter (fun p => p.2.status == .ok || p.2.status == .permission || poisons p.2.status)
      let st := if barred.isEmpty then got.status else .permission
      { status := st, node := if barred.isEmpty then got.node else hubNode s,
        refused := got.refused ++ barred.map (fun a => refusedAt s w.tenant (saOff a) g true), count := kept.length,
        writes := kept.map (fun p => { tva := true, addr := p.1, data := p.2.data, poison := poisons p.2.status }),
        follow := if clearsSlots w.desc && st == .ok then [.clearSlots g l.slots] else [] })

/-- Slots that a refused PAGE_IN with CLEAR would have cleared hold undefined bytes (R165). -/
def freeSlots (s : State) (tenant g : Nat) (slots : List Nat) : State :=
  slots.foldl (fun s a =>
    if permits s tenant (saOff a) g true then
      spend (writeLocal s tenant (hubNode s) (saOff a) (freeBytes s g)) g
    else s) s

/-- PAGE_IN once it can run. -/
def runPageIn (s : State) (queue : Nat) (seq : Seq48) : State :=
  match workOf s queue seq with
  | none => s
  | some w =>
    if !mayRun s w shapePageIn then s
    else
      let s' := runPlan s w (pageInPlan s w)
      match workOf s' queue seq with
      | none => s'
      | some x =>
        if x.status == .permission && clearsSlots w.desc && issued s' queue seq && !pagesBad w.desc then
          freeSlots s' w.tenant (granBytes w.desc) (readLists s w 1 0).slots
        else s'

/-- PAGE_IN (R334). -/
def execPageIn (queue : Nat) (seq : Seq48) (s : State) : Host.Outcome State Fault Refusal :=
  act s (fun s => runPageIn s queue seq)

/-- Slots cleared after the log record: zero-pattern units (R336). -/
def clearSlots (s : State) (tenant g : Nat) (slots : List Nat) : State :=
  (slotUnits g slots).foldl (fun s off =>
    let s := writeLocal s tenant (hubNode s) off (zeros 4096)
    modPage s (pageOf off) (fun p =>
      if p.tier == .near then p else { p with forms := Tbl.del p.forms (off % Config.pageBytes / 4096) })) s

/-! ### LAYER_STREAM (R338 to R341) -/

/-- WINDOW; 0 means 3 (R338). -/
def layerWindow (d : Descriptor) : Nat := if bits d.arg0 0 4 == 0 then 3 else bits d.arg0 0 4

/-- SLOTS (R338). -/
def layerSlots (d : Descriptor) : Nat := bits d.arg0 4 16

/-- The checks of R105 and R186 on a LAYER_STREAM. -/
def layerBad (w : Work) : Bool :=
  let d := w.desc
  d.count == 0 || decide (65536 < d.count) || decide (d.param < 4) || decide (4096 < d.param) || layerSlots d == 0
    || !selOk d.srcFmt false d.param false || !selOk d.dstFmt true d.param w.barred

/-- A layer of the table: its source SA and its rows. -/
abbrev Layer := Nat × Nat

/-- The layer table. -/
def layerTable (d : Descriptor) (data : List Byte) : List Layer :=
  (List.range d.count).map (fun i => (fieldAt data (16 * i) 8, fieldAt data (16 * i + 8) 4))

/-- Whether a layer's source pages are all near (R340). -/
def allNear (s : State) (sa len : Nat) : Bool :=
  saNode sa == hubNode s && (pagesOf (saOff sa) len).all (fun i =>
    ((Tbl.find s.store.pages i).map (fun p => p.tier == .near)).getD false)

/-- The rows of a layer, read from where it lies. -/
def layerRows (s : State) (w : Work) (addr : Nat) (tva : Bool) (rows : Nat) : List Got :=
  let size := storedSize w.desc.srcFmt w.desc.param
  (List.range rows).map (fun i => readAt s w tva (addr + i * size) size)

/-- Address of a layer's staging slot: L is the largest stored layer size (R340). -/
def stagingAddr (d : Descriptor) (layers : List Layer) (i : Nat) : Nat :=
  d.ptr2 + (i % layerWindow d) * (maxNat (layers.map (·.2)) * storedSize d.srcFmt d.param)

/-- Makes a plan's writes without ending the descriptor, then goes on; a refusal or an unreachable node ends it. -/
def partPlan (s : State) (w : Work) (p : Plan) (next : Work → Work) : State :=
  if !p.needs.isEmpty then askAll s w p.needs
  else
    let r := Puts.all (p.writes.map (resolve s w p.direct))
    let st := worse p.status r.status
    if !r.needs.isEmpty then askAll s w r.needs
    else if st != .ok && st != .poison then runPlan s w p
    else
      let s := r.puts.foldl (putOne w) (spend s p.draws)
      modWork s w.queue w.seq (fun x => next
        { x with status := worse x.status st, node := if x.status == .ok && st != .ok then (if st == p.status then p.node else r.node) else x.node,
                 conv := x.conv ||| p.conv, delivered := true })

/-- The next layer of the window to stage: the first whose source is not all near and that is not staged yet (R340). -/
def nextToStage (s : State) (w : Work) (layers : List Layer) : Option Nat :=
  ((List.range (layerWindow w.desc)).map (· + w.layer)).find? (fun j =>
    let l := (layers[j]?).getD (0, 0)
    decide (j < w.desc.count) && !w.staged.contains j
      && !allNear s l.1 (l.2 * storedSize w.desc.srcFmt w.desc.param))

/-- Staging of a layer, whole (R340). -/
def stagePlan (s : State) (w : Work) (layers : List Layer) (j : Nat) : Plan :=
  let l := (layers[j]?).getD (0, 0)
  let rows := layerRows s w l.1 false l.2
  let got := Got.all (rows.map Got.mute)
  let size := storedSize w.desc.srcFmt w.desc.param
  { needs := got.needs, status := got.status, node := got.node, refused := got.refused, count := w.layer,
    writes := (List.range l.2).map (fun i =>
      let g := (rows[i]?).getD {}
      { tva := isTva w.desc 2, addr := stagingAddr w.desc layers j + i * size,
        data := g.data, poison := poisons g.status }) }

/-- The bound range of a descriptor's tenant that a local address lies in (R493, R494). -/
def boundRange (s : State) (w : Work) (sa : Nat) : Option BoundRange :=
  if saNode sa != hubNode s then none
  else s.sec.ranges.find? (fun r => r.tenant == w.tenant && decide (r.first ≤ pageOf (saOff sa))
    && decide (pageOf (saOff sa) < r.first + r.pages))

/-- Whether a descriptor may send bound content: its destination is a consumer of the record, over an encrypted port
(R494). -/
def mayConsume (s : State) (w : Work) (r : BoundRange) : Bool :=
  let node := saNode w.desc.ptr1
  !isTva w.desc 1 && r.consumers.contains node && match activePort s node with
    | none => false
    | some p => (portOf s p).encrypted

/-- Whether a descriptor reads bound content that its destination may not receive (R494). -/
def boundBad (s : State) (w : Work) (layers : List Layer) : Bool :=
  layers.any (fun l => match boundRange s w l.1 with
    | none => false
    | some r => !mayConsume s w r)

/-- A row of bound content decrypted: `at_` is its source SA, and a byte of its 16-byte blocks outside the row is read at
the source (R494). -/
def decryptRow (s : State) (r : BoundRange) (at_ : Nat) (data : List Byte) : List Byte :=
  (List.range data.length).map (fun i =>
    let x := at_ + i
    let cipher := (List.range 16).map (fun k =>
      let y := x / 16 * 16 + k
      if at_ ≤ y ∧ y < at_ + data.length then (data[y - at_]?).getD 0 else memByte s.store.mem (saOff y))
    let o := saOff x - r.first * Config.pageBytes
    Config.xtsByte r.hash (o / 4096) (o % 4096 / 16) cipher (x % 16))

/-- A row as UNPACK hands it on: decrypted where it is bound content (R494). -/
def unpackRow (s : State) (w : Work) (at_ : Nat) (g : Got) : Got :=
  match boundRange s w at_ with
  | none => g
  | some r => if g.status == .ok then { g with data := decryptRow s r at_ g.data } else g

/-- Sending of the next layer, from its staging slot or from its near source (R339, R340). -/
def sendPlan (s : State) (w : Work) (layers : List Layer) : Plan :=
  let d := w.desc
  let i := w.layer
  let l := (layers[i]?).getD (0, 0)
  let rows := if w.staged.contains i then layerRows s w (stagingAddr d layers i) (isTva d 2) l.2
              else layerRows s w l.1 false l.2
  let got := Got.all (rows.map Got.mute)
  let outs := (List.range l.2).map (fun j => (j, convertGot d (s.free + 4096 * j)
    (unpackRow s w (l.1 + j * storedSize d.srcFmt d.param) ((rows[j]?).getD {}))))
  { needs := got.needs, status := got.status, node := got.node, refused := got.refused, count := i,
    conv := orFlags (outs.map (fun o => o.2.2.1)), draws := 4096 * l.2,
    writes := outs.map (fun o => rowWrite d 1
      (d.ptr1 + (i % layerSlots d) * (bits d.arg1 0 32 * Config.pageBytes) + o.1 * storedSize d.dstFmt d.param)
      o.2.1 o.2.2.2) }

/-- One step of a LAYER_STREAM: it ends, stages a layer of its window, or sends the next layer. -/
def layerStep (s : State) (w : Work) (layers : List Layer) : State :=
  let d := w.desc
  let i := w.layer
  if (w.status != .ok && w.status != .poison) || decide (d.count ≤ i) then runPlan s w { count := i }
  else if boundBad s w layers then runPlan s w { status := .permission, node := hubNode s, count := i }
  else match nextToStage s w layers with
    | some j => partPlan s w (stagePlan s w layers j) (fun x => { x with staged := x.staged ++ [j], fetched := [] })
    | none =>
      let c := if i < layerSlots d then { data := leBytes 8 i } else readPtr s w 3 0 8
      if !c.needs.isEmpty then askAll s w c.needs
      else if c.status != .ok then runPlan s w { status := c.status, node := c.node, refused := c.refused, count := i }
      else if fieldAt c.data 0 8 + layerSlots d < i + 1 then
        askAll (modWork s w.queue w.seq (fun x => { x with fetched := [] })) w [.map]
      else partPlan s w (sendPlan s w layers) (fun x =>
        { x with layer := i + 1, staged := x.staged.filter (· != i), fetched := [] })

/-- LAYER_STREAM once it can run: it reads its table anew, then takes one step. -/
def runLayers (s : State) (queue : Nat) (seq : Seq48) : State :=
  match workOf s queue seq with
  | none => s
  | some w =>
    if !mayRun s w shapeLayer then s
    else if layerBad w then runPlan s w (.stop .formatUnsupported)
    else
      let t := readPtr s w 0 0 (16 * w.desc.count)
      if !t.needs.isEmpty then askAll s w t.needs
      else if t.status != .ok then runPlan s w { status := t.status, node := t.node, refused := t.refused, count := w.layer }
      else layerStep s w (layerTable w.desc t.data)

/-- LAYER_STREAM (R338). -/
def execLayerStream (queue : Nat) (seq : Seq48) (s : State) : Host.Outcome State Fault Refusal :=
  act s (fun s => runLayers s queue seq)

end Sys2Proof.Machine
end

