-- ==== Sys2Proof/Machine/Mailbox.lean ====
section
/-! DEFINITION. The mailboxes: which core serves a message, how a message begins, waits and is answered (R546 to R550). -/

namespace Sys2Proof.Machine

open Sys2Proof

/-- The mailbox of a sender; the management port has one of its own (R546). -/
def mailboxOf (s : State) (who : Sender) : Mailbox := Tbl.at s.mailbox (senderKey who) Mailbox.idle

/-- Changes the mailbox of a sender. -/
def modMailbox (s : State) (who : Sender) (f : Mailbox → Mailbox) : State :=
  { s with mailbox := Tbl.change s.mailbox (senderKey who) Mailbox.idle f }

/-- MBOX_CAPS: the protocol version of the running firmware, 0 before SCHED_FW (R548, R560). -/
def mboxMajor (s : State) : Nat := if s.boot.fwAccepted.contains 3 then s.boot.fwMajor else 0
def mboxMinor (s : State) : Nat := if s.boot.fwAccepted.contains 3 then s.boot.fwMinor else 0

/-- MSG_ID of a message. -/
def messageId : Message → Nat
  | .alloc .. => 0x0800
  | .free .. => 0x0801
  | .salvage .. => 0x0900
  | .bindContent .. => 0x0A00
  | .unbindContent .. => 0x0A01
  | .debugUnlock .. => 0x0A02
  | .imageWrite .. => 0x0B00
  | .dirSet .. => 0x0B01
  | .raw id _ => id

/-- The core that serves a message id: the security core for 0x0A00 to 0x0BFF, else the scheduler core (R541). -/
def servingCore (id : Nat) : Nat := if 0x0A00 ≤ id then securityCore else schedulerCore

/-- Sets consecutive bytes of a buffer. -/
def putBytes (t : Tbl Byte) (off : Nat) : List Byte → Tbl Byte
  | [] => t
  | b :: rest => putBytes (Tbl.put t off b) (off + 1) rest

/-- The header of a response (R547, R548). -/
def responseHeader (s : State) (id tag len : Nat) : List Byte :=
  [BitVec.ofNat 8 (mboxMajor s), BitVec.ofNat 8 (mboxMinor s)] ++ leBytes 2 id ++ leBytes 2 len ++ zeros 2 ++ leBytes 4 tag
    ++ zeros 4

/-- Writes a response: the status in body byte 0, then `rest`; BUSY clears and DONE sets (R547, R549). -/
def respond (s : State) (who : Sender) (id tag : Nat) (st : Status) (rest : List Byte) : State :=
  let body := BitVec.ofNat 8 (statusCode st) :: rest
  emit (modMailbox s who (fun m =>
    { m with busy := false, waitFw := false, done := true, tag := tag,
             response := putBytes m.response 0 (responseHeader s id tag body.length ++ body) })) (.mailbox who tag st body)

/-- A response of a status alone. -/
def respondStatus (s : State) (who : Sender) (id tag : Nat) (st : Status) : State := respond s who id tag st []

/-- A GO or a message that meets a busy mailbox is ignored (R549). -/
def goIgnored (s : State) (who : Sender) : State := modMailbox s who (fun m => { m with err := true })

/-- A message is submitted: its serving core takes it with `serve`, or it waits for that core (R549). -/
def submit (serve : State → Sender → Nat → Message → State) (s : State) (who : Sender) (tag : Nat) (msg : Message) : State :=
  if (mailboxOf s who).busy then goIgnored s who
  else
    let s := modMailbox s who (fun m => { m with busy := true, tag := tag })
    if coreRuns s (servingCore (messageId msg)) then serve s who tag msg
    else modMailbox { s with power := { s.power with waiting := s.power.waiting ++ [(who, tag, msg)] } } who
      (fun m => { m with waitFw := true })

/-- The messages that wait for a core, taken in order once it runs (R549). -/
def serveWaiting (serve : State → Sender → Nat → Message → State) (s : State) (core : Nat) : State :=
  let mine (x : Sender × Nat × Message) : Bool := servingCore (messageId x.2.2) == core
  let taken := s.power.waiting.filter mine
  let s := { s with power := { s.power with waiting := s.power.waiting.filter (fun x => !mine x) } }
  taken.foldl (fun s x => serve (modMailbox s x.1 (fun m => { m with waitFw := false })) x.1 x.2.1 x.2.2) s

end Sys2Proof.Machine
end

