-- ==== Sys2Proof/Machine/Allocation.lean ====
section
/-! DEFINITION. Pages: the key directory they may belong to, allocation and freeing, rings, eviction, promotion, moves and
loss (chapter 08, R172, R380, R470, R471). -/

namespace Sys2Proof.Machine

open Sys2Proof

/-! ### Key directory entries (R470, R471) -/

/-- Stands for a dropped pool page in a key's list: no page has this number. -/
def noPage : Nat := 2 ^ 40

/-- 0xFFFF in MISSING and LOST_LAYER: none. -/
def noLayer : Nat := 0xFFFF

/-- The entry of a key of a pool. -/
def keyOf (s : State) (pool key : Nat) : Option KeyEntry := s.comp.keys.find? (fun k => k.pool == pool && k.key == key)

/-- Changes the entry of a key. -/
def modKey (s : State) (pool key : Nat) (f : KeyEntry → KeyEntry) : State :=
  { s with comp := { s.comp with keys := s.comp.keys.map (fun k => if k.pool == pool && k.key == key then f k else k) } }

/-- Pool pages that a key holds: POOL_PAGES. -/
def poolPages (k : KeyEntry) : Nat := (k.pageList.filter (· != noPage)).length

/-- The lowest layer with a byte in the pool page at place `i` of a key's list: a pool page holds 32 KV pages (R469). -/
def layerOfPage (k : KeyEntry) (i : Nat) : Nat := if k.pages == 0 then 0 else 32 * i / k.pages

/-- A key that loses sight of a page: by eviction its MISSING falls, by failure it is LOST and LOST_LAYER falls (R470,
R471). -/
def keyWithout (page : Nat) (failed : Bool) (k : KeyEntry) : KeyEntry :=
  match indexOf? (· == page) k.pageList with
  | none => k
  | some i =>
    let l := layerOfPage k i
    if failed then { k with state := .lost, lostLayer := min k.lostLayer l }
    else { k with missing := min k.missing l, pageList := k.pageList.set i noPage }

/-- The key directory after a page was dropped or lost. -/
def keysWithout (s : State) (page : Nat) (failed : Bool) : State :=
  { s with comp := { s.comp with keys := s.comp.keys.map (keyWithout page failed) } }

/-- Pages of keys whose push is in progress, and pages that a fetch in flight reads: no candidates for eviction (R469). -/
def keptPages (s : State) : List Nat :=
  (s.comp.keys.filter (fun k => k.state == .opened || s.works.any (fun w =>
    w.desc.opcode == 1 && w.shape == shapeFetch && inFlight s w && bits w.desc.ptr1 32 12 == hubNode s
      && w.desc.arg0 == k.key && bits w.desc.param 0 8 == k.pool))).flatMap (·.pageList)

/-! ### Allocation (R309 to R314) -/

/-- Page numbers of the page space (R55). -/
def pageCount : Nat := Config.pageSpace / Config.pageBytes

/-- Whether `n` consecutive page numbers from a base are free. -/
def pagesFree (s : State) (base n : Nat) : Bool :=
  decide (base + n ≤ pageCount) && (List.range n).all (fun i => !Tbl.has s.store.pages (base + i))

/-- The first gap of `n` page numbers between the entries of a page map. -/
def firstGap (n : Nat) : Nat → Tbl Page → Nat
  | base, [] => base
  | base, (k, _) :: t => if base + n ≤ k then base else firstGap n (max base (k + 1)) t

/-- FIRST_SA's page number of an allocation: any free run of page numbers (no rule chooses one). -/
def freeBase (s : State) (n : Nat) : Nat := chooseFree s.free (fun b => pagesFree s b n) (firstGap n 0 s.store.pages)

/-- Tiers that the TIER field of FLAGS allows, in order (R309, R310). -/
def wantedTiers (want : Nat) : List Tier :=
  if want == 0 then [.near] else if want == 1 then [.near, .far, .deep] else if want == 2 then [.far] else [.deep]

/-- The tier of an allocation: the first one allowed that has room, else the first allowed. -/
def chooseTier (s : State) (want n : Nat) : Tier :=
  ((wantedTiers want).find? (fun t => decide (n ≤ tierAvailable s t))).getD (((wantedTiers want).head?).getD .near)

/-- Places one page by R305: its bytes read zero (R314). -/
def placePage (owner : Nat) (t : Tier) (want format : Nat) (pooled discard lastWins : Bool) (cls : PageClass)
    (s : State) (page : Nat) : State :=
  match placeUnit s t with
  | none => s
  | some u => spend (addPage (zeroPage s page) page (newPage s owner t u want format pooled discard lastWins cls)) 1

/-- Region classes of ALLOC_PAGES (R312). -/
def pageClass (cls : Nat) : PageClass := if cls == 1 then .held else if cls == 2 then .published else .plain

/-- Whether an allocation finds room and keeps the tenant within its ceiling: nothing, or the status that refuses it. -/
def allocStatus (s : State) (tenant count want : Nat) : Status :=
  let t := chooseTier s want count
  if !withinCeiling s tenant t count then .quotaExceeded
  else if tierAvailable s t < count then .quotaExceeded
  else .ok

/-- Whether only room is wanting, so that an allocation waits for eviction (R313). -/
def allocWaits (s : State) (tenant count want : Nat) : Bool :=
  let t := chooseTier s want count
  withinCeiling s tenant t count && decide (tierAvailable s t < count)

/-- `n` pages at consecutive page numbers from `base`. -/
def placePages (s : State) (owner base n : Nat) (t : Tier) (want format : Nat) (pooled discard lastWins : Bool)
    (cls : PageClass) : State :=
  ((List.range n).map (· + base)).foldl (placePage owner t want format pooled discard lastWins cls) s

/-- The allocation itself: COUNT pages and, for CLASS Published, a region of version 1 (R313, R381). -/
def allocNow (s : State) (tenant count flags format cls pub : Nat) : State × Nat :=
  let want := bits flags 0 2
  let base := freeBase s count
  let t := chooseTier s want count
  let wins := cls == 2 && bit pub 0
  let s := placePages (spend s 1) tenant base count t want (bits format 0 4) (bit flags 2) false wins (pageClass cls)
  (if cls == 2 then
    { s with order := { s.order with regions := Tbl.put s.order.regions base { pages := count, version := 1, lastWins := wins } } }
   else s, base)

/-- The response to ALLOC_PAGES and FREE_PAGES (R312). -/
def pagesResponse (s : State) (who : Sender) (id tag : Nat) (st : Status) (firstSa : Nat) : State :=
  respond s who id tag st (zeros 7 ++ leBytes 8 firstSa)

/-- ALLOC_PAGES as its serving core takes it, or meets it again after an eviction; `last` once it has waited 10 ms. -/
def allocPages (s : State) (who : Sender) (tag tenant count flags format cls pub : Nat) (last : Bool) : State :=
  let stop (st : Status) : State := pagesResponse s who 0x0800 tag st 0
  if !mayActFor s who tenant then stop .permission
  else if count == 0 || decide (512 < count) || decide (2 < cls) then stop .formatUnsupported
  else if allocStatus s tenant count (bits flags 0 2) == .ok then
    let r := allocNow s tenant count flags format cls pub
    pagesResponse r.1 who 0x0800 tag .ok (saOf (hubNode s) (r.2 * Config.pageBytes))
  else if last || !allocWaits s tenant count (bits flags 0 2) then stop .quotaExceeded
  else { s with store := { s.store with
      ticket := s.store.ticket + 1,
      waits := s.store.waits ++ [{ ticket := s.store.ticket, ask := .pages who tag tenant count flags format cls pub }] } }

/-! ### Freeing (R315, R381) -/

/-- Ends the Published region that a page belongs to, with its drafts: its pages are no longer allocated together. -/
def endRegion (s : State) (page : Nat) : State :=
  match regionOf s page with
  | none => s
  | some (r, _) => { s with order := { s.order with
      regions := Tbl.del s.order.regions r, drafts := s.order.drafts.filter (fun d => d.region != r) } }

/-- A page leaves the page map: its cached rows, its lines and its Published region go with it, and accesses that waited
for it are served, which R58 now refuses. -/
def freePage (s : State) (page : Nat) : State :=
  let base := page * Config.pageBytes
  let s := dropRows (endRegion s page) base Config.pageBytes
  let s := { s with order := { s.order with directory := s.order.directory.filter (fun e =>
      e.1 < base / 128 || (base + Config.pageBytes) / 128 ≤ e.1) } }
  releaseHeld (dropPage s page) page

/-- FREE_PAGES as its serving core takes it (R315). -/
def freePages (s : State) (who : Sender) (tag tenant count firstSa : Nat) : State :=
  let stop (st : Status) : State := pagesResponse s who 0x0801 tag st 0
  let first := pageOf (saOff firstSa)
  let mine := (List.range count).all (fun i =>
    ((Tbl.find s.store.pages (first + i)).map (fun p => p.owner == tenant)).getD false)
  if !mayActFor s who tenant then stop .permission
  else if count == 0 || decide (512 < count) then stop .formatUnsupported
  else if !saWellFormed firstSa || saNode firstSa != hubNode s || saOff firstSa % Config.pageBytes != 0 || !mine then stop .permission
  else pagesResponse (((List.range count).map (· + first)).foldl freePage s) who 0x0801 tag .ok 0

/-! ### LINE_SALVAGE (R380) -/

/-- LINE_SALVAGE as its serving core takes it: the LINE_OWNER_LOST state of each named line ends. -/
def salvageLines (s : State) (who : Sender) (tag tenant lines firstSa : Nat) : State :=
  let off := saOff firstSa
  let bound := match who with
    | .mgmt => false
    | .ld n => boundTo s n tenant
  let owned := (pagesOf off (128 * lines)).all (fun i =>
    ((Tbl.find s.store.pages i).map (fun p => p.owner == tenant)).getD false)
  if !bound || !saWellFormed firstSa || saNode firstSa != hubNode s || !owned then respondStatus s who 0x0900 tag .permission
  else if lines == 0 then respondStatus s who 0x0900 tag .formatUnsupported
  else
    let hit (e : Nat × DirEntry) : Bool := e.2.lost && decide (off / 128 ≤ e.1) && decide (e.1 < off / 128 + lines)
    let n := (s.order.directory.filter hit).length
    let s := { s with order := { s.order with directory := s.order.directory.filter (fun e => !hit e) } }
    respond s who 0x0900 tag .ok (zeros 7 ++ leBytes 4 n)

/-! ### Rings (R172, R173) -/

/-- Pages of the two rings of N entries: 64 and 32 bytes an entry. -/
def ringPages (n : Nat) : Nat := (96 * n + Config.pageBytes - 1) / Config.pageBytes

/-- Free near pages of the region that holds a journal's primary. -/
def ringRoom (s : State) (journal : Nat) : Nat :=
  let r := match (journalOf s journal).primary with
    | some u => u / 2
    | none => journal
  unitFree s .near (2 * r) + unitFree s .near (2 * r + 1)

/-- Places one ring page in the region that holds a journal's primary (R172). -/
def placeRing (owner journal : Nat) (s : State) (page : Nat) : State :=
  let r := match (journalOf s journal).primary with
    | some u => u / 2
    | none => journal
  match placeStack s r with
  | none => s
  | some u => spend (addPage (zeroPage s page) page (newPage s owner .near u 0 15 false false false .plain)) 1

/-- Places the rings of a queue: the submission ring first, then the completion ring; the SA of each. -/
def placeRings (s : State) (tenant journal n : Nat) : State × Nat × Nat :=
  let base := freeBase s (ringPages n)
  let s := ((List.range (ringPages n)).map (· + base)).foldl (placeRing tenant journal) (spend s 1)
  let sq := saOf (hubNode s) (base * Config.pageBytes)
  (s, sq, sq + 64 * n)

/-! ### Eviction (R319, R320) -/

/-- Milliseconds since a page's last access (R316, R317). -/
def pageAge (s : State) (p : Page) : Nat := (nowMs s + 2 ^ 32 - p.lastAccess) % 2 ^ 32

/-- Eviction candidates of a tier, the oldest first and the lower SA on a tie, before the floors are applied. -/
def evictable (s : State) (t : Tier) : List (Nat × Page) :=
  let kept := keptPages s
  sortBy (fun a b => decide (pageAge s b.2 < pageAge s a.2))
    (s.store.pages.filter (fun e => e.2.tier == t && e.2.pooled && e.2.want != 0 && e.2.phase == .resident && !kept.contains e.1))

/-- Pages of a tier that leave it with the moves under way. -/
def leaving (s : State) (t : Tier) : Nat :=
  (s.store.moves.filter (fun m => ((Tbl.find s.store.pages m.page).map (fun p => p.tier == t)).getD false)).length

/-- Whether eviction has done enough for a tier: its target is free once the moves under way have flipped. -/
def evictedEnough (s : State) (t : Tier) : Bool :=
  decide (poolHigh s * tierTotal s t ≤ (tierFree s t + leaving s t) * 1024)

/-- Pooled pages of a tenant in a tier that stay when the moves under way have flipped. -/
def pooledStaying (s : State) (tenant : Nat) (t : Tier) : Nat :=
  (s.store.pages.filter (fun e => e.2.owner == tenant && e.2.tier == t && e.2.pooled && !isMoving s e.1)).length

/-- Whether a tier has room for a page that moves into it; the deep tier waits while it is short (R320). -/
def moveRoom (s : State) (t : Tier) : Bool :=
  if t == .deep then !tierShort s .deep && decide (0 < tierFree s .deep) else decide (0 < tierAvailable s t)

/-- Where an evicted page goes: one tier down, or the tier below while that one is short and can evict nothing (R320). -/
def evictTo (s : State) (t : Tier) : Option Tier :=
  match t with
  | .deep => none
  | .far => if moveRoom s .deep then some .deep else none
  | .near =>
    let farFull := !moveRoom s .far || (tierShort s .far && (evictable s .far).isEmpty)
    if !farFull then some .far else if moveRoom s .deep then some .deep else none

/-- Evicts one candidate: a DISCARD page is dropped (R311, R320). -/
def evictPage (s : State) (t : Tier) (page : Nat) (p : Page) : State :=
  if p.discard then keysWithout (freePage s page) page false
  else match evictTo s t with
    | none => s
    | some d => startMove s page d false

/-- TIER_EVICTION: while a tier is short, pooled pages are evicted until its target is free (R319). -/
def evictTier (s : State) (t : Tier) : State :=
  if t == .deep || !tierShort s t then s
  else (evictable s t).foldl (fun s e =>
    if evictedEnough s t || pooledStaying s e.2.owner t ≤ (quotaOf s e.2.owner t).floor then s
    else evictPage s t e.1 e.2) s

/-! ### Promotion (R321) -/

/-- NEAR_PREF pages of the lower tiers, the newest access first. -/
def promotable (s : State) : List (Nat × Page) :=
  sortBy (fun a b => decide (pageAge s a.2 < pageAge s b.2))
    (s.store.pages.filter (fun e => e.2.tier != .near && e.2.want == 1 && e.2.phase == .resident))

/-- PROMOTION: while the near tier has its target free, pages move up until LOW per 1,024 would be passed. -/
def promotePages (s : State) : State :=
  if !tierAtHigh s .near then s
  else (promotable s).foldl (fun s e =>
    if poolLow s * tierTotal s .near ≤ (tierFree s .near - 1) * 1024 && decide (0 < tierFree s .near) then
      startMove s e.1 .near false
    else s) s

/-! ### Moves (R323, R325) -/

/-- Starts the promotions that held writes wait for (R323). -/
def retryPromotions (s : State) : State :=
  (dedup (s.store.held.map (·.1))).foldl (fun s page =>
    if ((Tbl.find s.store.pages page).map (fun p => p.tier == .deep && p.phase != .lost)).getD false then
      startMove s page .far true else s) s

/-- The move of a page. -/
def moveOf (s : State) (page : Nat) : Option Move := s.store.moves.find? (fun m => m.page == page)

/-- Ends a move with its flip: writes that waited for a deep page are served (R323, R325). -/
def flipNow (s : State) (m : Move) : State :=
  let s := flipPage s m
  retryPromotions (if m.tier == .deep then s else releaseHeld s m.page)

/-- MOVE_FLIP of a move between tiers. -/
def moveFlip (s : State) (page : Nat) : State :=
  match moveOf s page with
  | none => s
  | some m => if m.promotion then s else flipNow s m

/-- DEEP_PROMOTION_DONE: the page stands in the far tier, PROMOTED; a promotion that found no far page starts now. -/
def promotionDone (s : State) (page : Nat) : State :=
  match moveOf s page with
  | none => retryPromotions s
  | some m => if m.promotion then flipNow s m else s

/-- PROMOTED_RETURN: a PROMOTED page that met no write for RETURN_MS returns to the deep tier (R323). -/
def promotedReturn (s : State) (page : Nat) : State :=
  match Tbl.find s.store.pages page with
  | none => s
  | some p => if p.phase == .promoted && moveRoom s .deep then startMove s page .deep false else s

/-! ### Loss (R328, R331) -/

/-- A page becomes LOST: its key is LOST with it, and a move of it ends (R331, R471). -/
def losePage (s : State) (page : Nat) : State :=
  keysWithout (modPage { s with store := { s.store with moves := s.store.moves.filter (fun m => m.page != page) } } page
    (fun p => { p with phase := .lost })) page true

/-- A move whose source unit left service: the units not yet copied, a free number of them, are poison (R328). -/
def cutMove (s : State) (m : Move) : State :=
  let copied := Config.freeNat s.free % 513
  let base := m.page * Config.pageBytes
  ((List.range ((512 - copied) * 64)).map (fun i => base / 64 + copied * 64 + i)).foldl poisonUnit (spend s 1)

/-- A move whose destination unit left service ends; the page stays at its source (R328). -/
def endMove (s : State) (m : Move) : State :=
  modPage { s with store := { s.store with moves := s.store.moves.filter (fun x => x.page != m.page) } } m.page
    (fun p => if p.phase == .lost then p else { p with phase := .resident })

/-- Pages on the units that a test takes become LOST, those on the move excepted; the PAGES_LOST record names the first SA
and the number (R331, R328). -/
def loseUnits (s : State) (hit : Tier → Nat → Bool) (kind : UnitKind) (inst : Nat) (cause : Option (Nat × Nat)) : State :=
  let s := (s.store.moves.filter (fun m => hit m.tier m.unit)).foldl endMove s
  let from_ := s.store.moves.filter (fun m =>
    ((Tbl.find s.store.pages m.page).map (fun p => hit p.tier p.unit)).getD false)
  let s := from_.foldl cutMove s
  let gone := (s.store.pages.filter (fun e => hit e.2.tier e.2.unit && e.2.phase != .lost
    && !from_.any (fun m => m.page == e.1))).map (·.1)
  match gone with
  | [] => s
  | p :: _ => raise (gone.foldl losePage s) 0x0107
      { kind := kind, inst := inst, addr := saOf (hubNode s) (p * Config.pageBytes), arg := gone.length, cause := cause }

/-- FLASH_DIE_FAILURE: a die of a channel fails and the deep pages it held are LOST; the channel goes on with its other
dies (R331). -/
def flashDieFails (s : State) (channel : Nat) (pages : List Nat) : State :=
  let gone := (s.store.pages.filter (fun e => pages.contains e.1 && e.2.tier == .deep && e.2.unit == channel
    && e.2.phase != .lost)).map (·.1)
  let s := { s with units := { s.units with flash := s.units.flash.modify channel (fun f =>
    { f with fit := { f.fit with luns := f.fit.luns - 1 } }) } }
  match gone with
  | [] => s
  | p :: _ => raise (gone.foldl losePage s) 0x0107
      { kind := .flash, inst := channel, addr := saOf (hubNode s) (p * Config.pageBytes), arg := gone.length }

end Sys2Proof.Machine
end

