-- ==== Sys2Proof/Machine/Kv.lean ====
section
/-! DEFINITION. The key-value cache pool: KV_PUSH and KV_FETCH (chapter 12, R468 to R476). -/

namespace Sys2Proof.Machine

open Sys2Proof

/-- A key-value pool. -/
def kvPoolOf (s : State) (pool : Nat) : Option KvPool := Tbl.find s.comp.live.pools pool

/-- Pool pages of a pool on this hub (R468). -/
def kvCapacity (s : State) (pool : Nat) : Nat :=
  match kvPoolOf s pool with
  | none => 0
  | some p => Tbl.at p.capacity (hubNode s) 0

/-- Pool pages allocated on this hub (KV_POOL_INFO.USED). -/
def kvUsed (s : State) (pool : Nat) : Nat :=
  sumNat ((s.comp.keys.filter (fun k => k.pool == pool)).map poolPages)

/-- Entries of the key directory of a hub (R470). -/
def keyLimit : Nat := 262144

/-- Bytes of a KV page (R469). -/
def kvPageBytes : Nat := 65536

/-- Frees a key with its pool pages. -/
def freeKey (s : State) (pool key : Nat) : State :=
  match keyOf s pool key with
  | none => s
  | some k =>
    let s := (k.pageList.filter (· != noPage)).foldl freePage s
    { s with comp := { s.comp with keys := s.comp.keys.filter (fun x => !(x.pool == pool && x.key == key)) } }

/-- Whether a push of a key is in progress, `but` apart. -/
def pushing (s : State) (pool key : Nat) (but : Work → Bool) : Bool :=
  s.works.any (fun w => w.desc.opcode == 1 && w.shape == shapePush && w.phase != .done && !but w
    && bits w.desc.param 0 8 == pool && w.desc.arg0 == key)

/-- A release of a key: it is freed, or freed once the push in progress ends (R476). -/
def releaseKey (s : State) (pool key : Nat) : State :=
  if pushing s pool key (fun _ => false) then modKey s pool key (fun k => { k with release := true }) else freeKey s pool key

/-! ### KV_PUSH (R472 to R474) -/

/-- Fields of a push. -/
def pushPool (d : Descriptor) : Nat := bits d.param 0 8
def pushPages (d : Descriptor) : Nat := bits d.arg1 0 13

/-- The checks of R186 on a push. -/
def pushBad (d : Descriptor) : Bool :=
  d.count == 0 || decide (1024 < d.count) || pushPages d == 0 || decide (4096 < pushPages d)

/-- Whether the pool lets a queue's tenant push from a node (R473). -/
def pushRefused (s : State) (w : Work) : Bool :=
  match kvPoolOf s (pushPool w.desc) with
  | none => true
  | some p => kvCapacity s (pushPool w.desc) == 0 || p.tenant != w.tenant || !p.consumers.contains (saNode w.desc.ptr0)

/-- Whether a key's entry takes a push over its own pages (R474): equal sizes, and every page still there. -/
def reusable (s : State) (k : KeyEntry) (d : Descriptor) : Bool :=
  k.pages == pushPages d && k.layers == d.count && k.state != .lost && !k.pageList.contains noPage
    && k.pageList.all (fun p => Tbl.has s.store.pages p)

/-- Whether the pool pages of a push can be had now (R469, R473). -/
def pushRoom (s : State) (w : Work) (n : Nat) : Bool :=
  let pool := pushPool w.desc
  decide (kvUsed s pool + n ≤ kvCapacity s pool) && allocStatus s w.tenant n 1 == .ok && decide (s.comp.keys.length < keyLimit)

/-- The entry of a push that begins: over the old pages, or with `n` new pages that are POOLED NEAR_PREF, DISCARD unless
the pool has SPILL (R469). -/
def openKey (s : State) (w : Work) (n : Nat) : State :=
  let pool := pushPool w.desc
  let d := w.desc
  let base := freeBase s n
  let spill := ((kvPoolOf s pool).map (·.spill)).getD false
  let s := placePages (spend s 1) w.tenant base n (chooseTier s 1 n) 1 15 true (!spill) false .plain
  let k : KeyEntry :=
    { key := d.arg0, pool := pool, state := .opened, tenant := w.tenant, pages := pushPages d, layers := d.count,
      stored := 0, missing := noLayer, pageList := (List.range n).map (· + base), lostLayer := noLayer, release := false }
  { s with comp := { s.comp with keys := s.comp.keys ++ [k] } }

/-- Makes sure that a push has its pages, or waits up to 10 ms for them (R473). -/
def pushStart (s : State) (w : Work) : State :=
  let pool := pushPool w.desc
  let n := (w.desc.count * pushPages w.desc + 31) / 32
  let opened (s : State) : State := modWork s w.queue w.seq (fun x => { x with staged := [0] })
  match keyOf s pool w.desc.arg0 with
  | some k =>
    if reusable s k w.desc then
      opened (modKey s pool w.desc.arg0 (fun k => { k with state := .opened, stored := 0 }))
    else
      let s' := freeKey s pool w.desc.arg0
      if pushRoom s' w n then opened (openKey s' w n)
      else if outWaited s' w then runPlan s' w (.stop .quotaExceeded (hubNode s))
      else askAll (modWork s' w.queue w.seq (fun x => { x with waited := some (x.waited.getD s.now) })) w [.map]
  | none =>
    if pushRoom s w n then opened (openKey s w n)
    else if outWaited s w then runPlan s w (.stop .quotaExceeded (hubNode s))
    else askAll (modWork s w.queue w.seq (fun x => { x with waited := some (x.waited.getD s.now) })) w [.map]

/-- The writes of KV pages of one layer into the pool pages of a key: page k of layer i is KV page i × PAGES + k. -/
def layerWrites (hub : Nat) (k : KeyEntry) (layer : Nat) (data : List Byte) (poison : Bool) : List WriteReq :=
  (List.range k.pages).map (fun j =>
    let n := layer * k.pages + j
    { tva := false, poison := poison, data := (data.drop (j * kvPageBytes)).take kvPageBytes,
      addr := saOf hub (((k.pageList[n / 32]?).getD noPage) * Config.pageBytes + n % 32 * kvPageBytes) })

/-- RESULT of a push: BOOT_GEN and POOL_PAGES (R473). -/
def pushResult (s : State) (k : KeyEntry) : Nat := bits s.comp.bootGen 0 32 + bits (poolPages k) 0 32 * 2 ^ 32

/-- One layer of a push, once the produced counter allows it (R473). -/
def pushLayer (s : State) (w : Work) (k : KeyEntry) : State :=
  let i := w.layer
  let size := k.pages * kvPageBytes
  if w.desc.count ≤ i || w.status != .ok then runPlan s w { count := i, result := pushResult s k }
  else
    let c := readPtr s w 1 0 8
    if !c.needs.isEmpty then askAll s w c.needs
    else if c.status != .ok then
      runPlan s w { status := c.status, node := c.node, refused := c.refused, count := i, result := pushResult s k }
    else if fieldAt c.data 0 8 < i + 1 then
      askAll (modWork s w.queue w.seq (fun x => { x with fetched := [] })) w [.map]
    else
      let g := readPtr s w 0 (i * size) size
      if !g.needs.isEmpty then askAll s w g.needs
      else if g.status != .ok then
        runPlan s w { status := g.status, node := g.node, refused := g.refused, count := i, result := pushResult s k }
      else
        let s' := partPlan s w { count := i, result := pushResult s k, writes := layerWrites (hubNode s) k i g.data false }
          (fun x => { x with layer := i + 1, fetched := [] })
        match workOf s' w.queue w.seq with
        | none => s'
        | some x => if x.layer == i + 1 then modKey s' k.pool k.key (fun k => { k with stored := i + 1 }) else s'

/-- KV_PUSH once it can run. -/
def runPush (s : State) (queue : Nat) (seq : Seq48) : State :=
  match workOf s queue seq with
  | none => s
  | some w =>
    if !mayRun s w shapePush then s
    else if pushBad w.desc then runPlan s w (.stop .formatUnsupported)
    else if pushRefused s w then runPlan s w (.stop .permission (hubNode s))
    else if w.staged.isEmpty then pushStart s w
    else match keyOf s (pushPool w.desc) w.desc.arg0 with
      | none => runPlan s w { status := .stateLost, node := hubNode s, count := w.layer }
      | some k => pushLayer s w k

/-- KV_PUSH (R473). -/
def execKvPush (queue : Nat) (seq : Seq48) (s : State) : Host.Outcome State Fault Refusal :=
  act s (fun s => runPush s queue seq)

/-- The key of a push that ends: ABORTED frees its entry, any other end leaves it READY with the layers stored, and a
release that came during the push frees it now (R473, R476). -/
def closePush (s : State) (w : Work) : State :=
  let pool := pushPool w.desc
  match keyOf s pool w.desc.arg0 with
  | none => s
  | some k =>
    if k.state == .ready || pushing s pool w.desc.arg0 (fun x => x.queue == w.queue && x.seq == w.seq) then s
    else if w.staged.isEmpty then s
    else if k.release || w.status == .aborted || (w.status != .ok && k.stored == 0) then freeKey s pool w.desc.arg0
    else modKey s pool w.desc.arg0 (fun k => if k.state == .opened then { k with state := .ready } else k)

/-! ### KV_FETCH (R472, R475, R476) -/

/-- Fields of a fetch. -/
def fetchHolder (d : Descriptor) : Nat := bits d.ptr1 32 12
def fetchFirst (d : Descriptor) : Nat := bits d.arg1 0 16
def fetchReleases (d : Descriptor) : Bool := bit d.arg1 16

/-- Whether the pool lets a queue's tenant fetch to a node (R475). -/
def fetchRefused (s : State) (w : Work) : Bool :=
  match kvPoolOf s (bits w.desc.param 0 8) with
  | none => true
  | some p => p.tenant != w.tenant || !p.consumers.contains (saNode w.desc.ptr0)

/-- What the table of R475 says of a layer. -/
inductive LayerFate where
  | deliver
  | wait
  | stop (status : Status) (node : Nat)

/-- The outcome of a layer when the fetch reaches it (R475). -/
def layerFate (s : State) (w : Work) (bootGen : Nat) (held : Option KeyEntry) (layer : Nat) : LayerFate :=
  let holder := fetchHolder w.desc
  if holder != hubNode s && !reachable s holder then .stop .stateLost holder
  else if bits bootGen 0 32 != bits w.desc.ptr1 0 32 then .stop .stateLost holder
  else match held with
    | none => .stop .kvMiss holder
    | some k =>
      if k.state == .lost && decide (k.lostLayer ≤ layer) then .stop .stateLost holder
      else if k.missing ≤ layer then .stop .kvMiss holder
      else if layer < k.stored then
        if !reachable s (saNode w.desc.ptr0) then .stop .nodeUnreachable (saNode w.desc.ptr0) else .deliver
      else if k.state == .opened then .wait
      else .stop .kvMiss holder

/-- What a fetch leaves for its completion: a release (R476). -/
def fetchFollow (d : Descriptor) : List Follow :=
  if fetchReleases d then [.releaseKey d.arg0 (bits d.param 0 8) (fetchHolder d)] else []

/-- The bytes of one layer at the holder. -/
def layerBytes (s : State) (w : Work) (k : KeyEntry) (layer : Nat) : Got :=
  .all ((List.range k.pages).map (fun j =>
    let n := layer * k.pages + j
    readSa s w (saOf (fetchHolder w.desc) (((k.pageList[n / 32]?).getD noPage) * Config.pageBytes + n % 32 * kvPageBytes))
      kvPageBytes))

/-- One layer of a fetch. -/
def fetchLayer (s : State) (w : Work) (bootGen : Nat) (held : Option KeyEntry) : State :=
  let j := w.layer
  let d := w.desc
  let stop (st : Status) (node : Nat) : State := runPlan s w { status := st, node := node, count := j, follow := fetchFollow d }
  if d.count ≤ j || w.status != .ok then runPlan s w { count := j, follow := fetchFollow d }
  else if unanswered s w.queue w.seq then askAll s w [.map]
  else match layerFate s w bootGen held (fetchFirst d + j) with
    | .stop st node => stop st node
    | .wait => askAll s w [.map]
    | .deliver => match held with
      | none => s
      | some k =>
        let g := layerBytes s w k (fetchFirst d + j)
        if !g.needs.isEmpty then askAll s w g.needs
        else if g.status == .nodeUnreachable || g.status == .poison then stop .stateLost (fetchHolder d)
        else if g.status != .ok then
          runPlan s w { status := g.status, node := g.node, refused := g.refused, count := j, follow := fetchFollow d }
        else partPlan s w { count := j, writes := [rowWrite d 0 (d.ptr0 + j * (k.pages * kvPageBytes)) g.data false] }
          (fun x => { x with layer := j + 1, fetched := [] })

/-- KV_FETCH once it can run; the directory of this hub serves it when it is the holder. -/
def runFetch (s : State) (queue : Nat) (seq : Seq48) (bootGen : Nat) (held : Option KeyEntry) : State :=
  match workOf s queue seq with
  | none => s
  | some w =>
    if !mayRun s w shapeFetch then s
    else if w.desc.count == 0 || decide (1024 < w.desc.count) then runPlan s w (.stop .formatUnsupported)
    else if fetchRefused s w then runPlan s w (.stop .permission (hubNode s))
    else if fetchHolder w.desc == hubNode s then
      fetchLayer s w s.comp.bootGen (keyOf s (bits w.desc.param 0 8) w.desc.arg0)
    else fetchLayer s w bootGen held

/-- KV_FETCH (R475). -/
def execKvFetch (queue : Nat) (seq : Seq48) (bootGen : Nat) (held : Option KeyEntry) (s : State) : Host.Outcome State Fault Refusal :=
  act s (fun s => runFetch s queue seq bootGen held)

end Sys2Proof.Machine
end

