-- ==== Sys2Proof/Machine/Scrub.lean ====
section
/-! DEFINITION. What a tenant leaves behind: device TLB entries, cached data, and the Skims of a tenant (chapters 03 and
13). -/

namespace Sys2Proof.Machine

open Sys2Proof

/-- Drops the device TLB entries that a test takes; the answers of their ATS requests in flight are not installed (R83,
R87). -/
def dropTlb (s : State) (hit : Nat → Nat → Nat → Bool) : State :=
  let stale (o : Outstanding) : Outstanding := match o.await with
    | .ats _ _ _ => if hit o.tenant o.addr o.len then { o with stale := true } else o
    | _ => o
  { s with tlbs := s.tlbs.map (fun e => (e.1, e.2.filter (fun x => !hit x.tenant x.base x.size))),
           fabric := { s.fabric with outstanding := s.fabric.outstanding.map stale } }

/-- Drops the TLB entries of a tenant (R83, R88). -/
def dropTenantTlb (s : State) (tenant : Nat) : State := dropTlb s (fun t _ _ => t == tenant)

/-- Leaves debug: level 0, no token accepted, and every trace point disabled (R499, R510, R553). -/
def endDebug (s : State) : State :=
  { s with sec := { s.sec with debug := 0, opening := false }, power := { s.power with traceEn := List.replicate 8 0 } }

/-- The SRAM scrub: row caches are emptied, Held lines in M or O are written back, and every copy and sector goes (R500). -/
def sramScrub (s : State) : State :=
  let s := { s with embed := { s.embed with rowCache := [] } }
  let s := (s.order.copies.filter dirtyCopy).foldl evictCopy s
  { s with order := { s.order with copies := [], sectors := [] } }

/-- The selection registers of a device that name a tenant are cleared with the rest of its register state (R501). -/
def clearLdRegs (tenant : Nat) (r : LdRegs) : LdRegs :=
  { r with tenantSel := if r.tenantSel == tenant then 0 else r.tenantSel,
           perfSel := if r.perfSel == tenant then 0 else r.perfSel }

/-- A Skim of scope CONTEXT: the register state, TLB entries, cached data and performance counters of a tenant (R501).
Dirty Held lines go home first, as in the scrub of R500. -/
def skimContextNow (s : State) (tenant : Nat) : State :=
  let s := dropTenantTlb s tenant
  let s := (s.order.copies.filter (fun c => c.tenant == tenant && dirtyCopy c)).foldl evictCopy s
  { s with
    ldRegs := s.ldRegs.map (fun e => (e.1, clearLdRegs tenant e.2)),
    embed := { s.embed with rowCache := s.embed.rowCache.filter (fun r => r.owner != tenant) },
    order := { s.order with copies := s.order.copies.filter (fun c => c.tenant != tenant),
                            sectors := s.order.sectors.filter (fun c => c.tenant != tenant) },
    sec := { s.sec with perf := s.sec.perf.filter (fun e => e.1 / 8 != tenant) } }

/-- Whether a tenant owns a queue, table, index or pool (R502). -/
def ownsObjects (s : State) (tenant : Nat) : Bool :=
  let c := s.comp.live
  c.queueBinds.any (fun e => e.2.tenant == tenant) || c.tables.any (fun e => e.2.tenant == tenant)
    || c.indexes.any (fun e => e.2.tenant == tenant) || c.pools.any (fun e => e.2.tenant == tenant)

/-- Whether a tenant is bound to a logical device of the hub. -/
def isBound (s : State) (tenant : Nat) : Bool := s.comp.live.tenantBinds.any (fun b => b.tenant == tenant)

/-- What a SKIM of scope MEMORY answers (R502). -/
def skimStatus (s : State) (tenant : Nat) : Status :=
  if isBound s tenant || ownsObjects s tenant || s.sec.skims.contains tenant then .conflict else .ok

/-- The location that a page of a scrubbed tenant leaves: to be overwritten, to be erased in the background, or kept until
its unit returns (R502, R504, R505). -/
def scrubPage (tenant : Nat) (s : State) (e : Nat × Page) : State :=
  let p := e.2
  let s := freePage s e.1
  if p.tier == .deep then
    let owed := List.replicate ((pageSectors p + 4095) / 4096) p.unit
    { s with store := { s.store with erasing := Tbl.change s.store.erasing tenant [] (· ++ owed) } }
  else
    let x : Scrub := { tenant := tenant, tier := p.tier, unit := p.unit, index := p.index, lost := p.phase == .lost }
    { s with store := { s.store with scrubs := s.store.scrubs ++ [x] } }

/-- Remembers the tenant of the last SKIM command (SKIM_STATE.TENANT). -/
def noteSkim (s : State) (tenant : Nat) : State := { s with sec := { s.sec with skimTenant := tenant } }

/-- SKIM_CONTEXT (R501, R502). -/
def execSkimContext (tenant : Nat) (s : State) : Host.Outcome State Fault Refusal :=
  act s (fun s => emit (skimContextNow (noteSkim s tenant) tenant) (.fmAnswer .ok []))

/-- SKIM_MEMORY: every page of the tenant is unmapped and to be overwritten or erased, and both media keys are destroyed
(R502, R504). -/
def execSkimMemory (tenant : Nat) (s : State) : Host.Outcome State Fault Refusal :=
  act s (fun s =>
    let s := noteSkim s tenant
    if skimStatus s tenant != .ok then emit s (.fmAnswer .conflict [])
    else
      let s := skimContextNow s tenant
      let s := (s.store.pages.filter (fun e => e.2.owner == tenant)).foldl (scrubPage tenant) s
      let gone := if s.sec.destroyed.contains tenant then s.sec.destroyed else s.sec.destroyed ++ [tenant]
      let s := { s with sec := { s.sec with skims := s.sec.skims ++ [tenant], skimDone := false, destroyed := gone,
                                            mediaKeys := s.sec.mediaKeys.filter (· != tenant) } }
      emit s (.fmAnswer .ok []))

/-- SKIM_DONE: every near and far page is overwritten, those on units out of service excepted (R504, R505). -/
def execSkimDone (tenant : Nat) (s : State) : Host.Outcome State Fault Refusal :=
  act s (fun s =>
    if !s.sec.skims.contains tenant then s
    else
      { s with
        store := { s.store with scrubs := s.store.scrubs.filter (fun x => x.lost || x.tenant != tenant) },
        sec := { s.sec with skims := s.sec.skims.filter (· != tenant), skimDone := true } })

/-- BACKGROUND_ERASURE: blocks of a scrubbed tenant are erased and count as free (R503). -/
def execBackgroundErasure (tenant pages : Nat) (s : State) : Host.Outcome State Fault Refusal :=
  act s (fun s =>
    let rest := (Tbl.at s.store.erasing tenant []).drop pages
    let erasing := if rest.isEmpty then Tbl.del s.store.erasing tenant else Tbl.put s.store.erasing tenant rest
    { s with store := { s.store with erasing := erasing } })

/-- SKIM_STATE.ERASE_PENDING. -/
def erasePending (s : State) : Nat := sumNat (s.store.erasing.map (fun e => e.2.length))

end Sys2Proof.Machine
end

