-- ==== Sys2Proof/Machine/Envelope.lean ====
section
/-! DEFINITION. What a composition command may name, and the status it answers before anything changes (R444, R450, R451,
R517). -/

namespace Sys2Proof.Machine

open Sys2Proof

/-- Opcode of a composition command; 0 of a change that the hubs ask for themselves. -/
def compOpcode : CompCmd → Nat
  | .bindTenant .. => 0xC100
  | .unbindTenant .. => 0xC101
  | .setHdmMap .. => 0xC102
  | .bindQueue .. => 0xC103
  | .unbindQueue .. => 0xC104
  | .setQuota .. => 0xC105
  | .putTable .. => 0xC106
  | .dropTable .. => 0xC107
  | .moveShard .. => 0xC108
  | .refreshReplica .. => 0xC109
  | .putIndex .. => 0xC10A
  | .dropIndex .. => 0xC10B
  | .setRoute .. => 0xC10C
  | .setKvPool .. => 0xC10D
  | .kvAttach .. => 0xC10E
  | .kvDetach .. => 0xC10F
  | .flip .. => 0
  | .grace .. => 0
  | .moveEnded .. => 0
  | .replicaState .. => 0

/-- What a command names: tenants, logical devices, nodes, and its values in the order of its input. -/
structure Named where
  tenants : List Nat := []
  lds     : List Nat := []
  nodes   : List Nat := []
  values  : List Nat := []

/-- The names in a command. -/
def namedBy (s : State) : CompCmd → Named
  | .bindTenant ld t p a => { tenants := [t], lds := [ld], values := [p, flag a] }
  | .unbindTenant ld t => { tenants := [t], lds := [ld] }
  | .setHdmMap ld d v t n sa => { tenants := [t], lds := [ld], nodes := [n], values := [d, flag v, sa] }
  | .bindQueue q t x ld => { tenants := [t], lds := [ld], values := [q, x] }
  | .unbindQueue q => { tenants := ((bindOf s q).map (·.tenant)).toList, values := [q] }
  | .setQuota t tier f c => { tenants := [t], values := [tier, f, c] }
  | .putTable i d => { tenants := [d.tenant], nodes := d.map0.map (·.node), values := [i] }
  | .dropTable i => { values := [i] }
  | .moveShard t sh _ n b => { nodes := [n], values := [t, sh, b] }
  | .refreshReplica t e => { values := [t, e] }
  | .putIndex i d h => { tenants := [d.tenant], nodes := [h], values := [i] }
  | .dropIndex i h => { nodes := [h], values := [i] }
  | .setRoute h d r => { nodes := [h, d], values := routePorts r }
  | .setKvPool p _ t h n => { tenants := [t], nodes := [h], values := [p, n] }
  | .kvAttach p n => { nodes := [n], values := [p] }
  | .kvDetach p n => { nodes := [n], values := [p] }
  | .flip .. => {}
  | .grace .. => {}
  | .moveEnded .. => {}
  | .replicaState .. => {}

/-- Whether a list of permitted numbers takes all of some numbers; no list permits every number. -/
def within (permitted : Option (List Nat)) (xs : List Nat) : Bool :=
  match permitted with
  | none => true
  | some l => xs.all l.contains

/-- Whether values lie in their ranges; a value without a range may be any. -/
def inRanges : List Nat → List (Nat × Nat) → Bool
  | v :: vs, r :: rs => decide (r.1 ≤ v) && decide (v ≤ r.2) && inRanges vs rs
  | _, _ => true

/-- Whether the image's envelope permits a command (R444, R517). -/
def inEnvelope (s : State) (c : CompCmd) : Bool :=
  let n := namedBy s c
  match s.boot.image with
  | none => false
  | some i => i.envelope.any (fun r => r.opcode == compOpcode c && within r.tenants n.tenants && within r.lds n.lds
      && within r.nodes n.nodes && inRanges n.values r.values)

/-! ### Input ranges -/

/-- Whether a shard map entry lies in its ranges (R227); OUT_OF_DATE is for replicas only. -/
def entryOk (replicated : Bool) (e : ShardEntry) : Bool :=
  decide (e.node < 4096) && decide (e.state < (if replicated then 3 else 2)) && e.base % 64 == 0 && decide (e.base < 2 ^ 48)

/-- Whether a table descriptor lies in the ranges of R222. -/
def tableOk (d : TableDesc) : Bool :=
  decide (d.tenant < 4096) && decide (4 ≤ d.rowElems) && decide (d.rowElems ≤ 4096)
    && decide (d.storeFmt < 64) && selOk d.storeFmt false d.rowElems false && decide (d.place < 3)
    && decide (1 ≤ d.rows) && decide (d.rows ≤ 2 ^ 40) && decide (1 ≤ d.shards) && decide (d.shards ≤ 4096)
    && (d.stride == 0 || (decide (storedSize d.storeFmt d.rowElems ≤ d.stride) && d.stride % 8 == 0 && decide (d.stride < 65536)))
    && (if d.place == 2 then decide (1 ≤ d.shardRows) && decide (d.shardRows ≤ 2 ^ 40) && decide (d.rows ≤ d.shards * d.shardRows)
        else d.shardRows == 0)
    && d.map0.length == d.shards && d.map0.all (entryOk (d.place == 0))

/-- Whether an index descriptor lies in the ranges of R271, with SEALED and SEAL_TARGET zero (R450). -/
def indexOk (d : IndexDesc) : Bool :=
  decide (d.tenant < 4096) && d.sealed == 0 && d.sealTarget == 0
    && (if d.kind == 0 then
          decide (d.metric < 2) && decide (1 ≤ d.m) && decide (d.m ≤ 64) && decide (1 ≤ d.dim) && decide (d.dim ≤ 4096) && d.dim % d.m == 0
            && selOk d.cbFmt false (d.dim / d.m) false
        else d.kind == 1 && d.metric == 0 && d.m == 0 && decide (8 ≤ d.dim) && decide (d.dim ≤ 4096) && d.dim % 8 == 0)

/-- Size of a committed decoder as this hub's memory serves it: its size over its ways (R91). -/
def decoderShare (s : State) (ld d : Nat) : Nat := ((Tbl.find (decodersOf s ld) d).map (fun x => x.size / x.ways)).getD 0

/-- Whether an input field holds a Reserved encoding or a value outside its range (R451). -/
def formatBad (s : State) : CompCmd → Bool
  | .bindTenant ld t p _ => decide (64 ≤ ld) || decide (4096 ≤ t) || decide (2 ^ 20 ≤ p)
  | .unbindTenant ld t => decide (64 ≤ ld) || decide (4096 ≤ t)
  | .setHdmMap ld d _ t n sa => decide (64 ≤ ld) || decide (8 ≤ d) || decide (4096 ≤ t) || decide (4096 ≤ n)
      || sa % Config.pageBytes != 0 || decide (Config.pageSpace < sa + decoderShare s ld d)
  | .bindQueue q t _ ld => decide (Config.queues ≤ q) || decide (4096 ≤ t) || decide (64 ≤ ld)
  | .unbindQueue q => decide (Config.queues ≤ q)
  | .setQuota t tier _ _ => decide (4096 ≤ t) || decide (3 ≤ tier)
  | .putTable i d => decide (65536 ≤ i) || !tableOk d
  | .dropTable i => decide (65536 ≤ i)
  | .moveShard t sh _ n b => decide (4096 ≤ n) || b % 64 != 0 || decide (2 ^ 48 ≤ b)
      || ((tableOf s t).map (fun d => decide (d.shards ≤ sh))).getD false
  | .refreshReplica t e => ((tableOf s t).map (fun d => decide (d.shards ≤ e))).getD false
  | .putIndex i d h => decide (65536 ≤ i) || decide (4096 ≤ h) || !indexOk d
  | .dropIndex i h => decide (65536 ≤ i) || decide (4096 ≤ h)
  | .setRoute h d r => decide (4096 ≤ h) || decide (4096 ≤ d) || (routePorts r).any (fun p => decide (12 ≤ p) && p != 15)
  | .setKvPool p _ t h _ => decide (256 ≤ p) || decide (4096 ≤ t) || decide (4096 ≤ h)
  | .kvAttach p n => decide (256 ≤ p) || decide (4096 ≤ n)
  | .kvDetach p n => decide (256 ≤ p) || decide (4096 ≤ n)
  | .flip .. => false
  | .grace .. => false
  | .moveEnded .. => false
  | .replicaState .. => false

/-! ### Objects, conflicts and limits -/

/-- Key of an index in the composition: its INDEX_ID where this hub holds it, apart for another hub. -/
def indexKey (s : State) (hub id : Nat) : Nat := if hub == hubNode s then id else 65536 * (hub + 1) + id

/-- The template that a BIND_QUEUE names. -/
def templateOf (s : State) (n : Nat) : Option Template := (s.boot.image.map (·.templates)).bind (fun l => l[n]?)

/-- The move of a table. -/
def moveIn (s : State) (table : Nat) : Option ShardMove := s.comp.live.moves.find? (fun m => m.table == table)

/-- Whether a command names an object that does not exist, or a tenant without an image entry (R318, R451). -/
def namesAbsent (s : State) : CompCmd → Bool
  | .bindTenant _ t _ _ => (tenantEntry s t).isNone
  | .unbindTenant ld t => !boundTo s ld t
  | .bindQueue _ _ x _ => (templateOf s x).isNone
  | .unbindQueue q => (bindOf s q).isNone
  | .setQuota t _ _ _ => (tenantEntry s t).isNone
  | .dropTable t => (tableOf s t).isNone
  | .moveShard t _ _ _ _ => (tableOf s t).isNone
  | .refreshReplica t _ => (tableOf s t).isNone
  | .dropIndex i h => (indexOf s (indexKey s h i)).isNone
  | .kvAttach p _ => (kvPoolOf s p).isNone
  | .kvDetach p n => match kvPoolOf s p with
      | none => true
      | some x => !x.consumers.contains n
  | _ => false

/-- IDE_SECURE of a link (R437, R449). -/
def ideSecure (s : State) (h : Nat) : Bool :=
  let l := cxlLink s h
  l.up && l.ide && l.keyed && !l.broken

/-- Whether a Saffron tenant would meet a link without IDE (R497). -/
def bindUnsafe (s : State) : CompCmd → Bool
  | .bindTenant ld t _ _ => isSaffron s t && !ideSecure s (ldLink s ld)
  | _ => false

/-- Whether a PUT_TABLE differs from the table it names (R451); a STRIDE of 0 stands for the stored size. -/
def tableDiffers (old new : TableDesc) : Bool :=
  old.tenant != new.tenant || old.rowElems != new.rowElems || old.storeFmt != new.storeFmt || old.place != new.place
    || old.rows != new.rows || old.mapEpoch != new.mapEpoch || old.shards != new.shards || strideOf old != strideOf new
    || old.shardRows != new.shardRows || old.shardGroup != new.shardGroup || old.map0 != new.map0

/-- Whether a PUT_INDEX differs from the index it names (R451). -/
def indexDiffers (old new : IndexDesc) : Bool := { old with sealed := 0, sealTarget := 0 } != { new with sealed := 0, sealTarget := 0 }

/-- Whether a command meets CONFLICT (R451, R467, R505). -/
def conflicts (s : State) : CompCmd → Bool
  | .bindTenant ld t _ _ => boundTo s ld t || s.sec.skims.contains t
  | .bindQueue q _ _ _ => (bindOf s q).isSome
  | .putTable i d => ((tableOf s i).map (fun t => tableDiffers t d)).getD false
  | .moveShard t _ e _ _ => ((tableOf s t).map (fun d => d.mapEpoch != e || isReplicated d)).getD false || (moveIn s t).isSome
  | .refreshReplica t e => ((tableOf s t).map (fun d => !isReplicated d || (entryAt d.map0 e).state != 2)).getD false
  | .putIndex i d h => ((indexOf s (indexKey s h i)).map (fun x => indexDiffers x d)).getD false
  | _ => false

/-- Shard map entries over all tables and epochs (R228). -/
def mapEntries (s : State) : Nat :=
  sumNat (s.comp.live.tables.map (fun e => e.2.map0.length + e.2.map1.length + e.2.map2.length))

/-- Entries of the rings whose journal region is k (R173). -/
def ringSum (s : State) (k : Nat) : Nat :=
  sumNat ((s.comp.live.queueBinds.filter (fun e => e.2.region == k)).map (fun e => ringEntries e.2))

/-- Queues of a tenant (R170). -/
def queuesOf (s : State) (tenant : Nat) : Nat := (s.comp.live.queueBinds.filter (fun e => e.2.tenant == tenant)).length

/-- A tier by its number. -/
def tierOf (n : Nat) : Tier := if n == 0 then .near else if n == 1 then .far else .deep

/-- Whether the tenants' FLOORs with one of them changed, plus the dedicated pages of a tier, pass its allocatable pages
(R322). -/
def floorsPass (s : State) (tenant tier floor : Nat) : Bool :=
  let others := sumNat ((s.comp.live.quotas.filter (fun e => e.1 % 4 == tier && e.1 / 4 != tenant)).map (fun e => e.2.floor))
  let dedicated := (s.store.pages.filter (fun e => e.2.tier == tierOf tier && !e.2.pooled)).length
  decide (tierTotal s (tierOf tier) < others + floor + dedicated)

/-- Indexes that a hub holds, by its key range. -/
def indexesOn (s : State) (hub : Nat) : Nat :=
  (s.comp.live.indexes.filter (fun e => if hub == hubNode s then decide (e.1 < 65536) else e.1 / 65536 == hub + 1)).length

/-- Whether a change would pass a limit of the hub (R451). -/
def passesLimit (s : State) : CompCmd → Bool
  | .bindQueue _ t x _ =>
    match templateOf s x with
    | none => false
    | some p => decide (min 256 (((tenantEntry s t).map (·.maxQueues)).getD 0) ≤ queuesOf s t)
        || decide (262144 < ringSum s p.region + 2 ^ p.log2n)
  | .setQuota t tier f _ => floorsPass s t tier f
  | .putTable i d => (tableOf s i).isNone
      && (decide (65536 ≤ s.comp.live.tables.length) || decide (1048576 < mapEntries s + d.map0.length))
  | .putIndex i _ h => (indexOf s (indexKey s h i)).isNone && decide (4096 ≤ indexesOn s h)
  | .setKvPool p _ _ _ n => (kvPoolOf s p).isNone && n != 0 && decide (256 ≤ s.comp.live.pools.length)
  | .kvAttach p n => ((kvPoolOf s p).map (fun x => !x.consumers.contains n && decide (64 ≤ x.consumers.length))).getD false
  | .flip t _ _ => ((tableOf s t).map (fun d => decide (1048576 < mapEntries s + d.map0.length - d.map2.length))).getD false
  | .grace t => ((tableOf s t).map (fun d => decide (1048576 < mapEntries s + d.map0.length - d.map2.length))).getD false
  | _ => false

/-- Whether a node that a command names cannot be reached; the destination of a SET_ROUTE need not be, since the route to
it is what the command sets. -/
def namesLost (s : State) : CompCmd → Bool
  | .setRoute h _ _ => !reachable s h
  | c => (namedBy s c).nodes.any (fun n => !reachable s n)

/-- What a composition command answers before it changes anything: the highest status that holds (R18, R451). -/
def compStatus (s : State) (c : CompCmd) : Status :=
  let when_ (b : Bool) (st : Status) : Status := if b then st else .ok
  let asked := compOpcode c != 0
  worse (when_ (asked && !inEnvelope s c) .permission)
    (worse (when_ (namesAbsent s c) .permission)
      (worse (when_ (bindUnsafe s c) .permission)
        (worse (when_ (formatBad s c) .formatUnsupported)
          (worse (when_ (passesLimit s c) .quotaExceeded)
            (worse (when_ (namesLost s c) .nodeUnreachable) (when_ (conflicts s c) .conflict))))))

end Sys2Proof.Machine
end

