-- ==== Sys2Proof/Machine/Composition.lean ====
section
/-! DEFINITION. Composition changes: their order, their effects, shard moves, and the messages among the hubs of a domain
(chapter 12). -/

namespace Sys2Proof.Machine

open Sys2Proof

/-! ### Roles (R420, R452) -/

/-- The composition hubs of the image, in order (R452). -/
def compHubs (s : State) : List Nat := (s.boot.image.map (·.compHubs)).getD []

/-- Hubs of the domain that this hub sees, itself apart. -/
def seenHubs (s : State) : List Nat := (domainHubs s).filter (fun n => n != hubNode s && s.fabric.seen.contains n)

/-- Whether this hub has the role of the composition hub: listed, with authority, and no earlier listed hub seen with
AUTHORITY (R452). -/
def hasRole (s : State) : Bool :=
  s.fabric.authority && (compHubs s).contains (hubNode s)
    && ((compHubs s).takeWhile (· != hubNode s)).all (fun n => !(s.fabric.seen.contains n && s.fabric.authorities.contains n))

/-- The composition hub that this hub sees. -/
def compHubOf (s : State) : Option Nat :=
  if hasRole s then some (hubNode s)
  else (compHubs s).find? (fun n => n != hubNode s && s.fabric.seen.contains n && s.fabric.authorities.contains n)

/-! ### Answers -/

/-- Changes the state of the composition. -/
def modComp (s : State) (f : Comp → Comp) : State := { s with comp := f s.comp }

/-- Changes the live composition. -/
def modLive (s : State) (f : Composition → Composition) : State := modComp s (fun c => { c with live := f c.live })

/-- The answer of a command to the fabric manager, or to the hub that forwarded it. -/
def replyTo (s : State) (reply : CompReply) (st : Status) : State :=
  match reply with
  | .fm => emit s (.fmAnswer st [])
  | .forward node tag => emit s (.forwardAnswer node tag st)
  | .change node seq => emit s (.changeAnswer node seq st)

/-- A hub's answer to a change: once none is missing, the command is answered (R454, R457). -/
def noteAnswer (s : State) (src seq : Nat) (st : Status) : State :=
  match s.comp.waits.find? (fun w => w.changeSeq == seq && w.missing.contains src) with
  | none => s
  | some w =>
    let w' := { w with missing := w.missing.filter (· != src), status := worse w.status st }
    let rest := s.comp.waits.filter (fun x => x.changeSeq != seq)
    if !w'.missing.isEmpty then modComp s (fun c => { c with waits := rest ++ [w'] })
    else
      let s := modComp s (fun c => { c with waits := rest })
      match w'.reply with
      | none => s
      | some r => replyTo s r w'.status

/-- The outcome of a change on this hub, to the composition hub or to its own count. -/
def deliver (s : State) (reply : CompReply) (st : Status) : State :=
  match reply with
  | .change node seq => if node == hubNode s then noteAnswer s node seq st else replyTo s reply st
  | r => replyTo s r st

/-- A hub that is no longer seen answers no change. -/
def dropAnswers (s : State) (node : Nat) : State :=
  s.comp.waits.foldl (fun s w => noteAnswer s node w.changeSeq .ok) s

/-- COMP_DOMAIN.DOMAIN_SEQ (R454). -/
def domainSeq (s : State) : Nat :=
  if !s.comp.acting then 0
  else s.comp.waits.foldl (fun m w => min m (w.changeSeq - 1)) s.comp.live.lastSeq

/-! ### Effects of one change on this hub -/

/-- The first binding of a Saffron tenant ends debug, scrubs the SRAMs and applies R498 (R499). -/
def saffronBind (s : State) (tenant : Nat) : State :=
  if !isSaffron s tenant || s.sec.saffronOn then s
  else
    let s := sramScrub (endDebug s)
    { s with sec := { s.sec with saffronOn := true } }

/-- Whether a Saffron tenant is bound. -/
def saffronBound (s : State) : Bool := s.comp.live.tenantBinds.any (fun b => isSaffron s b.tenant)

/-- BIND_TENANT in force; a tenant without media keys gets them (R479, R499). -/
def bindTenantNow (s : State) (b : TenantBind) : State :=
  let s := saffronBind s b.tenant
  let keys := if s.sec.mediaKeys.contains b.tenant then s.sec.mediaKeys else s.sec.mediaKeys ++ [b.tenant]
  modLive { s with sec := { s.sec with mediaKeys := keys, destroyed := s.sec.destroyed.filter (· != b.tenant) } }
    (fun c => { c with tenantBinds := c.tenantBinds ++ [b] })

/-- UNBIND_TENANT in force (R461, R499). -/
def unbindTenantNow (s : State) (ld tenant : Nat) : State :=
  let s := modLive (dropTenantTlb s tenant) (fun c =>
    { c with tenantBinds := c.tenantBinds.filter (fun b => !(b.ld == ld && b.tenant == tenant)) })
  if isBound s tenant then s
  else
    let s := dropDrafts s (fun d => d.tenant == tenant && (domainHubs s).contains d.writer)
    let s := skimContextNow s tenant
    if saffronBound s then s else { s with sec := { s.sec with saffronOn := false } }

/-- A queue right after its binding: SEQ 0 (R460). -/
def freshQueue (template : Nat) : Queue := { Queue.unbound with state := .running, template := template }

/-- Binds a queue whose rings find room; SEEN of the counters behind it clears (R172, R360, R460). -/
def bindQueueNow (s : State) (queue tenant template irqLd : Nat) (t : Template) : State :=
  let r := placeRings s tenant t.region (2 ^ t.log2n)
  let b : QueueBind :=
    { tenant := tenant, template := template, shape := t.shape, log2n := t.log2n - 6, region := t.region, vector := t.vector,
      irqLd := irqLd, sqBase := r.2.1, cqBase := r.2.2 }
  let unseen := (tallyRecvs s).filter (fun e => e.2.queue == queue)
  let tally := r.1.order.tally.map (fun e => if unseen.any (fun x => x.1 == e.1) then (e.1, { e.2 with seen := false }) else e)
  let s := { r.1 with order := { r.1.order with tally := tally } }
  modQueue (modLive s (fun c => { c with queueBinds := Tbl.put c.queueBinds queue b })) queue (fun _ => freshQueue template)

/-- Whether the rings of a template find room now (R172). -/
def ringsFit (s : State) (t : Template) : Bool := decide (ringPages (2 ^ t.log2n) ≤ ringRoom s t.region)

/-- A queue whose accepted descriptors have all completed is unbound: its rings and completion records go (R460). -/
def finishUnbind (s : State) (queue : Nat) : State :=
  match bindOf s queue with
  | none => s
  | some b =>
    if !(queueOf s queue).unbinding || s.works.any (fun w => w.queue == queue) then s
    else
      let n := ringPages (ringEntries b)
      let s := ((List.range n).map (· + pageOf (saOff b.sqBase))).foldl freePage s
      let s := modJournal s b.region (fun j => { j with logs := j.logs.filter (fun r => r.queue != queue) })
      let s := modLive s (fun c => { c with queueBinds := Tbl.del c.queueBinds queue })
      { s with queues := Tbl.del s.queues queue }

/-- Changes a table. -/
def modTable (s : State) (id : Nat) (f : TableDesc → TableDesc) : State :=
  modLive s (fun c => { c with tables := Tbl.alter c.tables id f })

/-- Changes a shard's entry in the current map. -/
def modEntry (shard : Nat) (f : ShardEntry → ShardEntry) (t : TableDesc) : TableDesc := { t with map0 := t.map0.modify shard f }

/-- PUT_TABLE in force: a new table, or PLACE[3:2] of one it does not differ from (R450, R451). -/
def putTableNow (s : State) (id : Nat) (d : TableDesc) : State :=
  match tableOf s id with
  | some _ => modTable s id (fun t => { t with gatherOnly := d.gatherOnly, noCache := d.noCache })
  | none => modLive s (fun c => { c with tables := Tbl.put c.tables id { d with stride := strideOf d, map1 := [], map2 := [] } })

/-- DROP_TABLE in force. -/
def dropTableNow (s : State) (id : Nat) : State :=
  let s := modLive s (fun c => { c with tables := Tbl.del c.tables id, moves := c.moves.filter (fun m => m.table != id) })
  { s with embed := { s.embed with rowCache := s.embed.rowCache.filter (fun r => r.table != id) } }

/-- The next epoch of a table: its map becomes the older one (R230, R463). -/
def nextEpoch (t : TableDesc) (map : List ShardEntry) : TableDesc :=
  { t with mapEpoch := t.mapEpoch + 1, map2 := t.map1, map1 := t.map0, map0 := map }

/-- Changes the moves of a table. -/
def modMoves (s : State) (table : Nat) (f : ShardMove → Option ShardMove) : State :=
  modLive s (fun c => { c with moves := c.moves.filterMap (fun m => if m.table == table then f m else some m) })

/-- The flip of a move: epoch E + 1 with the new node HELD; of a refreshed replica, HELD at the same epoch (R463, R467). -/
def flipNowTable (s : State) (table shard : Nat) : State :=
  match tableOf s table, s.comp.live.moves.find? (fun m => m.table == table && m.shard == shard) with
  | some t, some m =>
    if isReplicated t then
      modMoves (modTable s table (modEntry shard (fun e => { e with state := 0 }))) table (fun x => if x.shard == shard then none else some x)
    else
      let map := t.map0.modify shard (fun _ => { node := m.newNode, state := 0, base := m.newBase })
      modMoves (modTable s table (fun t => nextEpoch t map)) table (fun x => some { x with step := 4 })
  | _, _ => s

/-- A grace advance: the next epoch with maps unchanged; after E + 3 the move is over (R463). -/
def graceNow (s : State) (table : Nat) : State :=
  modMoves (modTable s table (fun t => nextEpoch t t.map0)) table (fun m => if 5 ≤ m.step then none else some { m with step := m.step + 1 })

/-- The end of a move before its flip: the shard is HELD again at the same epoch (R466). -/
def endMoveNow (s : State) (table shard : Nat) : State :=
  match s.comp.live.moves.find? (fun m => m.table == table && m.shard == shard && decide (m.step < 4)) with
  | none => s
  | some m =>
    let replica := ((tableOf s table).map isReplicated).getD false
    let s := if replica then s else modTable s table (modEntry shard (fun e => { e with state := 0 }))
    let s := modMoves s table (fun x => if x.shard == shard then none else some x)
    raise s 0x0704 { addr := table + shard * 65536, arg := m.step }

/-- SET_KV_POOL in force (R468): 0 pages take the hub out of the pool, and its keys there are freed. -/
def setPoolNow (s : State) (pool : Nat) (spill : Bool) (tenant hub pages : Nat) : State :=
  let old := (kvPoolOf s pool).getD { tenant := tenant, spill := spill, capacity := [], consumers := [] }
  if pages != 0 then
    let new := { old with tenant := tenant, spill := spill, capacity := Tbl.put old.capacity hub pages }
    modLive s (fun c => { c with pools := Tbl.put c.pools pool new })
  else
    let s := if hub != hubNode s then s
      else (s.comp.keys.filter (fun k => k.pool == pool)).foldl (fun s k => releaseKey s pool k.key) s
    let new := { old with capacity := Tbl.del old.capacity hub }
    modLive s (fun c =>
      { c with pools := if new.capacity.isEmpty then Tbl.del c.pools pool else Tbl.put c.pools pool new })

/-- Changes the consumers of a pool. -/
def modConsumers (s : State) (pool : Nat) (f : List Nat → List Nat) : State :=
  modLive s (fun c => { c with pools := Tbl.alter c.pools pool (fun p => { p with consumers := f p.consumers }) })

/-- Virtual channels (R404). -/
def channels : List Nat := [0, 1, 2, 3, 4, 5, 6, 7]

/-- A planned change of the active port of a destination: barriers leave on the old port (R415). -/
def plannedChange (s : State) (dst old : Nat) : State :=
  let s := { s with fabric := { s.fabric with
    changing := s.fabric.changing.filter (fun c => c.dest != dst) ++ [{ dest := dst, port := old }] } }
  emitAll s (channels.map (fun vc => .barrier dst vc))

/-- The active port of a destination before and after something changed: a planned change where both carry flits. -/
def routeMoved (before after : State) (dst : Nat) : State :=
  match activePort before dst, activePort after dst with
  | some a, some b => if a == b then after else plannedChange after dst a
  | _, _ => after

/-- SET_ROUTE in force: only the named hub's table changes (R450). -/
def setRouteNow (s : State) (hub dst : Nat) (r : Route) : State :=
  if hub != hubNode s then s
  else routeMoved s (modLive s (fun c => { c with routes := Tbl.put c.routes dst r })) dst

/-! ### The copy of a shard or replica (R463, R467) -/

/-- Slots of a shard. -/
def shardSlots (t : TableDesc) (shard : Nat) : Nat :=
  if isReplicated t then t.rows
  else if t.place == 2 then min t.shardRows (t.rows - shard * t.shardRows)
  else (t.rows + t.shards - 1) / t.shards

/-- Starts the copy of a move whose holder this hub is: every slot goes to the new node by STORE. -/
def startCopy (s : State) (m : ShardMove) : State :=
  match tableOf s m.table with
  | none => s
  | some t =>
    if m.oldNode != hubNode s || m.step != 1 then s
    else
      let await : Await := if isReplicated t then .replicaCopy m.table m.shard else .shardCopy m.table m.shard
      let s := modMoves s m.table (fun x => some (if x.shard == m.shard then { x with step := 2 } else x))
      (List.range (shardSlots t m.shard)).foldl (fun s q =>
        let off := m.oldBase + q * strideOf t
        let bad := rangeGone s off (rowSize t) || rangePoison s off (rowSize t)
        sendCopy s t.tenant await (saOf m.newNode (m.newBase + q * strideOf t))
          (if bad then ones (rowSize t) else readMem s off (rowSize t))) s

/-- MOVE_SHARD in force: the shard reads MOVING, and its holder starts the copy (R463). -/
def moveShardNow (s : State) (table shard newNode newBase : Nat) : State :=
  match tableOf s table with
  | none => s
  | some t =>
    let e := entryAt t.map0 shard
    let m : ShardMove :=
      { table := table, shard := shard, oldNode := e.node, oldBase := e.base, newNode := newNode, newBase := newBase, step := 1 }
    let s := modTable s table (modEntry shard (fun e => { e with state := 1 }))
    startCopy (modLive s (fun c => { c with moves := c.moves ++ [m] })) m

/-- REFRESH_REPLICA in force: the primary starts the copy (R467). -/
def refreshNow (s : State) (table entry : Nat) : State :=
  match tableOf s table with
  | none => s
  | some t =>
    let p := entryAt t.map0 0
    let e := entryAt t.map0 entry
    let m : ShardMove :=
      { table := table, shard := entry, oldNode := p.node, oldBase := p.base, newNode := e.node, newBase := e.base, step := 1 }
    startCopy (modLive s (fun c => { c with moves := c.moves ++ [m] })) m

/-! ### One point of application (R455) -/

/-- The effect of a change on this hub, the rings of a BIND_QUEUE apart. -/
def applyComp (s : State) : CompCmd → State
  | .bindTenant ld t p a => bindTenantNow s { ld := ld, tenant := t, pasid := p, admin := a }
  | .unbindTenant ld t => unbindTenantNow s ld t
  | .setHdmMap ld d v t n sa =>
    modLive s (fun c => { c with hdm := Tbl.put c.hdm (ld * 8 + d) { saBase := sa, target := n, tenant := t, valid := v } })
  | .bindQueue q t x ld => match templateOf s x with
    | none => s
    | some p => if ringsFit s p then bindQueueNow s q t x ld p else s
  | .unbindQueue q => finishUnbind (modQueue s q (fun x => { x with unbinding := true })) q
  | .setQuota t tier f c =>
    modLive s (fun x => { x with quotas := Tbl.put x.quotas (t * 4 + tier) { floor := f, ceiling := c } })
  | .putTable i d => putTableNow s i d
  | .dropTable i => dropTableNow s i
  | .moveShard t sh _ n b => moveShardNow s t sh n b
  | .refreshReplica t e => refreshNow s t e
  | .putIndex i d h =>
    if (indexOf s (indexKey s h i)).isSome then s
    else modLive s (fun c => { c with indexes := Tbl.put c.indexes (indexKey s h i) d })
  | .dropIndex i h => modLive s (fun c => { c with indexes := Tbl.del c.indexes (indexKey s h i) })
  | .setRoute h d r => setRouteNow s h d r
  | .setKvPool p sp t h n => setPoolNow s p sp t h n
  | .kvAttach p n => modConsumers s p (fun l => if l.contains n then l else l ++ [n])
  | .kvDetach p n => modConsumers s p (fun l => l.filter (· != n))
  | .flip t sh _ => flipNowTable s t sh
  | .grace t => graceNow s t
  | .moveEnded t sh => endMoveNow s t sh
  | .replicaState t e st => modTable s t (modEntry e (fun x => { x with state := st }))

/-- The hash of the image loaded (R540). -/
def imageHash (s : State) : Nat := (s.boot.image.map (·.hash)).getD 0

/-- Appends what is applied to the composition record (R459). -/
def keepRecord (s : State) : State := modComp s (fun c => { c with record := some (imageHash s, c.live) })

/-- Whether a BIND_QUEUE must wait for eviction before its rings fit (R172). -/
def waitsForRings (s : State) : CompCmd → Bool
  | .bindQueue _ _ x _ => ((templateOf s x).map (fun p => !ringsFit s p)).getD false
  | _ => false

/-- Keeps a binding that waits for its rings. -/
def waitRings (s : State) (reply : CompReply) : CompCmd → State
  | .bindQueue q t x ld => { s with store := { s.store with
      ticket := s.store.ticket + 1, waits := s.store.waits ++ [{ ticket := s.store.ticket, ask := .ring reply q t x ld }] } }
  | _ => s

/-- Applies the change of a number and answers it (R454 to R456); held messages may now be served. -/
def applyChange (s : State) (node seq : Nat) (cmd : CompCmd) : State :=
  let s := modLive s (fun c => { c with lastSeq := seq })
  let reply := CompReply.change node seq
  if waitsForRings s cmd then keepRecord (waitRings s reply cmd)
  else deliver (keepRecord (retryHeld (applyComp s cmd))) reply .ok

/-- The composition log with one more change: the last 65,536 stay (R453). -/
def logChange (s : State) (seq : Nat) (cmd : CompCmd) : State :=
  modComp s (fun c => { c with log := takeLast 65536 (c.log ++ [(seq, cmd)]) })

/-- Accepts a change at the composition hub, or answers why not (R453, R454). -/
def acceptChange (s : State) (reply : Option CompReply) (cmd : CompCmd) : State :=
  let st := compStatus s cmd
  if st != .ok then match reply with
    | none => s
    | some r => replyTo s r st
  else
    let seq := s.comp.live.lastSeq + 1
    let others := seenHubs s
    let s := emitAll (logChange s seq cmd) (others.map (fun n => .change n seq cmd))
    let w : ChangeWait := { changeSeq := seq, missing := hubNode s :: others, reply := reply, status := .ok }
    applyChange (modComp s (fun c => { c with waits := c.waits ++ [w] })) (hubNode s) seq cmd

/-- Whether the copy of a move is still being acknowledged. -/
def copyOpen (s : State) (m : ShardMove) : Bool :=
  s.fabric.outstanding.any (fun o => match o.await with
    | .shardCopy t x => t == m.table && x == m.shard
    | .replicaCopy t x => t == m.table && x == m.shard
    | _ => false)

/-- The holder of a copy that is whole asks for the flip, once (R463, step 3). -/
def flipReady (s : State) : State :=
  (s.comp.live.moves.filter (fun m => m.oldNode == hubNode s && m.step == 2 && !copyOpen s m)).foldl (fun s m =>
    let asked (x : ShardMove) : ShardMove := if x.shard == m.shard then { x with step := 3 } else x
    let epoch := ((tableOf s m.table).map (·.mapEpoch)).getD 0
    if s.comp.acting then acceptChange (modMoves s m.table (fun x => some (asked x))) none (.flip m.table m.shard epoch)
    else match compHubOf s with
      | none => s
      | some h => emit (modMoves s m.table (fun x => some (asked x))) (.flipRequest h m.table m.shard epoch)) s

/-- Asks the composition hub for a change of the hubs' own: the end of a move, or a replica's state. -/
def requestChange (s : State) (cmd : CompCmd) : State :=
  if s.comp.acting then flipReady (acceptChange s none cmd)
  else match compHubOf s with
    | none => s
    | some h => match cmd with
      | .replicaState t e _ => emit s (.replicaStale h t e (((tableOf s t).map (·.mapEpoch)).getD 0))
      | c => emit s (.forward h s.comp.forwardTag c)

/-- The moves that a reset of this hub cut before their flip end: it asks for their end where a composition hub is seen
(R466). -/
def endCutMoves (s : State) : State :=
  (s.comp.live.moves.filter (fun m => m.step == 0 && (m.oldNode == hubNode s || m.newNode == hubNode s))).foldl (fun s m =>
    requestChange s (.moveEnded m.table m.shard)) s

/-- Keeps a composition command or a CHANGE until the scheduler core runs (R541, R545). -/
def holdComp (s : State) (w : CompWait) : State := modComp s (fun c => { c with held := c.held ++ [w] })

/-- A composition command, from the fabric manager or forwarded (R451, R452). -/
def receiveCommand (s : State) (reply : CompReply) (cmd : CompCmd) : State :=
  if !coreRuns s schedulerCore then holdComp s (.command reply cmd)
  else if s.comp.acting then flipReady (acceptChange s (some reply) cmd)
  else if fenced s then replyTo s reply .nodeUnreachable
  else match compHubOf s with
    | none => replyTo s reply .nodeUnreachable
    | some h =>
      if h == hubNode s then replyTo s reply .nodeUnreachable
      else
        let tag := s.comp.forwardTag
        emit (modComp s (fun c => { c with forwards := c.forwards ++ [(tag, reply)], forwardTag := (tag + 1) % 65536 }))
          (.forward h tag cmd)

/-! ### Commands of the fabric manager -/

/-- BIND_TENANT (R444). -/
def execBindTenant (ld tenant pasid : Nat) (admin : Bool) (s : State) : Host.Outcome State Fault Refusal :=
  act s (fun s => receiveCommand s .fm (.bindTenant ld tenant pasid admin))

/-- UNBIND_TENANT (R461). -/
def execUnbindTenant (ld tenant : Nat) (s : State) : Host.Outcome State Fault Refusal :=
  act s (fun s => receiveCommand s .fm (.unbindTenant ld tenant))

/-- SET_HDM_MAP (R444). -/
def execSetHdmMap (ld decoder : Nat) (valid : Bool) (tenant target saBase : Nat) (s : State) : Host.Outcome State Fault Refusal :=
  act s (fun s => receiveCommand s .fm (.setHdmMap ld decoder valid tenant target saBase))

/-- BIND_QUEUE (R460). -/
def execBindQueue (queue tenant template irqLd : Nat) (s : State) : Host.Outcome State Fault Refusal :=
  act s (fun s => receiveCommand s .fm (.bindQueue queue tenant template irqLd))

/-- UNBIND_QUEUE (R460). -/
def execUnbindQueue (queue : Nat) (s : State) : Host.Outcome State Fault Refusal :=
  act s (fun s => receiveCommand s .fm (.unbindQueue queue))

/-- SET_QUOTA (R462). -/
def execSetQuota (tenant tier floor ceiling : Nat) (s : State) : Host.Outcome State Fault Refusal :=
  act s (fun s => receiveCommand s .fm (.setQuota tenant tier floor ceiling))

/-- PUT_TABLE (R450). -/
def execPutTable (id : Nat) (desc : TableDesc) (s : State) : Host.Outcome State Fault Refusal :=
  act s (fun s => receiveCommand s .fm (.putTable id desc))

/-- DROP_TABLE (R450). -/
def execDropTable (id : Nat) (s : State) : Host.Outcome State Fault Refusal :=
  act s (fun s => receiveCommand s .fm (.dropTable id))

/-- MOVE_SHARD (R463). -/
def execMoveShard (table shard baseEpoch newNode newBase : Nat) (s : State) : Host.Outcome State Fault Refusal :=
  act s (fun s => receiveCommand s .fm (.moveShard table shard baseEpoch newNode newBase))

/-- REFRESH_REPLICA (R467). -/
def execRefreshReplica (table entry : Nat) (s : State) : Host.Outcome State Fault Refusal :=
  act s (fun s => receiveCommand s .fm (.refreshReplica table entry))

/-- PUT_INDEX (R450). -/
def execPutIndex (id : Nat) (desc : IndexDesc) (hub : Nat) (s : State) : Host.Outcome State Fault Refusal :=
  act s (fun s => receiveCommand s .fm (.putIndex id desc hub))

/-- DROP_INDEX (R450). -/
def execDropIndex (id hub : Nat) (s : State) : Host.Outcome State Fault Refusal :=
  act s (fun s => receiveCommand s .fm (.dropIndex id hub))

/-- SET_ROUTE (R415). -/
def execSetRoute (hub dest : Nat) (route : Route) (s : State) : Host.Outcome State Fault Refusal :=
  act s (fun s => receiveCommand s .fm (.setRoute hub dest route))

/-- SET_KV_POOL (R468). -/
def execSetKvPool (pool : Nat) (spill : Bool) (tenant hub pages : Nat) (s : State) : Host.Outcome State Fault Refusal :=
  act s (fun s => receiveCommand s .fm (.setKvPool pool spill tenant hub pages))

/-- KV_ATTACH (R468). -/
def execKvAttach (pool node : Nat) (s : State) : Host.Outcome State Fault Refusal :=
  act s (fun s => receiveCommand s .fm (.kvAttach pool node))

/-- KV_DETACH (R468). -/
def execKvDetach (pool node : Nat) (s : State) : Host.Outcome State Fault Refusal :=
  act s (fun s => receiveCommand s .fm (.kvDetach pool node))

/-! ### Messages among the hubs -/

/-- A change whose number is at or below the last applied one (R457). -/
def refuseChange (s : State) (src seq : Nat) : State :=
  let s := raise s 0x0703 { addr := seq }
  emit (modComp s (fun c => { c with refused := true, refusedSeq := seq })) (.changeAnswer src seq .conflict)

/-- A CHANGE at a hub of the domain: applied in order, refused, or the missed changes asked for; a fenced hub takes none
(R421, R455 to R457). -/
def takeChange (s : State) (src seq : Nat) (cmd : CompCmd) : State :=
  if fenced s || !(domainHubs s).contains src then s
  else if !coreRuns s schedulerCore then holdComp s (.change src seq cmd)
  else if seq ≤ s.comp.live.lastSeq then refuseChange s src seq
  else if seq == s.comp.live.lastSeq + 1 then flipReady (applyChange (logChange s seq cmd) src seq cmd)
  else emit (modComp s (fun c => { c with catchTo := max c.catchTo seq })) (.catchUp src s.comp.live.lastSeq)

/-- The composition commands and changes that waited for the scheduler core, taken in order (R545). -/
def retryComp (s : State) : State :=
  s.comp.held.foldl (fun s w => match w with
    | .command reply cmd => receiveCommand s reply cmd
    | .change src seq cmd => takeChange s src seq cmd) (modComp s (fun c => { c with held := [] }))

/-- CHANGE (R455). -/
def execChange (src changeSeq : Nat) (cmd : CompCmd) (s : State) : Host.Outcome State Fault Refusal :=
  act s (fun s => takeChange s src changeSeq cmd)

/-- CHANGE_ANSWER (R454). -/
def execChangeAnswer (src changeSeq : Nat) (status : Status) (s : State) : Host.Outcome State Fault Refusal :=
  act s (fun s => noteAnswer s src changeSeq status)

/-- FORWARD: the command is taken as if received directly (R452). -/
def execForward (src tag : Nat) (cmd : CompCmd) (s : State) : Host.Outcome State Fault Refusal :=
  act s (fun s =>
    if !(domainHubs s).contains src then s
    else if compOpcode cmd == 0 then requestChange s cmd
    else receiveCommand s (.forward src tag) cmd)

/-- FORWARD_ANSWER: the answer goes to whoever sent the command (R452). -/
def execForwardAnswer (_src tag : Nat) (status : Status) (s : State) : Host.Outcome State Fault Refusal :=
  act s (fun s => match s.comp.forwards.find? (fun f => f.1 == tag) with
    | none => s
    | some f => replyTo (modComp s (fun c => { c with forwards := c.forwards.filter (fun x => x.1 != tag) })) f.2 status)

/-- FLIP_REQUEST: the flip is accepted as a change of the table to epoch E + 1 (R463). -/
def execFlipRequest (src table shard epoch : Nat) (s : State) : Host.Outcome State Fault Refusal :=
  act s (fun s =>
    let due := s.comp.live.moves.any (fun m => m.table == table && m.shard == shard && m.oldNode == src && decide (m.step < 4))
    if coreRuns s schedulerCore && s.comp.acting && due && (tableOf s table).map (·.mapEpoch) == some epoch then
      flipReady (acceptChange s none (.flip table shard epoch))
    else s)

/-- GRACE_ADVANCE: GRACE_MS after a flip or an advance the next advance is accepted (R463). -/
def execGraceAdvance (table : Nat) (s : State) : Host.Outcome State Fault Refusal :=
  act s (fun s => if coreRuns s schedulerCore && s.comp.acting && s.comp.live.moves.any (fun m => m.table == table && decide (4 ≤ m.step)) then
    flipReady (acceptChange s none (.grace table)) else s)

/-- CATCH_UP: the missed changes in order, or the full composition when the log no longer has them (R456). -/
def execCatchUp (src changeSeq : Nat) (s : State) : Host.Outcome State Fault Refusal :=
  act s (fun s =>
    if !s.comp.acting || !(domainHubs s).contains src then s
    else
      let missed := s.comp.log.filter (fun e => decide (changeSeq < e.1))
      if missed.length == s.comp.live.lastSeq - changeSeq then emitAll s (missed.map (fun e => .change src e.1 e.2))
      else emit s (.snapshot src s.comp.live.lastSeq s.comp.live))

/-- The commands that take this hub's bindings to those of a full composition state: what is bound here and not there goes,
what is bound there and not here comes. -/
def bindingChanges (s : State) (c : Composition) : List CompCmd :=
  let old := s.comp.live
  (old.tenantBinds.filter (fun b => !c.tenantBinds.contains b)).map (fun b => .unbindTenant b.ld b.tenant)
    ++ (c.tenantBinds.filter (fun b => !old.tenantBinds.contains b)).map (fun b => .bindTenant b.ld b.tenant b.pasid b.admin)
    ++ (old.queueBinds.filter (fun e => !Tbl.has c.queueBinds e.1)).map (fun e => .unbindQueue e.1)
    ++ (c.queueBinds.filter (fun e => !Tbl.has old.queueBinds e.1)).map (fun e =>
      .bindQueue e.1 e.2.tenant e.2.template e.2.irqLd)

/-- Indexes of a full composition state under this hub's keys: the sender's own carry its number, and this hub's keep what
it has written of SEALED. -/
def rekeyIndexes (s : State) (src : Nat) (t : Tbl IndexDesc) : Tbl IndexDesc :=
  t.foldl (fun acc e =>
    let key := if e.1 < 65536 then indexKey s src e.1
      else if e.1 / 65536 == hubNode s + 1 then e.1 % 65536 else e.1
    Tbl.put acc key ((indexOf s key).getD e.2)) []

/-- SNAPSHOT: the full state replaces this hub's; its routes and rings are its own (R456). -/
def execSnapshot (src changeSeq : Nat) (comp : Composition) (s : State) : Host.Outcome State Fault Refusal :=
  act s (fun s =>
    if fenced s || !(domainHubs s).contains src || changeSeq ≤ s.comp.live.lastSeq then s
    else
      let s := (bindingChanges s comp).foldl applyComp s
      let s := modLive s (fun c =>
        { comp with tenantBinds := c.tenantBinds, queueBinds := c.queueBinds, routes := c.routes,
                    indexes := rekeyIndexes s src comp.indexes, lastSeq := changeSeq })
      keepRecord (retryHeld s))

/-- SEQ_QUERY: the last change applied, and every change above the asker's (R453). -/
def execSeqQuery (src changeSeq : Nat) (s : State) : Host.Outcome State Fault Refusal :=
  act s (fun s => if !(domainHubs s).contains src then s
    else emit s (.seqReport src s.comp.live.lastSeq (s.comp.log.filter (fun e => decide (changeSeq < e.1)))))

/-- SEQ_REPORT: a hub that takes up the role adopts the changes above its own; with the last report it acts (R453). -/
def execSeqReport (src _changeSeq : Nat) (changes : List (Nat × CompCmd)) (s : State) : Host.Outcome State Fault Refusal :=
  act s (fun s =>
    if !s.comp.gathering.contains src then s
    else
      let s := changes.foldl (fun s e =>
        if e.1 == s.comp.live.lastSeq + 1 then applyChange (logChange s e.1 e.2) (hubNode s) e.1 e.2 else s) s
      let left := s.comp.gathering.filter (· != src)
      endCutMoves (flipReady (modComp s (fun c => { c with gathering := left, acting := left.isEmpty }))))

/-- REPLICA_STALE: a change marks the replica OUT_OF_DATE (R263). -/
def execReplicaStale (src table entry epoch : Nat) (s : State) : Host.Outcome State Fault Refusal :=
  act s (fun s =>
    if s.comp.acting && (domainHubs s).contains src && (tableOf s table).map (·.mapEpoch) == some epoch then
      flipReady (acceptChange s none (.replicaState table entry 2))
    else s)

/-! ### Changes of the role and of the membership (R453, R466) -/

/-- Takes up or lays down the role of the composition hub. -/
def updateRole (s : State) : State :=
  if !hasRole s then modComp s (fun c => { c with acting := false, gathering := [] })
  else if s.comp.acting then s
  else
    let others := seenHubs s
    if s.comp.gathering.isEmpty then
      if others.isEmpty then endCutMoves (flipReady (modComp s (fun c => { c with acting := true })))
      else emitAll (modComp s (fun c => { c with gathering := others }))
        (others.map (fun n => .seqQuery n s.comp.live.lastSeq))
    else
      let left := s.comp.gathering.filter others.contains
      modComp s (fun c => { c with gathering := left, acting := left.isEmpty })

/-- What the composition hub does about moves whose nodes it has lost (R466). -/
def movesAfterLoss (s : State) (node : Nat) : State :=
  if !s.comp.acting then s
  else s.comp.live.moves.foldl (fun s m =>
    if m.step < 4 && (m.oldNode == node || m.newNode == node) then acceptChange s none (.moveEnded m.table m.shard)
    else if 4 ≤ m.step && m.oldNode == node then
      (List.range (6 - m.step)).foldl (fun s _ => acceptChange s none (.grace m.table)) s
    else s) s

/-- A new composition hub is told again of copies that are whole, and asked for missed changes (R456, R466). -/
def greetCompHub (s : State) (node : Nat) : State :=
  if compHubOf s != some node || node == hubNode s then s
  else
    let s := modLive s (fun c => { c with moves := c.moves.map (fun m =>
      if m.oldNode == hubNode s && m.step == 3 then { m with step := 2 } else m) })
    endCutMoves (flipReady (emit s (.catchUp node s.comp.live.lastSeq)))

/-! ### What waits for eviction (R172, R313) -/

/-- Takes a wait off the list. -/
def dropWait (s : State) (w : AllocWait) : State :=
  { s with store := { s.store with waits := s.store.waits.filter (fun x => x.ticket != w.ticket) } }

/-- Serves what waited for room and finds it. -/
def retryWaits (s : State) : State :=
  s.store.waits.foldl (fun s w => match w.ask with
    | .pages who tag t n fl fm c p =>
      if allocWaits s t n (bits fl 0 2) then s else allocPages (dropWait s w) who tag t n fl fm c p false
    | .ring reply q t x ld => match templateOf s x with
      | none => s
      | some p => if ringsFit s p then deliver (keepRecord (bindQueueNow (dropWait s w) q t x ld p)) reply .ok else s) s

/-- Ends a wait of 10 ms: QUOTA_EXCEEDED unless room came (R172, R313). -/
def expireWait (s : State) (ticket : Nat) : State :=
  match s.store.waits.find? (fun w => w.ticket == ticket) with
  | none => s
  | some w => match w.ask with
    | .pages who tag t n fl fm c p => allocPages (dropWait s w) who tag t n fl fm c p true
    | .ring reply _ _ _ _ => deliver (dropWait s w) reply .quotaExceeded

end Sys2Proof.Machine
end

