-- ==== Sys2Proof/Machine/Requests.lean ====
section
/-! DEFINITION. The request buffers of the mailboxes: their header and bodies, and the signed objects that they name (R380,
R482, R492, R493, R509, R515, R547, R548). -/

namespace Sys2Proof.Machine

open Sys2Proof

/-! ### Signed objects in memory (R482, R492, R509) -/

/-- Bytes of a structure at an SA of this hub; none where they cannot be read. -/
def bytesAtSa (s : State) (sa n : Nat) : Option (List Byte) :=
  let off := saOff sa
  if !saWellFormed sa || saNode sa != hubNode s || (pagesOf off n).any (fun p => !Tbl.has s.store.pages p) || rangeGone s off n
      || rangePoison s off n then none
  else some (readMem s off n)

/-- Bytes that follow the body of a signed object: two public keys and two signatures (R482). -/
def trailerBytes : Nat := 104 + 64 + 96 + 3608

/-- An object that is none: it fails the first check. -/
def noObject : SignedObject :=
  { typ := 0, signer := 0, maelcy := false, svn := 0, keyHashOk := false, ecdsaOk := false, lmsOk := false, bodyOk := false }

/-- The signed object at an SA, with its body (R482). -/
def objectAt (s : State) (sa : Nat) : SignedObject × List Byte :=
  match bytesAtSa s sa 128 with
  | none => (noObject, [])
  | some h =>
    let len := fieldAt h 16 8
    if fieldAt h 0 4 != 0x4D423732 || decide (2097152 < len) then (noObject, [])
    else match bytesAtSa s sa (128 + len + trailerBytes) with
      | none => (noObject, [])
      | some all =>
        let signer := fieldAt h 5 1
        ({ typ := fieldAt h 4 1, signer := bits signer 0 2, maelcy := bit signer 7, svn := fieldAt h 8 4,
           keyHashOk := Config.verifies 0 all, ecdsaOk := Config.verifies 1 all, lmsOk := Config.verifies 2 all,
           bodyOk := Config.verifies 3 all }, (all.drop 128).take len)

/-- The binding record at an SA (R492). -/
def recordAt (s : State) (sa : Nat) : BindingRecord :=
  let o := objectAt s sa
  let body := o.2
  let entry (i : Nat) : List Byte := (body.drop (64 + 192 * i)).take 192
  let mine := (List.range (min 64 (fieldAt body 8 1))).filter (fun i => bits (fieldAt (entry i) 0 2) 0 12 == hubNode s)
  { object := o.1, hash := Config.hashOf body,
    namesHub := mine.any (fun i => Config.verifies 5 (entry i)),
    unwrapOk := mine.any (fun i => Config.verifies 4 (entry i)),
    consumers := (List.range (min 16 (fieldAt body 9 1))).map (fun i => bits (fieldAt body (16 + 2 * i) 2) 0 12) }

/-- The debug token at an SA (R509). -/
def tokenAt (s : State) (sa : Nat) : DebugToken :=
  let o := objectAt s sa
  { object := o.1, deviceId := BitVec.ofNat 64 (fieldAt o.2 0 8), nonce := BitVec.ofNat 64 (fieldAt o.2 8 8),
    level := fieldAt o.2 16 1, expires := fieldAt o.2 20 4 }

/-! ### Requests (R547, R548) -/

/-- MSG_ID, LENGTH and TAG of a request. -/
def requestId (b : List Byte) : Nat := fieldAt b 2 2
def requestLength (b : List Byte) : Nat := fieldAt b 4 2
def requestTag (b : List Byte) : Nat := fieldAt b 8 4

/-- Bytes of the body that a message defines; none of an id that is not defined. -/
def bodyLength (id : Nat) : Option Nat :=
  if id == 0x0800 || id == 0x0801 || id == 0x0900 || id == 0x0A02 then some 16
  else if id == 0x0A00 || id == 0x0B00 then some 24
  else if id == 0x0A01 then some 4
  else if id == 0x0B01 then some 1
  else none

/-- Whether a request passes R548: the hub's MAJOR, and a LENGTH that its message allows. -/
def requestOk (s : State) (b : List Byte) (least : Nat) : Bool :=
  fieldAt b 0 1 == mboxMajor s && decide (least ≤ requestLength b) && decide (requestLength b ≤ 4080)

/-- The message that a request buffer holds; none of one that is answered with FORMAT_UNSUPPORTED. -/
def requestMessage (s : State) (b : List Byte) : Option Message :=
  let id := requestId b
  let x := b.drop 16
  match bodyLength id with
  | none => none
  | some n =>
    let tenant := bits (fieldAt x 0 2) 0 12
    let count := fieldAt x 2 2
    let sa := fieldAt x 8 8
    if !requestOk s b n then none
    else if id == 0x0800 then
      some (.alloc tenant count (fieldAt x 4 1) (bits (fieldAt x 5 1) 0 4) (fieldAt x 6 1) (fieldAt x 7 1))
    else if id == 0x0801 then some (.free tenant count sa)
    else if id == 0x0900 then some (.salvage tenant count sa)
    else if id == 0x0A00 then some (.bindContent tenant count sa (recordAt s (fieldAt x 16 8)))
    else if id == 0x0A01 then some (.unbindContent tenant count)
    else if id == 0x0A02 then some (.debugUnlock (tokenAt s sa))
    else if id == 0x0B00 then some (.imageWrite (fieldAt x 0 1) (fieldAt x 4 4) (fieldAt x 8 4) (fieldAt x 16 8))
    else some (.dirSet (fieldAt x 0 1))

end Sys2Proof.Machine
end

