-- ==== Sys2Proof/Machine/Messages.lean ====
section
/-! DEFINITION. The mailbox messages as their serving cores take them, and the events of pages (chapters 08, 13, 14). -/

namespace Sys2Proof.Machine

open Sys2Proof

/-! ### Signed objects (R482 to R486) -/

/-- Whether a signer may sign a TYPE: owner keys 1, 2, 3 and 5, Maelcy's key 4 and 3 (R484). -/
def maySign (o : SignedObject) : Bool :=
  if o.maelcy then o.typ == 4 || o.typ == 3 else o.typ == 1 || o.typ == 2 || o.typ == 3 || o.typ == 5

/-- Whether the key pair that SIGNER names is fused: Maelcy's is; an empty slot 0 takes the first image (R484). -/
def keyFused (s : State) (o : SignedObject) : Bool :=
  o.maelcy || bit s.sec.ownerSet o.signer || (o.typ == 1 && s.sec.ownerSet == 0 && o.signer == 0)

/-- The first check of R483 that an object of an expected TYPE fails, numbered in the rule's order from 1; 0 of a TYPE that
is not expected or that its signer may not sign. -/
def failedCheck (s : State) (typ : Nat) (o : SignedObject) : Option Nat :=
  if o.typ != typ || !maySign o then some 0
  else if !keyFused s o || !o.keyHashOk then some 1
  else if !o.maelcy && bit s.sec.revoked o.signer then some 2
  else if !o.ecdsaOk || !o.lmsOk then some 3
  else if !o.bodyOk then some 4
  else if o.svn < Tbl.at s.sec.svnMin typ 0 then some 5
  else none

/-- The record of a failed check (R486). -/
def objectFails (s : State) (typ check : Nat) : State := raise s 0x0601 { addr := typ, arg := check }

/-! ### Bound content (R492, R493) -/

/-- Whether a page range overlaps a bound one. -/
def rangeBound (s : State) (first pages : Nat) : Bool :=
  s.sec.ranges.any (fun r => decide (first < r.first + r.pages) && decide (r.first < first + pages))

/-- The lowest handle not in use. -/
def lowestHandle (s : State) : Nat → Nat → Nat
  | 0, h => h
  | fuel + 1, h => if s.sec.ranges.any (fun r => r.handle == h) then lowestHandle s fuel (h + 1) else h

/-- A handle for a new binding: any 16-bit one not in use. -/
def freeHandle (s : State) : Nat :=
  chooseFree s.free (fun h => decide (h < 65536) && !s.sec.ranges.any (fun r => r.handle == h))
    (lowestHandle s s.sec.ranges.length 0)

/-- BIND_CONTENT at the security core (R493). -/
def bindContentNow (s : State) (who : Sender) (tag tenant pages firstSa : Nat) (r : BindingRecord) : State :=
  let first := pageOf (saOff firstSa)
  let owned := (List.range pages).all (fun i => ((Tbl.find s.store.pages (first + i)).map (fun p => p.owner == tenant)).getD false)
  let stop (s : State) (st : Status) : State := respond s who 0x0A00 tag st (zeros 3)
  match failedCheck s 5 r.object with
  | some c => stop (objectFails s 5 c) .permission
  | none =>
    if pages == 0 then stop s .formatUnsupported
    else if !r.namesHub || !r.unwrapOk || !saWellFormed firstSa || saNode firstSa != hubNode s
        || saOff firstSa % Config.pageBytes != 0 || !owned || rangeBound s first pages then stop s .permission
    else if 1024 ≤ s.sec.ranges.length then stop s .quotaExceeded
    else
      let h := freeHandle s
      let x : BoundRange := { handle := h, tenant := tenant, first := first, pages := pages, hash := r.hash, consumers := r.consumers }
      let s := spend { s with sec := { s.sec with ranges := s.sec.ranges ++ [x] } } 1
      respond s who 0x0A00 tag .ok (zeros 1 ++ leBytes 2 h)

/-- UNBIND_CONTENT at the security core (R493). -/
def unbindContentNow (s : State) (who : Sender) (tag tenant handle : Nat) : State :=
  if s.sec.ranges.any (fun r => r.handle == handle && r.tenant == tenant) then
    respondStatus { s with sec := { s.sec with ranges := s.sec.ranges.filter (fun r => r.handle != handle) } } who 0x0A01 tag .ok
  else respondStatus s who 0x0A01 tag .permission

/-! ### Debug (R509, R510) -/

/-- A fresh DEBUG_NONCE (R509). -/
def newNonce (s : State) : State :=
  spend { s with sec := { s.sec with nonce := Config.nonce s.free } } 1

/-- Whether a token fits this hub now; its checks of R483 apart. -/
def tokenFits (s : State) (t : DebugToken) : Bool :=
  t.deviceId == Config.deviceId && t.nonce == s.sec.nonce && decide (s.comp.bootGen ≤ t.expires) && !s.sec.saffronOn

/-- DEBUG_UNLOCK at the security core: TRACE opens at once, FULL after its scrub (R509, R510). -/
def debugUnlockNow (s : State) (who : Sender) (tag : Nat) (t : DebugToken) : State :=
  let stop (s : State) (st : Status) : State := respondStatus s who 0x0A02 tag st
  let fits := tokenFits s t
  let s := newNonce s
  match failedCheck s 3 t.object with
  | some c => stop (objectFails s 3 c) .permission
  | none =>
    if !fits then stop s .permission
    else if t.level == 1 then stop { s with sec := { s.sec with debug := 1, opening := false } } .ok
    else if t.level == 2 then
      let s := sramScrub s
      stop { s with sec := { s.sec with opening := true } } .ok
    else stop s .formatUnsupported

/-! ### Boot flash (R513 to R515) -/

/-- Bytes of an image slot (R515). -/
def slotBytes : Nat := 31 * 1048576

/-- Key of a byte of a slot. -/
def slotKey (slot offset : Nat) : Nat := slot * 2 ^ 25 + offset

/-- IMAGE_WRITE at the security core (R515). -/
def imageWriteNow (s : State) (who : Sender) (tag slot offset len sa : Nat) : State :=
  let stop (st : Status) : State := respondStatus s who 0x0B00 tag st
  if !hasAdmin s who then stop .permission
  else if 2 ≤ slot || offset % 4096 != 0 || len % 4096 != 0 || len == 0 || decide (1048576 < len) then stop .formatUnsupported
  else if slot == s.boot.slotUsed then stop .permission
  else if slotBytes < offset + len then stop .quotaExceeded
  else if !saWellFormed sa || saNode sa != hubNode s || (pagesOf (saOff sa) len).any (fun p => !Tbl.has s.store.pages p) then
    stop .permission
  else if rangeGone s (saOff sa) len || rangePoison s (saOff sa) len then stop .poison
  else
    let old := s.boot.slots.filter (fun e => e.1 < slotKey slot offset || slotKey slot (offset + len) ≤ e.1)
    let s := emit { s with boot := { s.boot with slots := putBytes old (slotKey slot offset) (readMem s (saOff sa) len) } }
      (.bootFlash (slotKey slot offset) len)
    respondStatus s who 0x0B00 tag .ok

/-- DIR_SEQ of a directory copy as the hub compares it: a copy that does not check stands below every other. -/
def dirRank (d : DirCopy) : Nat := if d.valid then d.seq + 1 else 0

/-- DIR_SET at the security core: the copy with the lower DIR_SEQ is written (R515). -/
def dirSetNow (s : State) (who : Sender) (tag active : Nat) : State :=
  if !hasAdmin s who then respondStatus s who 0x0B01 tag .permission
  else
    let b := s.boot
    let low := decide (dirRank b.dir0 ≤ dirRank b.dir1)
    let other := if low then b.dir1 else b.dir0
    let new : DirCopy := { valid := true, seq := (if other.valid then other.seq else 0) + 1, active := if active == 1 then 1 else 0 }
    let s := emit { s with boot := if low then { b with dir0 := new } else { b with dir1 := new } } (.bootFlash 0 32)
    respondStatus s who 0x0B01 tag .ok

/-! ### The messages -/

/-- A message whose fields are known, as its serving core takes it; a request buffer is read first. -/
def serveFields (s : State) (who : Sender) (tag : Nat) (m : Message) : State :=
  match m with
  | .raw id _ => respondStatus s who id tag .formatUnsupported
  | .alloc t n fl fm c p => allocPages s who tag t n fl fm c p false
  | .free t n sa => retryWaits (freePages s who tag t n sa)
  | .salvage t n sa => salvageLines s who tag t n sa
  | .bindContent t n sa r => bindContentNow s who tag t n sa r
  | .unbindContent t h => unbindContentNow s who tag t h
  | .debugUnlock t => debugUnlockNow s who tag t
  | .imageWrite sl o n sa => imageWriteNow s who tag sl o n sa
  | .dirSet a => dirSetNow s who tag a

/-- A message as its serving core takes it; a request that R548 turns away has no effect. -/
def serveMessage (s : State) (who : Sender) (tag : Nat) (m : Message) : State :=
  match m with
  | .raw id request =>
    match requestMessage s request with
    | some x => serveFields s who tag x
    | none => respondStatus s who id tag .formatUnsupported
  | m => serveFields s who tag m

/-- ALLOC_PAGES (R313). -/
def execAllocPages (who : Sender) (tag tenant count flags format cls pub : Nat) (s : State) : Host.Outcome State Fault Refusal :=
  act s (fun s => submit serveMessage s who tag (.alloc tenant count flags format cls pub))

/-- FREE_PAGES (R315). -/
def execFreePages (who : Sender) (tag tenant count firstSa : Nat) (s : State) : Host.Outcome State Fault Refusal :=
  act s (fun s => submit serveMessage s who tag (.free tenant count firstSa))

/-- LINE_SALVAGE (R380). -/
def execLineSalvage (who : Sender) (tag tenant lines firstSa : Nat) (s : State) : Host.Outcome State Fault Refusal :=
  act s (fun s => submit serveMessage s who tag (.salvage tenant lines firstSa))

/-- BIND_CONTENT (R493). -/
def execBindContent (who : Sender) (tag tenant pages firstSa : Nat) (record : BindingRecord) (s : State) :
    Host.Outcome State Fault Refusal :=
  act s (fun s => submit serveMessage s who tag (.bindContent tenant pages firstSa record))

/-- UNBIND_CONTENT (R493). -/
def execUnbindContent (who : Sender) (tag tenant handle : Nat) (s : State) : Host.Outcome State Fault Refusal :=
  act s (fun s => submit serveMessage s who tag (.unbindContent tenant handle))

/-- DEBUG_UNLOCK (R509). -/
def execDebugUnlock (who : Sender) (tag : Nat) (token : DebugToken) (s : State) : Host.Outcome State Fault Refusal :=
  act s (fun s => submit serveMessage s who tag (.debugUnlock token))

/-- DEBUG_PATHS_OPEN: the scrub that a FULL token started has ended (R510). -/
def execDebugPathsOpen (s : State) : Host.Outcome State Fault Refusal :=
  act s (fun s => if s.sec.opening then { s with sec := { s.sec with opening := false, debug := 2 } } else s)

/-- IMAGE_WRITE (R515). -/
def execImageWrite (who : Sender) (tag slot offset len sa : Nat) (s : State) : Host.Outcome State Fault Refusal :=
  act s (fun s => submit serveMessage s who tag (.imageWrite slot offset len sa))

/-- DIR_SET (R515). -/
def execDirSet (who : Sender) (tag active : Nat) (s : State) : Host.Outcome State Fault Refusal :=
  act s (fun s => submit serveMessage s who tag (.dirSet active))

/-! ### Pages -/

/-- EVICTION_WAIT_EXPIRY (R172, R313). -/
def execEvictionWaitExpiry (ticket : Nat) (s : State) : Host.Outcome State Fault Refusal :=
  act s (fun s => expireWait s ticket)

/-- FLASH_DIE_FAILURE (R331). -/
def execFlashDieFailure (channel : Nat) (pages : List Nat) (s : State) : Host.Outcome State Fault Refusal :=
  act s (fun s => flashDieFails s channel pages)

/-- TIER_EVICTION (R319). -/
def execTierEviction (tier : Tier) (s : State) : Host.Outcome State Fault Refusal :=
  act s (fun s => retryWaits (evictTier s tier))

/-- PROMOTION (R321). -/
def execPromotion (s : State) : Host.Outcome State Fault Refusal := act s (fun s => promotePages s)

/-- MOVE_FLIP (R325). -/
def execMoveFlip (page : Nat) (s : State) : Host.Outcome State Fault Refusal :=
  act s (fun s => retryHeld (retryWaits (moveFlip s page)))

/-- DEEP_PROMOTION_DONE (R323). -/
def execDeepPromotionDone (page : Nat) (s : State) : Host.Outcome State Fault Refusal :=
  act s (fun s => retryHeld (retryWaits (promotionDone s page)))

/-- PROMOTED_RETURN (R323). -/
def execPromotedReturn (page : Nat) (s : State) : Host.Outcome State Fault Refusal :=
  act s (fun s => promotedReturn s page)

end Sys2Proof.Machine
end

