-- ==== Sys2Proof/Machine/Responses.lean ====
section
/-! DEFINITION. Answers that come back to the hub, and those that never come: over Ifeverlink, from a host, and from its ATS
(chapters 03, 09, 10, 11). -/

namespace Sys2Proof.Machine

open Sys2Proof

/-! ### Ends of outstanding transactions -/

/-- A descriptor's status joins another, with the node of the failing access (R18, R187). -/
def joinStatus (s : State) (queue : Nat) (seq : Seq48) (st : Status) (node : Nat) : State :=
  modWork s queue seq (fun x => if worse x.status st == x.status then x else { x with status := st, node := node })

/-- What a read of another node gave a descriptor. -/
def gotFar (s : State) (queue : Nat) (seq : Seq48) (sa : Nat) (st : Status) (node : Nat) (data : List Byte) : State :=
  wake (modWork s queue seq (fun x =>
    { x with fetched := x.fetched ++ [{ space := .store, addr := sa, status := st, node := node, data := data }] })) queue seq

/-- `n` bytes: those given, then zeros. -/
def exactly (n : Nat) (data : List Byte) : List Byte := data.take n ++ zeros (n - data.length)

/-- The region of a sector of another node whose version this hub has learned: its FIRST_SA and version. -/
def learnedRegion (s : State) (sa : Nat) : Option (Nat × Nat) :=
  (s.order.learned.filter (fun e => saNode e.1 == saNode sa && decide (e.1 ≤ sa))).getLast?

/-- Caches the 128-byte Published sectors that a read returned whole, tagged with the version learned (R387). -/
def cacheSectors (s : State) (o : Outstanding) (data : List Byte) : State :=
  match learnedRegion s o.addr with
  | none => s
  | some r =>
    let node := saNode o.addr
    let whole := (linesOf (saOff o.addr) o.len).filter (fun l => decide (saOff o.addr ≤ 128 * l)
      && decide (128 * l + 128 ≤ saOff o.addr + o.len) && Config.publishedPath (saOf node l))
    let new (l : Nat) : PubSector :=
      { node := node, region := r.1, tenant := o.tenant, sector := l, version := r.2,
        data := (data.drop (128 * l - saOff o.addr)).take 128 }
    let keep := s.order.sectors.filter (fun p => !(p.node == node && p.tenant == o.tenant && whole.contains p.sector))
    { s with order := { s.order with sectors := takeLast farLines (keep ++ whole.map new) } }

/-- Kind of the message that an outstanding transaction sent (R249, R406). -/
def awaitKind : Await → Nat
  | .load .. => 0x10
  | .store .. => 0x11
  | .tally .. => 0x50
  | .credit .. => 0x51
  | .check .. => 0x12
  | .prep .. => 3
  | .delta .. => 5
  | .atomic .. => 0x12
  | .version .. => 0x45
  | .hostRead .. => 0
  | .ats .. => 0
  | .proxyRead .. => 0x10
  | .proxyWrite .. => 0x11
  | .shardCopy .. => 0x11
  | .moveWrite .. => 0x11
  | .replicaCopy .. => 0x11
  | .replicaWrite .. => 0x11

/-- The record of a request that a node did not answer (R93, R419). -/
def nodeTimeout (s : State) (o : Outstanding) : State :=
  raise s 0x0203 { kind := .ifl, inst := (activePort s o.node).getD 0xF, node := some o.node, tenant := some o.tenant,
                   status := statusCode .nodeUnreachable, addr := o.addr, arg := awaitKind o.await }

/-- A write of the hub's own that another node did not take: a copy ends its move, a replica falls out of date (R263,
R466). -/
def ownWriteFailed (s : State) : Await → State
  | .shardCopy t x => requestChange s (.moveEnded t x)
  | .moveWrite t x => requestChange s (.moveEnded t x)
  | .replicaCopy t x => requestChange s (.moveEnded t x)
  | .replicaWrite t e _ => requestChange s (.replicaState t e 2)
  | _ => s

/-! ### STORE_ACK and LOAD_RSP -/

/-- STORE_ACK (R344). -/
def execStoreAck (src tag : Nat) (status : Status) (s : State) : Host.Outcome State Fault Refusal :=
  act s (fun s => match txOf s tag with
    | none => s
    | some o =>
      if o.node != src then s
      else
        let s := closeTx s tag
        match o.await with
        | .store q n => settle (joinStatus s q n status src) q n
        | .tally q n => settle (joinStatus s q n status src) q n
        | .proxyWrite ld cxlTag => cxlWritten s ld cxlTag
        | a => if status == .ok then flipReady s else ownWriteFailed s a)

/-- LOAD_RSP: a stale row meets its redirect, anything else goes to the descriptor or host that asked (R233, R419). -/
def execLoadRsp (src tag : Nat) (status : Status) (epoch : Nat) (data : List Byte) (s : State) : Host.Outcome State Fault Refusal :=
  act s (fun s => match txOf s tag with
    | none => s
    | some o =>
      if o.node != src then s
      else
        let bytes := if status == .ok then exactly o.len data else ones o.len
        match o.await with
        | .load q n row =>
          let s := closeTx s tag
          match row, status with
          | some i, .staleMap => wake (modWork s q n (fun x => meetStale x [i] epoch)) q n
          | _, _ =>
            let s := if status == .ok && row.isNone then cacheSectors s o bytes else s
            gotFar s q n o.addr status src bytes
        | .proxyRead ld cxlTag => cxlAnswer (closeTx s tag) ld cxlTag (status != .ok) bytes
        | _ => s)

/-! ### IFL_TIMEOUT (R419) -/

/-- What an unanswered request leaves to whoever waits for it. -/
def timeoutEnd (s : State) (o : Outstanding) : State :=
  match o.await with
  | .load q n _ => gotFar s q n o.addr .nodeUnreachable o.node (ones o.len)
  | .store q n => settle (joinStatus s q n .nodeUnreachable o.node) q n
  | .tally q n => settle (joinStatus s q n .nodeUnreachable o.node) q n
  | .delta q n => settle (joinStatus s q n .nodeUnreachable o.node) q n
  | .atomic q n slots => takeOlds s q n slots o.node .nodeUnreachable []
  | .check q n => wake (modWork s q n (fun x =>
      { x with owners := x.owners.map (fun e => if e.1 == o.node then (e.1, max e.2 3) else e) })) q n
  | .prep q n => wake (modWork s q n (fun x =>
      { x with owners := x.owners.map (fun e => if e.1 == o.node then (e.1, max e.2 3) else e) })) q n
  | .version q n => match workOf s q n with
      | none => s
      | some w => finish s w .nodeUnreachable o.node 0
  | .proxyRead ld cxlTag => cxlAnswer (postEvent .proxyUnreachable (newestFault s 1) s ld) ld cxlTag true (ones o.len)
  | .proxyWrite ld cxlTag => cxlWritten (postEvent .proxyUnreachable (newestFault s 1) s ld) ld cxlTag
  | a => ownWriteFailed s a

/-- Ends an outstanding request to another node that goes unanswered. -/
def timeoutTx (s : State) (o : Outstanding) : State :=
  match o.await with
  | .hostRead .. => s
  | .ats .. => s
  | _ => timeoutEnd (nodeTimeout (fenceLost (closeTx s o.tag) o.tag o.node) o) o

/-- IFL_TIMEOUT. -/
def execIflTimeout (tag : Nat) (s : State) : Host.Outcome State Fault Refusal :=
  act s (fun s => match txOf s tag with
    | none => s
    | some o => timeoutTx s o)

/-- Every request outstanding to a node ends as by its timeout (R419). -/
def timeoutNode (s : State) (node : Nat) : State :=
  (s.fabric.outstanding.filter (fun o => o.node == node)).foldl timeoutTx s

/-! ### Host memory (R446) -/

/-- CXL_IO_COMPLETION: a read of host memory ends (R446). -/
def execCxlIoCompletion (tag : Nat) (reply : HostReply) (s : State) : Host.Outcome State Fault Refusal :=
  act s (fun s => match txOf s tag with
    | none => s
    | some o => match o.await with
      | .hostRead q n ld =>
        let s := closeTx s tag
        match reply with
        | .data b => gotHost s q n ld o.addr .ok (exactly o.len b)
        | .unsupportedOrAbort => gotHost s q n ld o.addr .permission (ones o.len)
        | .poisoned => gotHost s q n ld o.addr .poison (ones o.len)
      | _ => s)

/-- CXL_IO_TIMEOUT: no completion within 50 ms (R446). -/
def execCxlIoTimeout (tag : Nat) (s : State) : Host.Outcome State Fault Refusal :=
  act s (fun s => match txOf s tag with
    | none => s
    | some o => match o.await with
      | .hostRead q n ld => gotHost (closeTx s tag) q n ld o.addr .nodeUnreachable (ones o.len)
      | _ => s)

/-- Ends one outbound item whose hold is over: a write is dropped, a read ends, a vector stays pending (R446, R447). -/
def expireIo (s : State) (io : HeldIo) : State :=
  match io with
  | .write q n _ _ _ => settle (lostHost s q n) q n
  | .read tag ld hpa len => match txOf s tag with
      | none => s
      | some o => match o.await with
        | .hostRead q n _ => gotHost (closeTx s tag) q n ld hpa .nodeUnreachable (ones len)
        | _ => s
  | .msix _ _ => s

/-- HOST_HOLD_EXPIRY: HOST_HOLD_MS after the loss of a link, what it holds ends (R446). -/
def execHostHoldExpiry (link : Nat) (s : State) : Host.Outcome State Fault Refusal :=
  act s (fun s =>
    if (cxlLink s link).up then s
    else
      let mine := s.cxl.held.filter (fun h => h.1 == link)
      let s := { s with cxl := { s.cxl with held := s.cxl.held.filter (fun h => h.1 != link),
                                            links := s.cxl.links.modify link (fun l => { l with holding := false, expired := true }) } }
      mine.foldl (fun s h => expireIo s h.2) s)

/-- Sends one outbound item on its link, which is up again. -/
def sendIo (s : State) (io : HeldIo) : State :=
  match io with
  | .write q n ld hpa d => settle (emit s (.hostWrite ld hpa d)) q n
  | .read tag ld hpa len => emit s (.hostRead ld tag hpa len)
  | .msix ld v => if msiPending s ld v then
      emit (modLd s ld (fun d => { d with pendingMsi := d.pendingMsi.filter (· != v) })) (.msix ld v) else s

/-- A link that carries traffic again sends what it held, in order (R446, R447). -/
def releaseLink (s : State) (link : Nat) : State :=
  let mine := s.cxl.held.filter (fun h => h.1 == link)
  let s := { s with cxl := { s.cxl with held := s.cxl.held.filter (fun h => h.1 != link),
                                        links := s.cxl.links.modify link (fun l => { l with holding := false, expired := false }) } }
  mine.foldl (fun s h => sendIo s h.2) s

/-! ### ATS and the device TLBs (R73 to R88) -/

/-- The page size that is installed for a translated range: 4 KiB, 2 MiB or 1 GiB (R78). -/
def installSize (size : Nat) : Nat := if 2 ^ 30 ≤ size then 2 ^ 30 else if 2 ^ 21 ≤ size then 2 ^ 21 else 4096

/-- The TLB entry of an answer: the translated range is aligned to its own size (R78). -/
def tlbEntryOf (o : Outstanding) (hpa size : Nat) (write : Bool) : TlbEntry :=
  let n := installSize size
  let base := o.addr / n * n
  { tenant := o.tenant, base := base, size := n, hpa := hpa + (base - o.addr / size * size), write := write }

/-- Entries of a device TLB (R76). -/
def tlbEntries : Nat := 4096

/-- Installs an entry in a cluster's TLB; a full one loses its oldest. -/
def installTlb (s : State) (cluster : Nat) (e : TlbEntry) : State :=
  let keep (x : TlbEntry) : Bool := !(x.tenant == e.tenant && x.base == e.base && x.size == e.size)
  { s with tlbs := Tbl.change s.tlbs cluster [] (fun l => takeLast tlbEntries (l.filter keep ++ [e])) }

/-- Descriptors that wait on an ATS request go on. -/
def wakeWaiters (s : State) (tag : Nat) (f : Work → Work) : State :=
  { s with works := s.works.map (fun w =>
      if w.desc.opcode != 2 && w.waits.contains tag then
        f { w with waits := w.waits.filter (· != tag), phase := if w.phase == .waiting then .ready else w.phase }
      else w) }

/-- A translation that a descriptor cannot have (R79, R82). -/
def noTranslation (page : Nat) (w : Work) : Work :=
  { w with fetched := w.fetched ++ [{ space := .tva, addr := page, status := .translationFault, node := 0, data := ones 1 }] }

/-- ATS_COMPLETION: an answer that an invalidation overtook is discarded, and its descriptors ask anew (R78, R79, R87). -/
def execAtsCompletion (tag : Nat) (reply : AtsReply) (s : State) : Host.Outcome State Fault Refusal :=
  act s (fun s => match txOf s tag with
    | none => s
    | some o => match o.await with
      | .ats _ _ c =>
        let s := closeTx s tag
        if o.stale then wakeWaiters s tag (fun w => w)
        else match reply with
          | .translated hpa size write => wakeWaiters (installTlb s c (tlbEntryOf o hpa size write)) tag (fun w => w)
          | .noAccess => wakeWaiters s tag (noTranslation o.addr)
      | _ => s)

/-- ATS_TIMEOUT (R82). -/
def execAtsTimeout (tag : Nat) (s : State) : Host.Outcome State Fault Refusal :=
  act s (fun s => match txOf s tag with
    | none => s
    | some o => match o.await with
      | .ats _ _ c =>
        let pasid := ((bindingOf s o.tenant).map (·.pasid)).getD 0
        let s := raise s 0x0202 { kind := .cluster, inst := c, tenant := some o.tenant,
                                  status := statusCode .translationFault, addr := o.addr, arg := pasid }
        wakeWaiters (closeTx s tag) tag (noTranslation o.addr)
      | _ => s)

/-- Whether a request that used a translation of a tenant is still under way (R83). -/
def translatedOpen (s : State) (tenant : Nat) : Bool :=
  s.works.any (fun w => w.tenant == tenant && [0, 1, 2, 3].any (isTva w.desc) && (unanswered s w.queue w.seq
    || s.fabric.outstanding.any (fun o => match o.await with
      | .load q n _ => q == w.queue && n == w.seq
      | .hostRead q n _ => q == w.queue && n == w.seq
      | _ => false)))

/-- Changes the invalidation registers of a device. -/
def modInv (s : State) (ld : Nat) (f : Invalidation → Invalidation) : State :=
  { s with invs := Tbl.change s.invs ld Invalidation.idle f }

/-- A write to TLB_INV (R83, R85). -/
def tlbInvNow (s : State) (ld tenant : Nat) : State :=
  if !boundTo s ld tenant || (Tbl.at s.invs ld Invalidation.idle).busy then modInv s ld (fun x => { x with err := true })
  else modInv (dropTenantTlb s tenant) ld (fun x => { x with busy := true, tenant := tenant })

/-- TLB_INV (R83). -/
def execTlbInv (ld tenant : Nat) (s : State) : Host.Outcome State Fault Refusal := act s (fun s => tlbInvNow s ld tenant)

/-- TLB_INV_DONE: every request that used a dropped entry has reached its target (R83). -/
def execTlbInvDone (ld : Nat) (s : State) : Host.Outcome State Fault Refusal :=
  act s (fun s =>
    let x := Tbl.at s.invs ld Invalidation.idle
    if x.busy && !translatedOpen s x.tenant then modInv s ld (fun x => { x with busy := false }) else s)

/-- Tenants that a device's PASID stands for (R74). -/
def tenantsOf (s : State) (ld pasid : Nat) : List Nat :=
  (s.comp.live.tenantBinds.filter (fun b => b.ld == ld && b.pasid == pasid)).map (·.tenant)

/-- ATS_INVALIDATE_REQUEST: the entries that the range covers go (R86, R87). -/
def execAtsInvalidateRequest (ld pasid addr size : Nat) (s : State) : Host.Outcome State Fault Refusal :=
  act s (fun s =>
    let ts := tenantsOf s ld pasid
    modInv (dropTlb s (fun t b n => ts.contains t && decide (b < addr + size) && decide (addr < b + n))) ld
      (fun x => { x with atsDue := true }))

/-- ATS_INVALIDATE_COMPLETION: sent once every request that used a dropped translation has reached its target (R86). -/
def execAtsInvalidateCompletion (ld : Nat) (s : State) : Host.Outcome State Fault Refusal :=
  act s (fun s =>
    let open_ := s.comp.live.tenantBinds.any (fun b => b.ld == ld && translatedOpen s b.tenant)
    if (Tbl.at s.invs ld Invalidation.idle).atsDue && !open_ then
      emit (modInv s ld (fun x => { x with atsDue := false })) (.atsInvalidateCompletion ld)
    else s)

end Sys2Proof.Machine
end

