-- ==== Sys2Proof/Machine/Completion.lean ====
section
/-! DEFINITION. The end of a descriptor: its completion log record, its completion record, what follows them, its MSI-X
message, and the end of a Strip (chapter 05). -/

namespace Sys2Proof.Machine

open Sys2Proof

/-! ### MSI-X (R188, R447) -/

/-- Sets the pending bit of a vector. -/
def setPending (s : State) (ld vector : Nat) : State :=
  if msiPending s ld vector then s else modLd s ld (fun d => { d with pendingMsi := d.pendingMsi ++ [vector] })

/-- The lowest-numbered logical device that carries a tenant. -/
def lowestLd (s : State) (tenant : Nat) : Option Nat :=
  match sortBy (fun a b => decide (a < b)) (ldsOfTenant s tenant) with
  | [] => none
  | l :: _ => some l

/-- The message of a queue's vector: on IRQ_LD, else on the lowest device that carries the tenant, else kept pending
(R188). -/
def signalQueue (s : State) (b : QueueBind) : State :=
  if boundTo s b.irqLd b.tenant then signalMsi s b.irqLd b.vector
  else match lowestLd s b.tenant with
    | some ld => signalMsi s ld b.vector
    | none => setPending s b.irqLd b.vector

/-- Whether a pending vector of one device may go out on another: its queue's tenant is carried there and no longer at its
IRQ_LD (R188). -/
def mayMove (s : State) (home ld vector : Nat) : Bool :=
  s.comp.live.queueBinds.any (fun e => e.2.irqLd == home && e.2.vector == vector && boundTo s ld e.2.tenant
    && !boundTo s home e.2.tenant)

/-- Whether a pending vector of a device belongs to a queue whose tenant the device no longer carries. -/
def orphaned (s : State) (ld vector : Nat) : Bool :=
  s.comp.live.queueBinds.any (fun e => e.2.irqLd == ld && e.2.vector == vector && !boundTo s ld e.2.tenant)

/-- The device whose pending bit a message of a vector on a device clears. -/
def pendingHome (s : State) (ld vector : Nat) : Option Nat :=
  if msiPending s ld vector && !orphaned s ld vector then some ld
  else (List.range 64).find? (fun h => msiPending s h vector && mayMove s h ld vector)

/-- MSIX_PENDING_SEND: a pending vector is sent once its link is up and the vector unmasked (R188, R447). -/
def execMsixPendingSend (ld vector : Nat) (s : State) : Host.Outcome State Fault Refusal :=
  act s (fun s =>
    if !ldUp s ld then s
    else match pendingHome s ld vector with
      | none => s
      | some h => emit (modLd s h (fun d => { d with pendingMsi := d.pendingMsi.filter (· != vector) })) (.msix ld vector))

/-! ### Completion (R187, R188, R195, R196) -/

/-- Whether DETAIL names a node for a status (R187). -/
def hasDetail (st : Status) : Bool :=
  st == .permission || st == .poison || st == .nodeUnreachable || st == .staleMap || st == .lineOwnerLost || st == .stateLost

/-- The completion record of a descriptor. -/
def completionOf (w : Work) : Completion :=
  { seq := w.seq, status := w.status, conv := w.conv, userTag := w.desc.userTag, count := w.count, result := w.result,
    detail := if hasDetail w.status then w.node else 0,
    info := flag w.replayed + 2 * flag w.strip + 4 * flag w.singleCopy }

/-- What a completion log record carries out once it is written (R257, R336, R370, R386, R476). -/
def followUp (w : Work) (s : State) (f : Follow) : State :=
  match f with
  | .clearSlots gran slots => clearSlots s w.tenant gran slots
  | .releaseKey key pool holder => if holder == hubNode s then releaseKey s pool key else s
  | .flip region tenant writer version => flipDraft s region tenant writer version
  | .release owners => owners.foldl (fun s o => emit s (.exchange o.1 kindRelease o.2)) s

/-- The completion log record and the completion record of a descriptor, whose open entry then is free (R196). -/
def postCompletion (s : State) (b : QueueBind) (w : Work) : State :=
  let c := completionOf w
  let s := modJournal s w.region (fun j => { j with logs := j.logs ++ [{ queue := w.queue, record := c, posted := true }] })
  let s := w.follow.foldl (followUp w) s
  let s := postRecord s b c
  let s := modQueue s w.queue (fun x => { x with cqTail := x.cqTail + 1 })
  let s := liftSegments { s with works := s.works.filter (fun x => !(x.queue == w.queue && x.seq == w.seq)) } w.queue w.seq
  if bit w.desc.flags 4 then signalQueue s b else s

/-- A queue that was STRIPPING when the hub was reset becomes STOPPED once its entries marked STRIP have ended (R209, R217). -/
def settleStrip (s : State) (queue : Nat) : State :=
  if s.strips.any (fun e => e.2.busy && e.2.targets.contains queue) || s.works.any (fun w => w.queue == queue && w.strip) then s
  else if (queueOf s queue).state == .stripping then modQueue s queue (fun x => { x with state := .stopped })
  else s

/-- What the end of a descriptor lets go on: keys, seals, unbound queues, and messages and allocations that wait. -/
def afterCompletion (s : State) (w : Work) : State :=
  let s := if w.desc.opcode == 1 && w.shape == shapePush then closePush s w else s
  let s := if isMutation w then raiseSealed s w.desc.param else s
  retryWaits (retryHeld (finishUnbind (settleStrip s w.queue) w.queue))

/-- Whether the next completion of a queue can be logged: its descriptor is done, owes no credit, and its journal has a copy
and is not being replayed; none is logged once the power-loss sequence has begun (R210). -/
def mayComplete (s : State) (w : Work) : Bool :=
  !s.pins.failing && w.phase == .done && !owesCredit w && hasCopy (journalOf s w.region) && !awaitsReplay s w

/-- DESCRIPTOR_COMPLETE: completions of a queue go in SEQ order (R188). -/
def execDescriptorComplete (queue : Nat) (s : State) : Host.Outcome State Fault Refusal :=
  act s (fun s => match bindOf s queue with
    | none => s
    | some b => match workOf s queue (queueOf s queue).cqTail with
      | none => s
      | some w => if mayComplete s w then afterCompletion (postCompletion s b w) w else s)

/-! ### The end of a Strip (R214, R216, R262) -/

/-- Whether a transaction is an update that a stripped descriptor's apply waits for. -/
def strippedAck (s : State) (o : Outstanding) : Bool :=
  let hit (q : Nat) (n : Seq48) : Bool := s.works.any (fun w => w.queue == q && w.seq == n && w.strip && w.phase == .applying)
  match o.await with
  | .delta q n => hit q n
  | .atomic q n _ => hit q n
  | _ => false

/-- A stripped descriptor stops waiting for silent owners (R262). -/
def dropAcks (s : State) : State :=
  (s.fabric.outstanding.filter (strippedAck s)).foldl (fun s o => timeoutEnd (closeTx s o.tag) o) s

/-- STRIP_DONE: the bound of R214 is met. Waits of applies end; once every descriptor reached has completed, the targeted
queues are STOPPED (R216). -/
def execStripDone (who : Sender) (s : State) : Host.Outcome State Fault Refusal :=
  act s (fun s =>
    let r := Tbl.at s.strips (senderKey who) Strip.idle
    if !r.busy then s
    else
      let s := dropAcks s
      if s.works.any (fun w => w.strip && (r.targets.isEmpty || r.targets.contains w.queue)) then s
      else
        let s := r.targets.foldl (fun s q => modQueue s q (fun x =>
          if x.state == .stripping then { x with state := .stopped } else x)) s
        { s with strips := Tbl.put s.strips (senderKey who) { r with busy := false, done := true } })

end Sys2Proof.Machine
end

