-- ==== Sys2Proof/Machine/Fabric.lean ====
section
/-! DEFINITION. Ifeverlink: ports and lanes, flits, changes of route, membership and authority (chapter 10). -/

namespace Sys2Proof.Machine

open Sys2Proof

/-! ### Ports and lanes (R395 to R398) -/

/-- Lanes of a mask. -/
def laneCount (mask : Nat) : Nat := flag (bit mask 0) + flag (bit mask 1) + flag (bit mask 2) + flag (bit mask 3)

/-- Width of a port by its lanes in service: x4, x2 with two or three, x1 with one (R395). -/
def portWidth (p : IflPort) : Nat :=
  let n := laneCount p.lanes
  if !p.up then 0 else if n == 4 then 4 else if 2 ≤ n then 2 else n

/-- Destinations whose active port is a given one. -/
def routedBy (s : State) (port : Nat) : List Nat :=
  (s.comp.live.routes.filter (fun e => activePort s e.1 == some port)).map (·.1)

/-- Marks the destinations that leave a port, or stops marking those of a port whose change is over (ROUTE_INFO.CHANGING). -/
def startChange (s : State) (port : Nat) (dests : List Nat) : State :=
  let kept := s.fabric.changing.filter (fun c => !dests.contains c.dest)
  { s with fabric := { s.fabric with changing := kept ++ dests.map (fun d => { dest := d, port := port }) } }
def endChange (s : State) (port : Nat) : State :=
  { s with fabric := { s.fabric with changing := s.fabric.changing.filter (fun c => c.port != port) } }

/-- The FSEQ that the hub last received in order on a port: the flits that carried messages to this hub name no port here,
so how many there were is free (R401, R415). -/
def lastFseq (s : State) (port : Nat) : Nat := ((portOf s port).rxSeq + Config.freeNat s.free) % 4096

/-- A port goes down: LINK_FATE goes to the other end by its own route (R415). -/
def portDown (s : State) (port : Nat) : State :=
  let x := portOf s port
  if !x.up then modPort s port (fun p => { p with training := false })
  else
    let dests := routedBy s port
    let s := startChange (modPort s port (fun p => { p with up := false, training := false, encrypted := false })) port dests
    emit (spend s 1) (.linkFate x.partner port (lastFseq s port))

/-- A lane leaves service: the port narrows, or goes down with its last lane (R395, R396, R401). -/
def laneOut (s : State) (port lane : Nat) : State :=
  let x := portOf s port
  if 4 ≤ lane || bit x.lanesOut lane then s
  else
    let mask := 2 ^ lane
    let lanes := if bit x.lanes lane then x.lanes - mask else x.lanes
    let s := modPort s port (fun p => { p with lanesOut := p.lanesOut + mask, lanes := lanes })
    let s := raise s 0x0302 { kind := .ifl, inst := port, arg := lanes, node := some x.partner }
    if lanes == 0 then portDown s port else s

/-- LANE_LOCK_LOSS (R395). -/
def execLaneLockLoss (port lane : Nat) (s : State) : Host.Outcome State Fault Refusal :=
  act s (fun s => healthEvents s (laneOut s port lane))

/-- LANE_ERROR_WINDOW (R395). -/
def execLaneErrorWindow (port lane : Nat) (s : State) : Host.Outcome State Fault Refusal :=
  act s (fun s => healthEvents s (laneOut s port lane))

/-- Begins the bring-up of a port that is down (R397, R424). -/
def trainPort (s : State) (port : Nat) : State :=
  let x := portOf s port
  if 12 ≤ port || x.up || x.training || x.lanesOut == 15 || !x.inService then s
  else emit (modPort s port (fun p => { p with training := true })) (.hello port)

/-- LINK_RETRAIN, taken from the management port or a device with ADMIN (R397, R424). -/
def execLinkRetrain (who : Sender) (port : Nat) (s : State) : Host.Outcome State Fault Refusal :=
  act s (fun s => if hasAdmin s who then trainPort s port else s)

/-- A port that stays out of service (R398). -/
def refusePort (s : State) (port reason : Nat) (node : Option Nat) : State :=
  raise (modPort s port (fun p => { p with up := false, training := false })) 0x0303
    { kind := .ifl, inst := port, node := node, arg := reason }

/-- Records the identity that a HELLO gave for a node; the first holder of a number keeps it (R418). -/
def noteIdentity (s : State) (node : Nat) (device : BitVec 64) : State :=
  if Tbl.has s.fabric.identities node then s
  else { s with fabric := { s.fabric with identities := Tbl.put s.fabric.identities node device } }

/-- A port enters service with full credits and an empty replay buffer; destinations that return to it change route
(R397, R403, R415). -/
def portUpNow (s : State) (port lanes partner : Nat) (encrypted : Bool) : State :=
  let before := s
  let x := portOf s port
  let s := modPort s port (fun p =>
    { p with up := true, training := false, lanes := lanes, encrypted := encrypted, partner := partner, txSeq := 0, rxSeq := 0,
             replay := [], tries := 0, credits := [0, 0, 0, 0, 0, 0, 0, 0], tagFail := 0, tagRun := [], session := x.session + 1, txKeys := 0,
             rxKeys := 0 })
  let s := (s.comp.live.routes.map (·.1)).foldl (fun a d => routeMoved before a d) s
  if lanes == 15 then s else raise s 0x0302 { kind := .ifl, inst := port, arg := lanes, node := some partner }

/-- LINK_TRAINING_DONE (R397, R398). -/
def execLinkTrainingDone (port lanes partner domain : Nat) (device : BitVec 64) (encrypt : Bool) (s : State) :
    Host.Outcome State Fault Refusal :=
  act s (fun s =>
    let x := portOf s port
    let usable := (List.range 4).foldl (fun m l => if bit lanes l && !bit x.lanesOut l then m + 2 ^ l else m) 0
    if !x.training || usable == 0 then s
    else if domain != ((s.boot.image.map (·.domain)).getD 0) then refusePort s port 0 (some partner)
    else if partner == hubNode s then refusePort s port 2 (some partner)
    else healthEvents s (portUpNow (noteIdentity s partner device) port usable partner (encrypt || iflEncrypt s)))

/-- HELLO_TIMEOUT (R398). -/
def execHelloTimeout (port reason : Nat) (s : State) : Host.Outcome State Fault Refusal :=
  act s (fun s => if (portOf s port).training then refusePort s port reason none else s)

/-- Whether the security core is failed. -/
def securityFailed (s : State) : Bool := ((s.power.cores[securityCore]?).getD Core.empty).run == .failed

/-- LINK_KEY_UPDATE_DUE: the hub replaces the key of its direction; with a failed security core the link goes down (R410,
R545). -/
def execLinkKeyUpdateDue (port : Nat) (s : State) : Host.Outcome State Fault Refusal :=
  act s (fun s =>
    if !((portOf s port).up && (portOf s port).encrypted) then s
    else if securityFailed s then healthEvents s (portDown s port)
    else emit (modPort s port (fun p => { p with txKeys := p.txKeys + 1 })) (.keyUpdate port))

/-! ### Flits (R399 to R401, R409, R413) -/

/-- The flits of a replay buffer after an acknowledged FSEQ; a number that is not in the buffer acknowledges none. -/
def afterAck (replay : List (Nat × Nat)) (ack : Nat) : List (Nat × Nat) :=
  if replay.any (fun e => e.1 == ack) then (replay.dropWhile (fun e => e.1 != ack)).drop 1 else replay

/-- Counts flits sent again in the 1 ms window that runs (IFL_PORT_STATE.RETRIES). -/
def countRetries (s : State) (port n : Nat) : State :=
  let w := windowNow s
  modPort s port (fun p =>
    if w == p.retryWin then { p with retries := p.retries + n }
    else { p with retries := n, retryWin := w, lastWin := if w == p.retryWin + 1 then p.retries else 0 })

/-- Flits sent again in the last whole 1 ms window. -/
def retriesShown (s : State) (p : IflPort) : Nat :=
  let w := windowNow s
  if w == p.retryWin then p.lastWin else if w == p.retryWin + 1 then p.retries else 0

/-- The lane in service with the most symbol errors: the hub knows it, no command tells it, so it is free. -/
def worstLane (s : State) (x : IflPort) : Nat :=
  chooseFree s.free (fun l => decide (l < 4) && bit x.lanes l) (((List.range 4).find? (bit x.lanes)).getD 0)

/-- Sends again every flit after the acknowledged one; the eighth time takes a lane out of service (R400, R401). -/
def resendPort (s : State) (port : Nat) : State :=
  let x := portOf s port
  if x.replay.isEmpty then s
  else
    let s := countRetries (emitAll s (x.replay.map (fun e => .resend port e.1))) port x.replay.length
    if x.tries + 1 < 8 then modPort s port (fun p => { p with tries := p.tries + 1 })
    else laneOut (spend (modPort s port (fun p => { p with tries := 0 })) 1) port (worstLane s x)

/-- A tag failure: the group counts as failed, the third within 1 s takes the link down (R409). -/
def tagFailure (s : State) (port : Nat) : State :=
  let x := portOf s port
  let run := (x.tagRun.filter (fun t => decide (s.now < t + 1000000000))) ++ [s.now]
  let s := modPort s port (fun p => { p with tagFail := min 0xFFFF (p.tagFail + 1), tagRun := run })
  if run.length < 3 then emit (spend s 1) (.control port (lastFseq s port) true)
  else portDown (raise s 0x0304 { node := some x.partner, arg := port }) port

/-- The partner has narrowed: the port follows (R396, R401). -/
def followLanes (s : State) (port lanes : Nat) : State :=
  (List.range 4).foldl (fun s l => if bit (portOf s port).lanes l && !bit lanes l then laneOut s port l else s) s

/-- CONTROL_FLIT (R400, R401, R409). -/
def execControlFlit (port ackSeq : Nat) (retry : Bool) (lanes : Nat) (credits : List Nat) (tagOk : Bool) (s : State) :
    Host.Outcome State Fault Refusal :=
  act s (fun b =>
    let x := portOf b port
    if !x.up then b
    else if x.encrypted && !tagOk then healthEvents b (tagFailure b port)
    else
      let left := afterAck x.replay ackSeq
      let s := modPort b port (fun p =>
        { p with replay := left, credits := credits, tries := if left.length < p.replay.length then 0 else p.tries })
      let s := if retry then resendPort s port else s
      healthEvents b (followLanes s port lanes))

/-- Kinds of message that exist (R249, R406). -/
def knownKind (kind : Nat) : Bool :=
  decide (1 ≤ kind && kind ≤ 8) || kind == 0x0E || [0x10, 0x11, 0x12].contains kind || decide (0x20 ≤ kind && kind ≤ 0x28)
    || decide (0x30 ≤ kind && kind ≤ 0x33) || decide (0x40 ≤ kind && kind ≤ 0x45) || kind == 0x50 || kind == 0x51
    || decide (0x60 ≤ kind && kind ≤ 0x63) || kind == 0x70

/-- FLIT_FORWARD: a data flit for another node goes on by this hub's active port; one for this hub is passed to its
messages (R406, R413). -/
def execFlitForward (port src dst vc hopsLeft kind : Nat) (payload : List Byte) (s : State) : Host.Outcome State Fault Refusal :=
  act s (fun s =>
    let s := modPort s port (fun p => { p with rxSeq := (p.rxSeq + 1) % 4096 })
    if dst == hubNode s then
      if knownKind kind then s else raise s 0x0205 { kind := .ifl, inst := port, node := some src, arg := kind }
    else if hopsLeft == 0 then raise s 0x0205 { kind := .ifl, inst := port, node := some src, arg := 0 }
    else match activePort s dst with
      | none => s
      | some p => emit s (.flit p src dst vc (hopsLeft - 1) kind payload))

/-! ### Changes of route (R415) -/

/-- BARRIER: answered once it has come on every VC of the pair. -/
def execBarrier (src vc : Nat) (s : State) : Host.Outcome State Fault Refusal :=
  act s (fun s =>
    let got := dedup (Tbl.at s.fabric.barriers src [] ++ [vc])
    if channels.all got.contains then
      emit { s with fabric := { s.fabric with barriers := Tbl.del s.fabric.barriers src } } (.barrierAck src)
    else { s with fabric := { s.fabric with barriers := Tbl.put s.fabric.barriers src got } })

/-- BARRIER_ACK: new flits to the destination use the new port. -/
def execBarrierAck (src : Nat) (s : State) : Host.Outcome State Fault Refusal :=
  act s (fun s => { s with fabric := { s.fabric with changing := s.fabric.changing.filter (fun c => c.dest != src) } })

/-- LINK_FATE: the flits that the other end did not receive go out again on the new active ports, in FSEQ order. -/
def execLinkFate (port fseq : Nat) (s : State) : Host.Outcome State Fault Refusal :=
  act s (fun s =>
    let x := portOf s port
    if x.up then s
    else
      let s := endChange (modPort s port (fun p => { p with replay := [], tries := 0 })) port
      (afterAck x.replay fseq).foldl (fun s e => match activePort s e.2 with
        | none => s
        | some p => emit (modPort s p (sendFlits e.2 1)) (.resend p (portOf s p).txSeq)) s)

/-- LINK_FATE_TIMEOUT: the flits after the last acknowledged FSEQ are discarded. -/
def execLinkFateTimeout (port : Nat) (s : State) : Host.Outcome State Fault Refusal :=
  act s (fun s => if (portOf s port).up then s
    else endChange (modPort s port (fun p => { p with replay := [], tries := 0 })) port)

/-! ### Membership and authority (R416 to R422) -/

/-- Position of a node in the membership set. -/
def positionOf (s : State) (node : Nat) : Option Nat := indexOf? (· == node) (domainMembers s)

/-- Votes of a member (R420). -/
def votesOf (s : State) (node : Nat) : Nat :=
  match positionOf s node with
  | none => 0
  | some i => (((s.boot.image.map (·.votes)).getD [])[i]?).getD 0

/-- V, the votes of all members (R420). -/
def votesTotal (s : State) : Nat := sumNat ((s.boot.image.map (·.votes)).getD [])

/-- Votes of the members seen, this hub's included. -/
def votesSeen (s : State) : Nat := votesOf s (hubNode s) + sumNat ((s.fabric.seen.filter (· != hubNode s)).map (votesOf s))

/-- Whether the votes seen give authority (R420). -/
def authorityDue (s : State) : Bool :=
  let tie := (s.boot.image.map (·.tieNode)).getD 0
  s.boot.image.isSome && (decide (votesTotal s < 2 * votesSeen s)
    || (2 * votesSeen s == votesTotal s && (tie == hubNode s || s.fabric.seen.contains tie)))

/-- Queues that refuse for want of authority run again (R219, R421). -/
def unfenceQueues (s : State) : State :=
  { s with queues := s.queues.map (fun e =>
      if e.2.state == .refusing && e.2.refuse == .fenced then (e.1, { e.2 with state := .running, refuse := .none }) else e) }

/-- Sends the newest chip-level record to the fabric manager. -/
def tellManager (s : State) : State :=
  match newestFault s 3 with
  | none => s
  | some r => emit s (.fmEvent r)

/-- Recomputes authority: a change of it is recorded and told to the fabric manager (R422). -/
def recomputeAuthority (s : State) : State :=
  let due := authorityDue s
  if due == s.fabric.authority then s
  else
    let s := { s with fabric := { s.fabric with authority := due } }
    if due then tellManager (raise (unfenceQueues s) 0x0702 { arg := votesSeen s })
    else tellManager (raise s 0x0701 { arg := votesSeen s })

/-- What follows a change of the members seen: authority, the role of the composition hub, held messages. -/
def membersChanged (before s : State) : State :=
  let s := { s with fabric := { s.fabric with changes := min (2 ^ 28 - 1) (s.fabric.changes + 1) } }
  let s := updateRole (recomputeAuthority s)
  let s := match compHubOf s with
    | some h => if compHubOf before == some h then s else greetCompHub s h
    | none => s
  retryHeld s

/-- HEARTBEAT_INTERVAL: a HEARTBEAT goes to every other member; a member heard in three intervals in a row that lists this
hub becomes seen at the end of the third (R416, R417). -/
def execHeartbeatInterval (s : State) : Host.Outcome State Fault Refusal :=
  act s (fun b =>
    let others := (domainMembers b).filter (· != hubNode b)
    let streak (n : Nat) : Nat := if b.fabric.heard.contains n then min 3 (Tbl.at b.fabric.streak n 0 + 1) else 0
    let table := others.foldl (fun t n => Tbl.put t n (streak n)) []
    let fresh := others.filter (fun n => streak n == 3 && b.fabric.listing.contains n && !b.fabric.seen.contains n)
    let s := { b with fabric := { b.fabric with heard := [], streak := table, seen := b.fabric.seen ++ fresh } }
    let s := if fresh.isEmpty then s else membersChanged b s
    let positions := (s.fabric.seen ++ [hubNode s]).filterMap (positionOf s)
    emitAll s (others.map (fun n => .heartbeat n positions (ownVotes s) s.fabric.authority)))

/-- Whether a node's identity is not the one its HELLO recorded (R418). -/
def strangeIdentity (s : State) (node : Nat) (device : BitVec 64) : Bool :=
  ((Tbl.find s.fabric.identities node).map (· != device)).getD false

/-- HEARTBEAT: counted, unless it carries another identity (R417, R418). -/
def execHeartbeat (src : Nat) (seen : List Nat) (_votes : Nat) (authority : Bool) (device : BitVec 64) (s : State) :
    Host.Outcome State Fault Refusal :=
  act s (fun b =>
    if !isMember b src || src == hubNode b then b
    else if strangeIdentity b src device then raise b 0x0602 { node := some src }
    else
      let lists := match positionOf b (hubNode b) with
        | none => false
        | some i => seen.contains i
      let put (l : List Nat) (on : Bool) : List Nat := if on then (if l.contains src then l else l ++ [src]) else l.filter (· != src)
      let f := b.fabric
      let s := { b with fabric := { f with heard := put f.heard true, listing := put f.listing lists,
                                           authorities := put f.authorities authority } }
      if compHubOf b == compHubOf s && hasRole b == hasRole s then s
      else
        let s := updateRole s
        match compHubOf s with
        | some h => greetCompHub s h
        | none => s)

/-! ### MEMBER_UNREACHABLE (R379, R417) -/

/-- Serves the accesses that waited at a line whose owner died. -/
def serveLost (s : State) (txs : List LineTx) : State :=
  txs.foldl (fun s tx => match tx with
    | .read w => serve s [] w
    | .write w => serve s [] w
    | _ => s) s

/-- A line at home that loses a party (R379). -/
def lineLoses (node : Nat) (s : State) (e : Nat × DirEntry) : State :=
  let line := e.1
  let x := e.2
  if !(holders x).contains node then s
  else
    let rest := x.sharers.filter (· != node)
    if x.owner == node && (x.state == .modified || x.state == .owned) then
      let s := modLine (sendEach s rest kindInv line 0) line (fun y =>
        { y with lost := true, sharers := [], busy := none, acksDue := [], waiting := [] })
      serveLost s (x.busy.toList ++ x.waiting)
    else
      let y : DirEntry := { x with sharers := rest, acksDue := x.acksDue.filter (· != node),
                                   state := if x.owner == node && x.state == .exclusive then .shared else x.state }
      let gone := rest.isEmpty && y.state == .shared
      match y.busy with
      | none => if gone then freeLine s line else modLine s line (fun _ => y)
      | some _ =>
        let s := modLine s line (fun _ => y)
        if y.acksDue.isEmpty then finishTx s line y else s

/-- What this hub held of a home that is lost: its copies, cached sectors and requests go (R379). -/
def homeLost (s : State) (node : Nat) : State :=
  let s := (s.order.misses.filter (fun x => x.node == node)).foldl (fun s x => dropMiss (failLine s x .nodeUnreachable) x) s
  { s with order := { s.order with copies := s.order.copies.filter (fun c => c.node != node),
                                   sectors := s.order.sectors.filter (fun c => c.node != node) } }

/-- A member is declared unreachable. -/
def loseMember (b : State) (node : Nat) : State :=
  let gone (l : List Nat) : List Nat := l.filter (· != node)
  let s := { b with fabric := { b.fabric with seen := gone b.fabric.seen, authorities := gone b.fabric.authorities } }
  let s := s.order.directory.foldl (lineLoses node) s
  let s := membersChanged b (dropAnswers (homeLost s node) node)
  movesAfterLoss s node

/-- MEMBER_UNREACHABLE (R417). -/
def execMemberUnreachable (node : Nat) (s : State) : Host.Outcome State Fault Refusal :=
  act s (fun s =>
    let counted := Tbl.at s.fabric.streak node 0 == 3 && s.fabric.listing.contains node
    if s.fabric.seen.contains node && !counted then loseMember s node else s)

end Sys2Proof.Machine
end

