-- ==== Sys2Proof/Machine/Units.lean ====
section
/-! DEFINITION. Units that leave service: READY_VEC and READY_N, blocks, cells, regions, dies and ports (chapter 01, R531 to
R533, R445). -/

namespace Sys2Proof.Machine

open Sys2Proof

/-! ### READY_VEC and READY_N (R531 to R533) -/

/-- First READY_VEC bit of a kind of unit; CXL counts links, a region its journal (R531). -/
def readyBase : UnitKind → Option Nat
  | .cxl => some 8
  | .hbm => some 16
  | .ddr => some 24
  | .flash => some 36
  | .cluster => some 68
  | .ifl => some 100
  | .region => some 112
  | .chip => none
  | .d2d => none
  | .core => none
  | .sensor => none

/-- READY_VEC bit of a unit. -/
def readyIndex (kind : UnitKind) (unit : Nat) : Option Nat := (readyBase kind).map (· + unit)

/-- Sets or clears one bit of READY_VEC. -/
def putReady (s : State) (i : Nat) (v : Bool) : State :=
  { s with boot := { s.boot with fnReady := BitVec.ofNat 128 (setBits s.boot.fnReady.toNat i 1 (flag v)) } }

/-- Clears the READY_VEC bit of a unit that leaves service (R532). -/
def unready (s : State) (kind : UnitKind) (unit : Nat) : State :=
  match readyIndex kind unit with
  | none => s
  | some i => putReady s i false

/-- Clears the READY_VEC bits of several units of a kind. -/
def unreadyAll (s : State) (kind : UnitKind) (units : List Nat) : State := units.foldl (fun s u => unready s kind u) s

/-- Whether a READY_VEC bit stands for a function, or names a unit in service (R531, R533). -/
def namesInService (s : State) (i : Nat) : Bool :=
  if i < 8 then i != 7
  else if i < 16 then (s.units.cxlPorts[(i - 8) / 2]?).getD false && (i % 2 == 0 || bit s.ctrl.cxl.toNat ((i - 8) / 2))
  else if i < 24 then unitIn s .near (i - 16)
  else if i < 36 then unitIn s .far (i - 24)
  else if i < 68 then unitIn s .deep (i - 36)
  else if i < 100 then clusterIn s (i - 68)
  else if i < 112 then (portOf s (i - 100)).inService
  else if i < 116 then hasCopy (journalOf s (i - 112))
  else false

/-- READY_MASK without a READY section: bits [5:0] and [99:68] (R533). -/
def defaultMask : Nat := 63 + ((2 ^ 32 - 1) <<< 68)

/-- READY_MASK (R533). -/
def readyMask (s : State) : Nat := (s.boot.image.bind (·.readyMask)).getD defaultMask

/-- Whether every bit of READY_MASK that names a unit in service reads 1 (R533). -/
def readyMet (s : State) : Bool :=
  (List.range 128).all (fun i => !bit (readyMask s) i || !namesInService s i || readyBit s i)

/-- Asserts READY_N once READY_MASK is met; the first time after a power-up it may lock the RWL fields (R526, R533). -/
def checkReady (s : State) : State :=
  if s.boot.readyN || s.boot.state != 1 || s.pins.failing || !readyMet s then s
  else
    let lock := (s.boot.image.map (·.lock)).getD 0
    { s with boot := { s.boot with readyN := true, readyOnce := true,
                                   locked := s.boot.locked || (lock == 1 && !s.boot.readyOnce) } }

/-! ### Telling the outside -/

/-- Tells the fabric manager of the newest chip-level record (R37, R43). -/
def tellChip (s : State) : State :=
  match newestFault s 3 with
  | none => s
  | some r => emit s (.fmEvent r)

/-! ### CXL links going down (R445) -/

/-- Changes a CXL link. -/
def modLink (s : State) (h : Nat) (f : CxlLink → CxlLink) : State :=
  { s with cxl := { s.cxl with links := s.cxl.links.modify h f } }

/-- A CXL link goes down: requests received whole are served and their responses dropped, its IDE keys are dropped
(R445). -/
def linkLost (s : State) (h : Nat) : State :=
  let lds := linkLds s h
  let s := modLink s h (fun l => { l with up := false, width := 0, rate := 0, ide := false, keyed := false })
  unready { s with cxl := { s.cxl with
    requests := s.cxl.requests.map (fun r => if lds.contains r.ld then { r with dropped := true } else r) } } .cxl h

/-! ### Memory and clusters leaving service -/

/-- Accesses that wait for a page whose bytes are gone are served: they meet POISON (R331). -/
def releaseLost (s : State) : State :=
  (dedup (s.store.held.map (·.1))).foldl (fun s p =>
    match Tbl.find s.store.pages p with
    | none => s
    | some x => if pageGone s x then releaseHeld s p else s) s

/-- Locations of a scrubbed tenant on units that a test takes stay out until their unit returns (R505). -/
def loseScrubs (s : State) (hit : Tier → Nat → Bool) : State :=
  { s with store := { s.store with scrubs := s.store.scrubs.map (fun x => if hit x.tier x.unit then { x with lost := true } else x) } }

/-- Units of memory that left service: their pages are LOST, and journal copies they held are rebuilt elsewhere (R202,
R331). -/
def memoryLost (s : State) (hit : Tier → Nat → Bool) (kind : UnitKind) (inst : Nat) (cause : Option (Nat × Nat)) : State :=
  checkJournals (releaseLost (loseUnits (loseScrubs s hit) hit kind inst cause))

/-- Whether a descriptor has a segment on a cluster that a test takes. -/
def onStopped (s : State) (hit : Nat → Bool) (w : Work) : Bool :=
  (List.range 32).any (fun c => hit c && ((clusterOf s c).inFlight ++ (clusterOf s c).placed).any (fun g =>
    g.queue == w.queue && g.seq == w.seq))

/-- Clusters stop: the work placed on them is placed and run again elsewhere (R37, R43). -/
def stopClusters (s : State) (hit : Nat → Bool) : State :=
  let s := replayWorks s (onStopped s hit)
  let cs := (List.range 32).filter hit
  let s := cs.foldl (fun s c => modCluster s c (fun x =>
    { x with shape := none, inFlight := [], placed := [], draining := false })) s
  unreadyAll s .cluster cs

/-- The tier of a memory controller's kind. -/
def kindTier : UnitKind → Option Tier
  | .hbm => some .near
  | .ddr => some .far
  | .flash => some .deep
  | _ => none

/-- Whether a block of a region is in service. -/
def blockIn (s : State) (kind : UnitKind) (unit : Nat) : Bool :=
  match kind with
  | .cluster => clusterIn s unit
  | k => match kindTier k with
    | none => false
    | some t => unitIn s t unit

/-- Takes a block of a region out of service. -/
def blockOut (s : State) (kind : UnitKind) (unit : Nat) (cause : Option (Nat × Nat)) : State :=
  let u := s.units
  match kind with
  | .cluster =>
    let s := stopClusters s (· == unit)
    modCluster s unit (fun x => { x with inService := false })
  | .hbm => unready (memoryLost { s with units := { u with hbm := u.hbm.set unit false } }
      (fun t n => t == .near && n == unit) .hbm unit cause) .hbm unit
  | .ddr => unready (memoryLost { s with units := { u with ddr := u.ddr.modify unit (fun d => { d with inService := false }) } }
      (fun t n => t == .far && n == unit) .ddr unit cause) .ddr unit
  | .flash => unready (memoryLost { s with units := { u with flash := u.flash.modify unit (fun f => { f with inService := false }) } }
      (fun t n => t == .deep && n == unit) .flash unit cause) .flash unit
  | _ => s

/-- A region isolates one of its blocks: 0 after an error passed up, 1 unresponsive (R37, R40, R41). -/
def isolateBlock (s : State) (kind : UnitKind) (unit arg : Nat) (cause : Option (Nat × Nat)) : State :=
  if !blockIn s kind unit then s
  else
    let s := raise s 0x0105 { kind := kind, inst := unit, arg := arg, cause := cause }
    blockOut s kind unit (newestRecord s 2)

/-- BLOCK_UNRESPONSIVE (R40). -/
def execBlockUnresponsive (kind : UnitKind) (unit : Nat) (s : State) : Host.Outcome State Fault Refusal :=
  act s (fun s => checkReady (healthEvents s (isolateBlock s kind unit 1 none)))

/-! ### Ports (R427, R602) -/

/-- Whether a port block is in service. -/
def portBlockIn (s : State) (kind : UnitKind) (port : Nat) : Bool :=
  match kind with
  | .ifl => (portOf s port).inService && decide (port < 12)
  | .cxl => (s.units.cxlPorts[port]?).getD false
  | _ => false

/-- Takes a port block out of service, with both halves of a bifurcated CXL port (R427). -/
def portBlockOut (s : State) (kind : UnitKind) (port : Nat) : State :=
  match kind with
  | .ifl => unready (modPort (portDown s port) port (fun p => { p with inService := false })) .ifl port
  | .cxl =>
    let s := linkLost (linkLost s (2 * port)) (2 * port + 1)
    { s with units := { s.units with cxlPorts := s.units.cxlPorts.set port false } }
  | _ => s

/-- The chip takes a failed port out of service and tells the fabric manager (R37, R602). -/
def failPort (s : State) (kind : UnitKind) (port arg : Nat) (cause : Option (Nat × Nat)) : State :=
  if !portBlockIn s kind port then s
  else
    let s := raise s 0x0308 { kind := kind, inst := port, arg := arg, cause := cause }
    tellChip (portBlockOut s kind port)

/-- The newest block-level record, where it names a unit: the one that passed an error up (R564, R602). -/
def blockCause (s : State) (kind : UnitKind) (unit : Nat) : Option (Nat × Nat) :=
  match newestFault s 1 with
  | none => none
  | some r => if r.kind == kind && r.inst == unit then some (1, r.seq) else none

/-- PORT_FAILED: 0 an error passed up, 1 a stage unit retired, 2 unresponsive (R602). -/
def execPortFailed (kind : UnitKind) (port cause : Nat) (s : State) : Host.Outcome State Fault Refusal :=
  act s (fun s => checkReady (healthEvents s
    (failPort s kind port cause (if cause == 2 then none else blockCause s kind port))))

/-! ### Cells (R37 to R39) -/

/-- The record of a cell, where the newest cell-level record names it. -/
def cellCause (s : State) (kind : UnitKind) (unit cell : Nat) : Option (Nat × Nat) :=
  match newestFault s 0 with
  | none => none
  | some r => if r.kind == kind && r.inst == unit && r.cell == cell then some (0, r.seq) else none

/-- Whether a cell is a pipeline stage unit (R33). -/
def isStage (kind : UnitKind) (cell : Nat) : Bool :=
  match kind with
  | .cluster => decide (cell < 6)
  | .flash => decide (cell < 2)
  | .ifl => decide (cell < 4)
  | .cxl => decide (cell < 4)
  | _ => false

/-- Whether a block has a cell (R33). -/
def hasCell (kind : UnitKind) (unit cell : Nat) : Bool :=
  match kind with
  | .cluster => decide (unit < 32) && decide (cell < 6)
  | .hbm => decide (unit < 8) && decide (cell < 64)
  | .ddr => decide (unit < 12) && decide (cell < 8)
  | .flash => decide (unit < 32) && decide (cell < 6)
  | .ifl => decide (unit < 12) && decide (cell < 4)
  | .cxl => decide (unit < 4) && decide (cell < 4)
  | _ => false

/-- Whether a page holds a byte that a bank queue serves. -/
def onBank (t : Tier) (unit cell : Nat) (e : Nat × Page) : Bool :=
  e.2.tier == t && e.2.unit == unit
    && (List.range 32768).any (fun i => bankOf t (e.1 * Config.pageBytes + 64 * i) == cell)

/-- A bank queue leaves service: the pages held there are LOST (R39, R331, R440). -/
def bankOut (s : State) (t : Tier) (unit cell : Nat) : State :=
  let gone := s.store.pages.filter (fun e => onBank t unit cell e && e.2.phase != .lost)
  let lds := dedup ((gone.map (fun e => ldsOfTenant s e.2.owner)).flatten)
  let fault := newestFault s 1
  let s := postEvents s lds .bankRetired fault
  match gone with
  | [] => s
  | (p, _) :: _ =>
    let cause := newestRecord s 1
    releaseLost (raise ((gone.map (·.1)).foldl losePage s) 0x0107
      { kind := tierKind t, inst := unit, cell := cell, addr := saOf (hubNode s) (p * Config.pageBytes), arg := gone.length,
        cause := cause })

/-- Retires a cell (R38, R39): its block goes with a stage unit, its pages with a bank queue, one lane with a scanner. -/
def retireCell (s : State) (kind : UnitKind) (unit cell cause : Nat) : State :=
  if !hasCell kind unit cell || s.units.retired.contains (kind, unit, cell) then s
  else
    let s := raise s 0x0103 { kind := kind, inst := unit, cell := cell, arg := cause, cause := cellCause s kind unit cell }
    let s := { s with units := { s.units with retired := s.units.retired ++ [(kind, unit, cell)] } }
    let up := newestRecord s 1
    if isStage kind cell then
      match kind with
      | .ifl => failPort s kind unit 1 up
      | .cxl => failPort s kind unit 1 up
      | _ => isolateBlock s kind unit 0 up
    else match kindTier kind with
      | some .deep => { s with units := { s.units with flash := s.units.flash.modify unit (fun f => { f with lanesUp := f.lanesUp - 1 }) } }
      | some t => bankOut s t unit cell
      | none => s

/-- CELL_RETIRED: 0 after two failed retries, 1 after 1,024 corrected errors in 1 s (R38). -/
def execCellRetired (kind : UnitKind) (unit cell cause : Nat) (s : State) : Host.Outcome State Fault Refusal :=
  act s (fun s => checkReady (healthEvents s (retireCell s kind unit cell cause)))

/-! ### Die-to-die links and dies (R25, R42) -/

/-- A die-to-die link with no module in service (R25, R42, R43). -/
def linkDown (s : State) (n arg : Nat) (cause : Option (Nat × Nat)) : State :=
  raise { s with units := { s.units with d2d := s.units.d2d.set n 0 } } 0x0307 { kind := .d2d, inst := n, arg := arg, cause := cause }

/-- D2D_LANE_FAULT: the module that holds the lane leaves service (R25). -/
def execD2dLaneFault (link : Nat) (s : State) : Host.Outcome State Fault Refusal :=
  act s (fun s => healthEvents s (match (s.units.d2d[link]?).getD 0 with
    | 0 => s
    | 1 => linkDown s link 0 none
    | n + 2 => raise { s with units := { s.units with d2d := s.units.d2d.set link (n + 1) } } 0x0301
        { kind := .d2d, inst := link, arg := n + 1 }))

/-- E_DIE_FAILURE: the die's sixteen clusters are isolated as blocks of their regions, and its six links go down (R42). -/
def eDieFails (s : State) (die : Nat) : State :=
  if 2 ≤ die || s.units.eDiesOut.contains die then s
  else
    let s := ((List.range 16).map (· + 16 * die)).foldl (fun s c => isolateBlock s .cluster c 1 none) s
    let s := [8 + die, 10, die, 2 + die, 4 + die, 6 + die].foldl (fun s n => linkDown s n 1 none) s
    { s with units := { s.units with eDiesOut := s.units.eDiesOut ++ [die] } }

/-- E_DIE_FAILURE. -/
def execEDieFailure (die : Nat) (s : State) : Host.Outcome State Fault Refusal :=
  act s (fun s => checkReady (healthEvents s (eDieFails s die)))

/-- X_DIE_FAILURE: the hub's service ends and no port remains; no usable flush follows it (R42, R208). -/
def execXDieFailure (s : State) : Host.Outcome State Fault Refusal :=
  act s (fun s =>
    { s with
      units := { s.units with xDieOut := true, cxlPorts := List.replicate 4 false },
      fabric := { s.fabric with ports := s.fabric.ports.map (fun p => { p with up := false, training := false, inService := false }) },
      cxl := { s.cxl with links := s.cxl.links.map (fun l => { l with up := false, width := 0, rate := 0, ide := false, keyed := false }) },
      boot := { s.boot with fnReady := 0, readyN := false },
      flush := { s.flush with area := none } })

/-! ### Regions (R43) -/

/-- Isolates a region: its links close, its clusters stop, its memory is unreachable, and its accepted work awaits the
replay from the journal mirror (R43). -/
def isolateRegion (s : State) (k : Nat) : State :=
  if 4 ≤ k || !regionIn s k then s
  else
    let s := raise s 0x0106 { kind := .region, inst := k, arg := k }
    let fault := newestFault s 3
    let cause := newestRecord s 3
    let s := linkDown (linkDown s (2 * k) 2 cause) (2 * k + 1) 2 cause
    let s := stopClusters s (fun c => clusterRegion c == k)
    let s := { s with units := { s.units with regionsOut := s.units.regionsOut ++ [k] } }
    let s := unreadyAll s .hbm [2 * k, 2 * k + 1]
    let s := unreadyAll s .ddr [3 * k, 3 * k + 1, 3 * k + 2]
    let s := unreadyAll s .flash ((List.range 8).map (· + 8 * k))
    let s := unready s .region k
    let s := memoryLost s (fun t u => tierRegion t u == k) .region k cause
    let s := modJournal s k (fun j => { j with replay := hasCopy j })
    let s := postEvents s (enabledLds s) .regionIsolated fault
    match fault with
    | none => s
    | some r => emit s (.fmEvent r)

/-- REGION_ISOLATED. -/
def execRegionIsolated (region : Nat) (s : State) : Host.Outcome State Fault Refusal :=
  act s (fun s => checkReady (healthEvents s (isolateRegion s region)))

end Sys2Proof.Machine
end

