-- ==== Sys2Proof/Machine/Cxl.lean ====
section
/-! DEFINITION. CXL.mem requests, HDM decoders, and what happens to links, ports and logical devices (chapter 11). -/

namespace Sys2Proof.Machine

open Sys2Proof

/-! ### CXL.mem (R432 to R434) -/

/-- Whether the firmware fetch has yet to end, while only committed local decoders to near pages are served (R434). -/
def beforeFirmware (s : State) : Bool := !readyBit s 4

/-- Counts a request refused before firmware (R434). -/
def countEarly (s : State) (ld : Nat) : State := modLd s ld (fun d => { d with early := min 0xFFFF (d.early + 1) })

/-- Whether the unit that holds a page is ready: its READY_VEC bit reads 1 (R531). -/
def pageReady (s : State) (p : Page) : Bool :=
  match readyIndex (tierKind p.tier) p.unit with
  | none => true
  | some i => readyBit s i

/-- What is served before firmware: a near page on a stack that is ready (R434). -/
def earlyPage (s : State) (off : Nat) : Bool :=
  match pageAt s off with
  | none => false
  | some p => p.tier == .near && pageReady s p

/-- Whether a request waits for its memory: the page's unit is in service and not ready (R433). -/
def awaitsUnit (s : State) (off : Nat) : Bool :=
  match pageAt s off with
  | none => false
  | some p => !pageGone s p && unitIn s p.tier p.unit && !pageReady s p

/-- Serves a request to this hub's memory, or holds it until its unit is ready (R433). -/
def serveOrHold (s : State) (off : Nat) (w : Waiter) : State :=
  if awaitsUnit s off then { s with store := { s.store with held := s.store.held ++ [(pageOf off, w)] } }
  else serve s [] w

/-- Records a request as received and not yet served. -/
def takeRequest (s : State) (ld tag dpa len : Nat) (write : Bool) : State :=
  let r : CxlRequest := { tag := tag, ld := ld, write := write, dpa := dpa, len := len, dropped := false }
  { s with cxl := { s.cxl with requests := s.cxl.requests ++ [r] } }

/-- DPA of an SA in a decoder. -/
def dpaOf (s : State) (ld d sa : Nat) : Nat :=
  ((Tbl.find (decodersOf s ld) d).map (·.dpaBase)).getD 0 + (saOff sa - (hdmOf s ld d).saBase)

/-- What an error in the cells of an access leaves (R37): a corrected error its record; an uncorrectable one poison, its
record and an event; a third failed attempt passes the error to the region, which isolates the block. -/
def cellError (s : State) (ld tenant off : Nat) (c : CellEvent) : State :=
  match pageAt s off with
  | none => s
  | some p =>
    let info : FaultInfo := { kind := tierKind p.tier, inst := p.unit, cell := bankOf p.tier off, tenant := some tenant,
                              addr := saOf (hubNode s) off }
    let poisoned (s : State) : State :=
      let s := raise (poisonUnit s (off / 64)) 0x0102 info
      postEvent .uncorrectable (newestFault s 0) s ld
    match c with
    | .clean => s
    | .corrected n => raise s 0x0101 { info with arg := n }
    | .uncorrected => poisoned s
    | .exhausted =>
      let s := poisoned s
      let cause := newestRecord s 0
      let s := raise s 0x0104 { info with addr := 0, arg := 3, cause := cause }
      isolateBlock s (tierKind p.tier) p.unit 0 (newestRecord s 1)

/-- Whether the cells of an access are read at all: the access is allowed and its bytes are there. -/
def cellsTouched (s : State) (tenant off len : Nat) (write : Bool) : Bool :=
  permits s tenant off len write && !rangeGone s off len

/-- Sends a request through a proxy window, or ends it where the node cannot be reached (R92, R93). -/
def proxy (s : State) (ld tag tenant sa len : Nat) (write : Option (List Byte)) : State :=
  let node := saNode sa
  let t := s.fabric.nextTag
  let s := openTx s node (if write.isSome then .proxyWrite ld tag else .proxyRead ld tag) tenant sa len
  if reachable s node then
    match write with
    | none => emit s (.load node tenant t (saOff sa) len none)
    | some d => emit s (.store node tenant t (saOff sa) d)
  else match txOf s t with
    | none => s
    | some o => timeoutTx s o

/-- A CXL.mem request of a link that carries traffic, given what to do with it at this hub and at another (R92, R95, R432,
R434). -/
def cxlRequestNow (s : State) (ld tag hpa len : Nat) (write : Bool) (here : State → Nat → Nat → State)
    (there : State → Nat → Nat → State) : State :=
  let stop (s : State) : State := if write then cxlWritten s ld tag else cxlAnswer s ld tag true (ones len)
  match hpaHit s ld hpa with
  | none =>
    let s := takeRequest s ld tag 0 len write
    stop (if beforeFirmware s then countEarly s ld else s)
  | some (d, sa) =>
    let m := hdmOf s ld d
    let s := takeRequest s ld tag (dpaOf s ld d sa) len write
    let near := saNode sa == hubNode s
    if beforeFirmware s && !(m.valid && near && earlyPage s (saOff sa)) then stop (countEarly s ld)
    else if !m.valid then stop (cxlRefuse s ld m.tenant (saOff sa))
    else if near then here s m.tenant (saOff sa)
    else there s m.tenant sa

/-- Whether a logical device's link takes requests: it is up, and its IDE has not failed (R437). -/
def linkTakes (s : State) (ld : Nat) : Bool := ldUp s ld && !(cxlLink s (ldLink s ld)).broken

/-- CXL_MEM_READ (R432). -/
def execCxlMemRead (ld tag hpa len : Nat) (cell : CellEvent) (s : State) : Host.Outcome State Fault Refusal :=
  act s (fun s =>
    if !linkTakes s ld then s
    else healthEvents s (cxlRequestNow s ld tag hpa len false
      (fun s tenant off =>
        let s := if cellsTouched s tenant off len false then cellError s ld tenant off cell else s
        serveOrHold s off (.cxlRead ld tag off tenant len))
      (fun s tenant sa => proxy s ld tag tenant sa len none)))

/-- CXL_MEM_WRITE: a poisoned write leaves poison (R432, R605). -/
def execCxlMemWrite (ld tag hpa : Nat) (data : List Byte) (poison : Bool) (cell : CellEvent) (s : State) :
    Host.Outcome State Fault Refusal :=
  act s (fun s =>
    if !linkTakes s ld then s
    else healthEvents s (cxlRequestNow s ld tag hpa data.length true
      (fun s tenant off =>
        let touched := cellsTouched s tenant off data.length true
        let w : Waiter := if poison then .cxlPoison ld tag off tenant data.length else .cxlWrite ld tag off tenant data
        let s := serveOrHold s off w
        if touched then cellError s ld tenant off cell else s)
      (fun s tenant sa => proxy s ld tag tenant sa data.length (some (if poison then ones data.length else data)))))

/-- Whether a waiting access belongs to a host's request. -/
def isRequest (ld tag : Nat) : Waiter → Bool
  | .cxlRead l t .. => l == ld && t == tag
  | .cxlWrite l t .. => l == ld && t == tag
  | .cxlPoison l t .. => l == ld && t == tag
  | .load .. => false
  | .store .. => false
  | .work .. => false

/-- MEM_HOLD_EXPIRY: a request not served within MEM_HOLD_US is ended (R433). -/
def execMemHoldExpiry (ld tag : Nat) (s : State) : Host.Outcome State Fault Refusal :=
  act s (fun s => match cxlRequest s ld tag with
    | none => s
    | some r =>
      let s := { s with store := { s.store with held := s.store.held.filter (fun h => !isRequest ld tag h.2) } }
      let s := if r.write then cxlWritten s ld tag else cxlAnswer s ld tag true (ones r.len)
      let s := raise s 0x0204 { kind := .cxl, inst := ld / 16, addr := r.dpa, arg := ld }
      let s := modLd s ld (fun d => { d with heldEnded := min 0xFFFF (d.heldEnded + 1) })
      postEvent .holdEnded (newestFault s 1) s ld)

/-! ### HDM decoders (R89, R431) -/

/-- First DPA of a decoder as CXL 2.0 sets it: past the decoders before it, and its DPA Skip. -/
def nextDpa (s : State) (ld d skip : Nat) : Nat :=
  maxNat (((decodersOf s ld).filter (fun e => decide (e.1 < d))).map (fun e => e.2.dpaBase + e.2.size / e.2.ways)) + skip

/-- Whether a commit holds (R89, R431). -/
def commitHolds (s : State) (ld d : Nat) (x : DecoderSetup) : Bool :=
  let base := nextDpa s ld d x.skip
  let top := base + x.size / x.ways
  decide (ld < 64) && decide (d < 8) && [1, 2, 4, 8, 16].contains x.ways
    && [256, 512, 1024, 2048, 4096, 8192, 16384].contains x.gran && decide (x.position < x.ways)
    && decide (top ≤ (ldOf s ld).capacity)
    && !(decodersOf s ld).any (fun e => e.1 != d && decide (base < e.2.dpaBase + e.2.size / e.2.ways) && decide (e.2.dpaBase < top))

/-- Takes decoders back. -/
def uncommit (s : State) (ld : Nat) : State := modLd s ld (fun d => { d with decoders := [] })

/-- HDM_DECODER_COMMIT: a locked decoder stays; a commit that does not hold leaves the decoder uncommitted (R431). -/
def execHdmDecoderCommit (ld decoder : Nat) (setup : DecoderSetup) (s : State) : Host.Outcome State Fault Refusal :=
  act s (fun s =>
    let old := Tbl.find (decodersOf s ld) decoder
    if (old.map (·.locked)).getD false then emit s (.decoder ld decoder true)
    else
      let s := modLd s ld (fun d => { d with decoders := Tbl.del d.decoders decoder })
      if !setup.commit || !commitHolds s ld decoder setup then emit s (.decoder ld decoder false)
      else
        let x : Decoder := { dpaBase := nextDpa s ld decoder setup.skip, base := setup.base, size := setup.size,
                             ways := setup.ways, gran := setup.gran, position := setup.position, skip := setup.skip,
                             locked := setup.lock }
        emit (modLd s ld (fun d => { d with decoders := Tbl.put d.decoders decoder x })) (.decoder ld decoder true))

/-! ### Port events (R445) -/

/-- CXL_LINK_DOWN: a link is lost without a reset (R445, R446). -/
def execCxlLinkDown (link : Nat) (s : State) : Host.Outcome State Fault Refusal :=
  act s (fun s => if (cxlLink s link).up then healthEvents s (linkLost s link) else s)

/-- A reset of a link: as link down, and the decoders of its logical devices are uncommitted and unlocked (R445). -/
def resetLink (s : State) (link : Nat) : State :=
  let lds := linkLds s link
  let s := if (cxlLink s link).up then linkLost s link else s
  let s := modLink s link (fun l => { l with ide := false, keyed := false, resetSince := l.broken })
  lds.foldl uncommit s

/-- A reset of a port: of both its links (R445). -/
def resetPort (s : State) (port : Nat) : State := resetLink (resetLink s (2 * port)) (2 * port + 1)

/-- PERST_N of a port; during a warm reset it is taken once the hub leaves reset (R445, R590). -/
def execPerstN (port : Nat) (s : State) : Host.Outcome State Fault Refusal :=
  if s.pins.pwrGood && !s.pins.hubResetN then
    .next { s with pins := { s.pins with perst := if s.pins.perst.contains port then s.pins.perst else s.pins.perst ++ [port] } }
  else act s (fun s => healthEvents s (resetPort s port))

/-- HOT_RESET of a link (R445). -/
def execHotReset (link : Nat) (s : State) : Host.Outcome State Fault Refusal :=
  act s (fun s => healthEvents s (resetLink s link))

/-- The logical device of an outbound item. -/
def ioLd : HeldIo → Nat
  | .write _ _ ld _ _ => ld
  | .read _ ld _ _ => ld
  | .msix ld _ => ld

/-- What a function-level reset does to a logical device: its CXL.io state is reset, its outbound CXL.io in flight is dropped,
and the TLB entries of its tenants go (R445). -/
def resetFunction (s : State) (ld : Nat) : State :=
  let mine := s.cxl.held.filter (fun h => ioLd h.2 == ld)
  let s := { s with cxl := { s.cxl with held := s.cxl.held.filter (fun h => ioLd h.2 != ld) } }
  let s := mine.foldl (fun s h => expireIo s h.2) s
  let s := modLd s ld (fun d => { d with pendingMsi := [] })
  ((s.comp.live.tenantBinds.filter (fun b => b.ld == ld)).map (·.tenant)).foldl dropTenantTlb s

/-- FUNCTION_LEVEL_RESET (R445). -/
def execFunctionLevelReset (ld : Nat) (s : State) : Host.Outcome State Fault Refusal := act s (fun s => resetFunction s ld)

/-- CXL_RESET: as a function-level reset, and the decoders of the logical device are uncommitted (R445). -/
def execCxlReset (ld : Nat) (s : State) : Host.Outcome State Fault Refusal :=
  act s (fun s => uncommit (resetFunction s ld) ld)

/-! ### IDE (R437) -/

/-- IDE_INTEGRITY_FAILURE: the stream is insecure, reads in flight return poison, and later requests are discarded until the
link is reset and keys are agreed again (R437). -/
def execIdeIntegrityFailure (link : Nat) (s : State) : Host.Outcome State Fault Refusal :=
  act s (fun s =>
    if !(cxlLink s link).up || !(cxlLink s link).ide then s
    else
      let lds := linkLds s link
      let s := modLink s link (fun l => { l with ide := false, keyed := false, broken := true, resetSince := false })
      let reads := s.cxl.requests.filter (fun r => lds.contains r.ld && !r.write)
      let s := reads.foldl (fun s r => cxlAnswer s r.ld r.tag true (ones r.len)) s
      let s := raise s 0x0306 { kind := .cxl, inst := link / 2, arg := link }
      postEvents s (lds.filter (enabledLds s).contains) .ideFailure (newestFault s 3))

/-- CXL_IDE_KM: delivers the keys of a link, or makes its streams secure with them (R437). -/
def execCxlIdeKm (link : Nat) (activate : Bool) (s : State) : Host.Outcome State Fault Refusal :=
  act s (fun s =>
    let l := cxlLink s link
    if !coreRuns s securityCore || !l.up || (l.broken && !l.resetSince) then s
    else if !activate then modLink s link (fun l => { l with keyed := true })
    else if l.keyed then modLink s link (fun l => { l with ide := true, broken := false, resetSince := false })
    else s)

end Sys2Proof.Machine
end

