-- ==== Sys2Proof/Machine/Commands.lean ====
section
/-! DEFINITION. The Fabric Manager API command sets, the memory device mailbox, DOE and CDAT (chapter 11). -/

namespace Sys2Proof.Machine

open Sys2Proof

/-! ### Fabric Manager API (R428, R441, R442) -/

/-- Logical devices of a port. -/
def portLds (port : Nat) : List Nat := (List.range 16).map (· + 16 * port)

/-- Opcodes of the Set commands of CXL 2.0, by which the image's envelope names them. -/
def opSetLdAllocations : Nat := 0x5402
def opSetQosControl : Nat := 0x5404
def opSetQosAllocatedBw : Nat := 0x5407
def opSetQosBwLimit : Nat := 0x5409

/-- Whether the envelope takes a Set command: its logical devices, and each of its values (R441). -/
def setPermitted (s : State) (opcode : Nat) (lds values : List Nat) : Bool :=
  match s.boot.image with
  | none => false
  | some i => i.envelope.any (fun r => r.opcode == opcode && within r.lds lds
      && values.all (fun v => match r.values with
        | [] => true
        | b :: _ => decide (b.1 ≤ v) && decide (v ≤ b.2)))

/-- Answers a Get command of a port; a port that does not exist is Invalid Input. -/
def fmGet (s : State) (port : Nat) (data : List Nat) : State := emit s (if port < 4 then .fmAnswer .ok data else .fmRefused)

/-- Applies a list of values to the logical devices of a port from `start` on. -/
def setLds (s : State) (port start : Nat) (values : List Nat) (f : Nat → LogicalDevice → LogicalDevice) : State :=
  ((List.range values.length).zip values).foldl (fun s e => modLd s (16 * port + start + e.1) (f e.2)) s

/-- A Set command over logical devices: Invalid Input changes nothing (R441). -/
def fmSet (s : State) (opcode port start : Nat) (values : List Nat) (ok : Nat → Bool)
    (f : Nat → LogicalDevice → LogicalDevice) : State :=
  let lds := (List.range values.length).map (fun i => 16 * port + start + i)
  if 4 ≤ port || 16 < start + values.length || !values.all ok || !setPermitted s opcode lds values then emit s .fmRefused
  else emit (setLds s port start values f) (.fmAnswer .ok [])

/-- FM_IDENTIFY (R441); its content is that of the standard. -/
def execFmIdentify (s : State) : Host.Outcome State Fault Refusal :=
  act s (fun s => emit s (.fmAnswer .ok [Config.standardAnswer 0]))

/-- GET_LD_INFO: 16 logical devices a port (R428, R441). -/
def execGetLdInfo (port : Nat) (s : State) : Host.Outcome State Fault Refusal :=
  act s (fun s => fmGet s port [16, Config.standardAnswer 1])

/-- GET_LD_ALLOCATIONS (R441). -/
def execGetLdAllocations (port : Nat) (s : State) : Host.Outcome State Fault Refusal :=
  act s (fun s => fmGet s port ((portLds port).map (fun l => (ldOf s l).capacity)))

/-- SET_LD_ALLOCATIONS: capacities in bytes, multiples of 256 MiB, in the range that the envelope permits (R428, R431). -/
def execSetLdAllocations (port start : Nat) (amounts : List Nat) (s : State) : Host.Outcome State Fault Refusal :=
  act s (fun s => fmSet s opSetLdAllocations port start amounts (fun a => a % 2 ^ 28 == 0) (fun a d => { d with capacity := a }))

/-- GET_QOS_CONTROL (R441). -/
def execGetQosControl (port : Nat) (s : State) : Host.Outcome State Fault Refusal :=
  act s (fun s => fmGet s port [Tbl.at s.cxl.qos port 0])

/-- SET_QOS_CONTROL (R441). -/
def execSetQosControl (port value : Nat) (s : State) : Host.Outcome State Fault Refusal :=
  act s (fun s =>
    if 4 ≤ port || !setPermitted s opSetQosControl [] [value] then emit s .fmRefused
    else emit { s with cxl := { s.cxl with qos := Tbl.put s.cxl.qos port value } } (.fmAnswer .ok []))

/-- GET_QOS_STATUS: DevLoad of the port, 0 Light to 3 Severe Overload, from an occupancy that no rule lets be computed (R442). -/
def execGetQosStatus (port : Nat) (s : State) : Host.Outcome State Fault Refusal :=
  act s (fun s => fmGet (spend s 1) port [Config.freeNat s.free % 4])

/-- GET_QOS_ALLOCATED_BW (R441). -/
def execGetQosAllocatedBw (port : Nat) (s : State) : Host.Outcome State Fault Refusal :=
  act s (fun s => fmGet s port ((portLds port).map (fun l => (ldOf s l).qosShare)))

/-- SET_QOS_ALLOCATED_BW (R442). -/
def execSetQosAllocatedBw (port start : Nat) (amounts : List Nat) (s : State) : Host.Outcome State Fault Refusal :=
  act s (fun s => fmSet s opSetQosAllocatedBw port start amounts (fun _ => true) (fun a d => { d with qosShare := a }))

/-- GET_QOS_BW_LIMIT (R441). -/
def execGetQosBwLimit (port : Nat) (s : State) : Host.Outcome State Fault Refusal :=
  act s (fun s => fmGet s port ((portLds port).map (fun l => (ldOf s l).qosLimit)))

/-- SET_QOS_BW_LIMIT (R442). -/
def execSetQosBwLimit (port start : Nat) (amounts : List Nat) (s : State) : Host.Outcome State Fault Refusal :=
  act s (fun s => fmSet s opSetQosBwLimit port start amounts (fun _ => true) (fun a d => { d with qosLimit := a }))

/-! ### The primary mailbox (R434, R438) -/

/-- Return codes of CXL 2.0. -/
def cxlSuccess : Nat := 0
def cxlBackground : Nat := 1
def cxlInvalidInput : Nat := 2
def cxlUnsupported : Nat := 3
def cxlBusy : Nat := 6
def cxlInvalidHandle : Nat := 14

/-- A mailbox command: the mailbox is ready once the firmware fetch is complete (R434). -/
def command (s : State) (f : State → State) : Host.Outcome State Fault Refusal :=
  act s (fun s => if beforeFirmware s then s else f s)

/-- Answers a mailbox command. -/
def answer (s : State) (ld code : Nat) (data : List Nat) : State := emit s (.cxlCommand ld code data)

/-- One event record: its handle, cause and time, and the 80 bytes of a vendor record (R440). -/
def eventData (r : EventRecord) : List Nat :=
  [r.handle, r.cause, r.time] ++ match r.fault with
    | none => []
    | some f => (faultBytes true f ++ zeros 16).map (·.toNat)

/-- GET_EVENT_RECORDS (R438, R440). -/
def execGetEventRecords (ld log : Nat) (s : State) : Host.Outcome State Fault Refusal :=
  command s (fun s => match (ldOf s ld).logs[log]? with
    | none => answer s ld cxlInvalidInput []
    | some l => answer s ld cxlSuccess
        ([flag (l.overflow != 0), l.overflow, l.records.length] ++ (l.records.map eventData).flatten))

/-- A log whose records are cleared, all or by handle. -/
def clearLog (all : Bool) (handles : List Nat) (l : EventLog) : EventLog :=
  { l with overflow := 0, records := if all then [] else l.records.filter (fun r => !handles.contains r.handle) }

/-- CLEAR_EVENT_RECORDS (R438). -/
def execClearEventRecords (ld log : Nat) (all : Bool) (handles : List Nat) (s : State) : Host.Outcome State Fault Refusal :=
  command s (fun s => match (ldOf s ld).logs[log]? with
    | none => answer s ld cxlInvalidInput []
    | some l =>
      if !all && !handles.all (fun h => l.records.any (fun r => r.handle == h)) then answer s ld cxlInvalidHandle []
      else answer (modLd s ld (fun d => { d with logs := d.logs.modify log (clearLog all handles) })) ld cxlSuccess [])

/-- GET_EVENT_INTERRUPT_POLICY (R438). -/
def execGetEventInterruptPolicy (ld : Nat) (s : State) : Host.Outcome State Fault Refusal :=
  command s (fun s => answer s ld cxlSuccess (ldOf s ld).policy)

/-- SET_EVENT_INTERRUPT_POLICY: a setting per log, MSI-X, firmware interrupt or none (R438). -/
def execSetEventInterruptPolicy (ld : Nat) (policy : List Nat) (s : State) : Host.Outcome State Fault Refusal :=
  command s (fun s =>
    if policy.length != 4 || policy.any (fun p => decide (256 ≤ p) || bits p 0 2 == 3) then answer s ld cxlInvalidInput []
    else answer (modLd s ld (fun d => { d with policy := policy })) ld cxlSuccess [])

/-- GET_FW_INFO: the running firmware set; one slot, no activation (R438). -/
def execGetFwInfo (ld : Nat) (s : State) : Host.Outcome State Fault Refusal :=
  command s (fun s => answer s ld cxlSuccess [1, 1, 0, s.boot.fwMajor, s.boot.fwMinor])

/-- GET_TIMESTAMP (R438). -/
def execGetTimestamp (ld : Nat) (s : State) : Host.Outcome State Fault Refusal :=
  command s (fun s => answer s ld cxlSuccess [ldTime s ld])

/-- SET_TIMESTAMP (R438). -/
def execSetTimestamp (ld value : Nat) (s : State) : Host.Outcome State Fault Refusal :=
  command s (fun s => answer (modLd s ld (fun d => { d with timestamp := value, stampAt := s.now })) ld cxlSuccess [])

/-- Opcodes that the primary mailbox supports (R438, R443). -/
def mailboxOpcodes : List Nat :=
  [0x0100, 0x0101, 0x0102, 0x0103, 0x0200, 0x0300, 0x0301, 0x0400, 0x0401, 0x4000, 0x4200, 0x4201, 0x4202, 0x4300, 0x4301,
   0x4302, 0x4303, 0x4304, 0x4305, 0xC000, 0xC001, 0xC002]

/-- GET_SUPPORTED_LOGS: the Command Effects Log alone (R438). -/
def execGetSupportedLogs (ld : Nat) (s : State) : Host.Outcome State Fault Refusal :=
  command s (fun s => answer s ld cxlSuccess [1, 4 * mailboxOpcodes.length])

/-- GET_LOG: the Command Effects Log, the effect of each opcode as the standard codes it (R438). -/
def execGetLog (ld : Nat) (commandEffects : Bool) (s : State) : Host.Outcome State Fault Refusal :=
  command s (fun s =>
    if !commandEffects then answer s ld cxlInvalidInput []
    else answer s ld cxlSuccess ((mailboxOpcodes.map (fun o => [o, Config.standardAnswer (65536 + o)])).flatten))

/-- IDENTIFY_MEMORY_DEVICE: total, volatile and persistent capacity, LSA size, poison list limit (R438). -/
def execIdentifyMemoryDevice (ld : Nat) (s : State) : Host.Outcome State Fault Refusal :=
  command s (fun s =>
    let c := (ldOf s ld).capacity
    answer s ld cxlSuccess [c, c, 0, 0, 1024])

/-- GET_HEALTH_INFO: DEGRADED, CAL_OVERRIDE, and life used, which reports flash wear that no rule lets be computed (R438). -/
def execGetHealthInfo (ld : Nat) (s : State) : Host.Outcome State Fault Refusal :=
  command s (fun s => answer (spend s 1) ld cxlSuccess
    [flag (degraded s), flag (calOverridden s), Config.freeNat s.free % 101])

/-- GET_ALERT_CONFIGURATION (R438). -/
def execGetAlertConfiguration (ld : Nat) (s : State) : Host.Outcome State Fault Refusal :=
  command s (fun s => answer s ld cxlSuccess (ldOf s ld).thresholds)

/-- SET_ALERT_CONFIGURATION (R438). -/
def execSetAlertConfiguration (ld : Nat) (thresholds : List Nat) (s : State) : Host.Outcome State Fault Refusal :=
  command s (fun s => answer (modLd s ld (fun d => { d with thresholds := thresholds })) ld cxlSuccess [])

/-! ### Poison (R439) -/

/-- Poisoned 64-byte units of a committed range of this hub that a tenant may read, and its LOST pages, each with its DPA
and length, inside a named DPA range. -/
def rangePoisons (s : State) (ld dpa len : Nat) (e : Nat × Decoder) : List (Nat × Nat) :=
  let m := hdmOf s ld e.1
  let size := e.2.size / e.2.ways
  if m.target != hubNode s || !m.valid then []
  else
    let named (a n : Nat) : Bool := decide (a < dpa + len) && decide (dpa < a + n)
    let toDpa (off : Nat) : Nat := e.2.dpaBase + (off - m.saBase)
    let inside (off : Nat) : Bool := decide (m.saBase ≤ off) && decide (off < m.saBase + size)
    let units := (s.store.poison.filter (fun u => inside (64 * u) && permits s m.tenant (64 * u) 64 false
      && !rangeGone s (64 * u) 64)).map (fun u => (toDpa (64 * u), 64))
    let lost := (s.store.pages.filter (fun p => p.2.phase == .lost && inside (p.1 * Config.pageBytes)
      && pageAllows s m.tenant false p.2)).map (fun p => (toDpa (p.1 * Config.pageBytes), Config.pageBytes))
    (units ++ lost).filter (fun x => named x.1 x.2)

/-- The poison of a named DPA range of a logical device, in DPA order. -/
def poisonList (s : State) (ld dpa len : Nat) : List (Nat × Nat) :=
  sortBy (fun a b => decide (a.1 < b.1)) (((decodersOf s ld).map (rangePoisons s ld dpa len)).flatten)

/-- Whether a DPA lies in a committed decoder. -/
def dpaKnown (s : State) (ld dpa : Nat) : Bool := (dpaHit s ld dpa).isSome

/-- GET_POISON_LIST: 1,024 records a response, More Records when more remain (R439). -/
def execGetPoisonList (ld dpa len : Nat) (s : State) : Host.Outcome State Fault Refusal :=
  command s (fun s =>
    if !dpaKnown s ld dpa then answer s ld cxlInvalidInput []
    else
      let l := poisonList s ld dpa len
      answer s ld cxlSuccess ([flag (decide (1024 < l.length)), min 1024 l.length]
        ++ ((l.take 1024).map (fun x => [x.1, x.2])).flatten))

/-- INJECT_POISON: where the image permits it and no Saffron tenant is bound, one 64-byte unit of this hub is marked (R439,
R498). -/
def execInjectPoison (ld dpa : Nat) (s : State) : Host.Outcome State Fault Refusal :=
  command s (fun s =>
    if !((s.boot.image.map (·.injectOk)).getD false) || saffronBound s then answer s ld cxlUnsupported []
    else match dpaHit s ld dpa with
      | none => answer s ld cxlInvalidInput []
      | some (d, sa) =>
        let m := hdmOf s ld d
        let off := saOff sa / 64 * 64
        if saNode sa != hubNode s then answer s ld cxlUnsupported []
        else if !m.valid || !permits s m.tenant off 64 true then
          answer (cxlRefuse s ld m.tenant off) ld cxlInvalidInput []
        else answer (if rangeGone s off 64 then s else poisonUnit (dropRows s off 64) (off / 64)) ld cxlSuccess [])

/-- A tag that no host request carries, for the write of a Clear Poison. -/
def ownTag (s : State) : Nat := 65536 + maxNat (s.cxl.requests.map (·.tag))

/-- CLEAR_POISON writes the 64 bytes given, as a write through the decoder does (R439, R605). -/
def execClearPoison (ld dpa : Nat) (data : List Byte) (s : State) : Host.Outcome State Fault Refusal :=
  command s (fun s => match dpaHit s ld dpa with
    | none => answer s ld cxlInvalidInput []
    | some (d, sa) =>
      let m := hdmOf s ld d
      let off := saOff sa / 64 * 64
      let near := saNode sa == hubNode s
      let bytes := exactly 64 data
      if !m.valid || (near && !permits s m.tenant off 64 true) then answer (cxlRefuse s ld m.tenant off) ld cxlInvalidInput []
      else
        let tag := ownTag s
        let r : CxlRequest := { tag := tag, ld := ld, write := true, dpa := dpa, len := 64, dropped := true }
        let s := { s with cxl := { s.cxl with requests := s.cxl.requests ++ [r] } }
        let s := if near then serveOrHold s off (.cxlWrite ld tag off m.tenant bytes)
                 else proxy s ld tag m.tenant (saOf (saNode sa) off) 64 (some bytes)
        answer s ld cxlSuccess [])

/-- GET_SCAN_MEDIA_CAPABILITIES: the time of a scan, which no rule states (R439). -/
def execGetScanMediaCapabilities (ld dpa _len : Nat) (s : State) : Host.Outcome State Fault Refusal :=
  command s (fun s =>
    if !dpaKnown s ld dpa then answer s ld cxlInvalidInput []
    else answer (spend s 1) ld cxlSuccess [Config.freeNat s.free])

/-- SCAN_MEDIA scrubs a range and keeps every unit it finds uncorrectable (R439). -/
def execScanMedia (ld dpa len : Nat) (s : State) : Host.Outcome State Fault Refusal :=
  command s (fun s =>
    if !dpaKnown s ld dpa then answer s ld cxlInvalidInput []
    else answer (modLd s ld (fun d => { d with scanned := (poisonList s ld dpa len).map (·.1) })) ld cxlBackground [])

/-- GET_SCAN_MEDIA_RESULTS (R439). -/
def execGetScanMediaResults (ld : Nat) (s : State) : Host.Outcome State Fault Refusal :=
  command s (fun s => answer s ld cxlSuccess (ldOf s ld).scanned)

/-- Tenants bound to a logical device. -/
def ldTenants (s : State) (ld : Nat) : Nat := (s.comp.live.tenantBinds.filter (fun b => b.ld == ld)).length

/-- The output of GET_HUB_INFO (R443). -/
def hubInfo (s : State) (ld : Nat) : List Byte :=
  leBytes 2 (hubNode s) ++ leBytes 1 (domainHubs s).length ++ leBytes 1 s.boot.slotUsed
    ++ leBytes 1 s.boot.fwMajor ++ leBytes 1 s.boot.fwMinor ++ zeros 2 ++ leBytes 16 s.boot.fnReady.toNat
    ++ leBytes 2 ld ++ leBytes 2 (ldTenants s ld)

/-- GET_HUB_INFO (R443). -/
def execGetHubInfo (ld : Nat) (s : State) : Host.Outcome State Fault Refusal :=
  command s (fun s => answer s ld cxlSuccess ((hubInfo s ld).map (·.toNat)))

/-! ### DOE and CDAT (R435, R436) -/

/-- DOE protocols, in the order that R435 lists them. -/
def doeDiscovery : Nat := 0
def doeCdat : Nat := 2
def doeCompliance : Nat := 3

/-- DOE_DISCOVERY: the four protocols; it answers from port ready (R435). -/
def execDoeDiscovery (ld : Nat) (s : State) : Host.Outcome State Fault Refusal :=
  act s (fun s => if ldUp s ld then emit s (.doe ld doeDiscovery [0, 1, 2, 3]) else s)

/-- CDAT_TABLE_ACCESS: one DSMAS entry over the capacity, and read latency, write latency, read and write bandwidth in ns and
MB/s (R436). -/
def execCdatTableAccess (ld : Nat) (s : State) : Host.Outcome State Fault Refusal :=
  act s (fun s =>
    let bw := if bit s.ctrl.cxl.toNat (ld / 16) then 29600 else 59300
    if ldUp s ld then emit s (.doe ld doeCdat [(ldOf s ld).capacity, 520, 480, bw, bw]) else s)

/-- COMPLIANCE; its content is that of the standard (R435). -/
def execCompliance (ld : Nat) (s : State) : Host.Outcome State Fault Refusal :=
  act s (fun s => if ldUp s ld then emit s (.doe ld doeCompliance [Config.standardAnswer 2]) else s)

end Sys2Proof.Machine
end

