-- ==== Sys2Proof/Machine/Power.lean ====
section
/-! DEFINITION. Firmware cores, the power and thermal loops, telemetry, and calibration tracking (chapters 13 to 15). -/

namespace Sys2Proof.Machine

open Sys2Proof

/-! ### Firmware cores (R544, R545) -/

/-- Changes a firmware core. -/
def modCore (s : State) (core : Nat) (f : Core → Core) : State :=
  { s with power := { s.power with cores := s.power.cores.modify core f } }

/-- A firmware core. -/
def coreAt (s : State) (core : Nat) : Core := (s.power.cores[core]?).getD Core.empty

/-- READY_VEC bit of a firmware core: 1 to 3 (R531). -/
def coreReady (s : State) (core : Nat) (v : Bool) : State := if core < 3 then putReady s (core + 1) v else s

/-- What a restart of a core stops (R488, R545). -/
def stopCore (s : State) (core : Nat) : State :=
  if core == securityCore then
    { s with sec := { s.sec with nextLeaf := s.sec.reserved.getD s.sec.nextLeaf,
                                 spdm := s.sec.spdm.map (fun e => (e.1, { e.2 with handshakes := 0, sessions := 0 })) } }
  else if core == powerCore then { s with power := { s.power with guard := true } }
  else s

/-- What a failed core leaves (R523, R545). -/
def coreGone (s : State) (core : Nat) (cause : Option (Nat × Nat)) : State :=
  if core == powerCore then
    { s with power := { s.power with guard := false, romLoop := true, vddMv := 750, target := 750 } }
  else if core == schedulerCore then putReady s 5 false
  else if 3 ≤ core then isolateBlock s .cluster (core - 3) 0 cause
  else s

/-- A core is FAILED; CAUSE names the record of its last restart (R545). -/
def failCore (s : State) (core : Nat) : State :=
  let cause : Option (Nat × Nat) := some (1, (coreAt s core).record)
  let s := modCore s core (fun c => { c with run := .failed })
  let s := raise s 0x0502 { kind := .core, inst := core, arg := core, cause := cause }
  coreGone (coreReady (logPoint s core 0 1 0) core false) core cause

/-- A core is restarted: 1 watchdog, 2 trap, 3 ECC. Its third restart within 60 s fails it (R544, R545). -/
def restartCore (s : State) (core cause : Nat) : State :=
  let c := coreAt s core
  if c.run == .notLoaded || c.run == .failed then s
  else
    let recent := s.now :: c.recent.filter (fun t => decide (s.now < t + 60000000000))
    let s := logPoint (raise s 0x0501 { kind := .core, inst := core, arg := cause }) core 0 0 cause
    let record := ((newestFault s 1).map (·.seq)).getD 0
    let s := modCore s core (fun c => { c with run := .restarting, cause := cause, restarts := min 0xFFFF (c.restarts + 1),
                                               recent := recent, record := record })
    let s := coreReady (stopCore s core) core false
    if 3 ≤ recent.length then failCore s core else s

/-- WATCHDOG_EXPIRY (R544). -/
def execWatchdogExpiry (core : Nat) (s : State) : Host.Outcome State Fault Refusal :=
  act s (fun s => checkReady (healthEvents s (restartCore s core 1)))

/-- CORE_TRAP (R544). -/
def execCoreTrap (core : Nat) (s : State) : Host.Outcome State Fault Refusal :=
  act s (fun s => checkReady (healthEvents s (restartCore s core 2)))

/-- CORE_ECC_ERROR (R544). -/
def execCoreEccError (core : Nat) (s : State) : Host.Outcome State Fault Refusal :=
  act s (fun s => checkReady (healthEvents s (restartCore s core 3)))

/-- CORE_RESTART_TIMEOUT: a core not running again within 5 ms is FAILED (R545). -/
def execCoreRestartTimeout (core : Nat) (s : State) : Host.Outcome State Fault Refusal :=
  act s (fun s => if (coreAt s core).run == .restarting then checkReady (healthEvents s (failCore s core)) else s)

/-- Sets QUEUES once the scheduler core runs and every journal with a copy in service has started (R521 step 14, R531). -/
def startQueues (s : State) : State :=
  let due := s.boot.state == 1 && coreRuns s schedulerCore && s.flush.area.isNone
    && [0, 1, 2, 3].all (fun k => !hasCopy (journalOf s k) || readyBit s (112 + k))
  if due then putReady s 5 true else s

/-- What a core that runs takes up: its READY_VEC bit, its mailbox messages, and the composition changes that waited (R529,
R545, R549). -/
def coreUp (s : State) (core : Nat) : State :=
  let s := coreReady (modCore s core (fun c => { c with run := .running })) core true
  let s := serveWaiting serveMessage s core
  if core == schedulerCore then startQueues (retryComp s)
  else if core == powerCore then { s with power := { s.power with guard := false, romLoop := false } }
  else s

/-- CORE_RESTART_DONE (R545). -/
def execCoreRestartDone (core : Nat) (s : State) : Host.Outcome State Fault Refusal :=
  act s (fun s => if (coreAt s core).run == .restarting then checkReady (healthEvents s (coreUp s core)) else s)

/-! ### Power and thermal loops (R554 to R558) -/

/-- The floor of VDD_ENG in mV: 0.65 V while any accepted descriptor is incomplete, else 0.60 V (R555). -/
def vddFloor (s : State) : Nat := if s.works.isEmpty then 600 else 650

/-- Moves the setpoint, between its floor and VMAX. -/
def setTarget (s : State) (mv : Nat) : State :=
  { s with power := { s.power with target := min (vMax s) (max (vddFloor s) mv) } }

/-- Changes the admission fractions, each from 1/64 to 64/64 (R556). -/
def setAdmit (s : State) (f : Nat → Nat) : State :=
  let fractions := s.power.fractions.map (fun a => min 64 (max 1 (f a)))
  if fractions == s.power.fractions then s
  else
    let packed := (fractions.map (fun a => a - 1)).foldr (fun a n => a + 64 * n) 0
    logPoint { s with power := { s.power with fractions := fractions } } powerCore 0 3 packed

/-- PACKAGE_POWER_CAP: the package loop, run by the power core (R554). -/
def execPackagePowerCap (watts : Nat) (belowFor10ms : Bool) (s : State) : Host.Outcome State Fault Refusal :=
  act s (fun s =>
    if !coreRuns s powerCore then s
    else if limitW s < watts then
      if vddFloor s < s.power.target then setTarget s (s.power.target - 50) else setAdmit s (· - 4)
    else if belowFor10ms && watts * 100 ≤ limitW s * 95 then
      if s.power.fractions.any (fun a => decide (a < 64)) then setAdmit s (· + 4) else setTarget s (s.power.target + 10)
    else s)

/-- The hottest sensor of a region in °C and its number, those left out of the loops excepted (R539, R554). -/
def hottestOf (s : State) (region : Nat) (temps : List Nat) : Option (Nat × Nat) :=
  bestBy (·.1) ((temps.zip ((List.range 12).map (· + 12 * region))).filter (fun x => !s.units.sensorsOut.contains x.2))

/-- Changes the admission fraction of one region. -/
def setRegionAdmit (s : State) (region : Nat) (f : Nat → Nat) : State :=
  { s with power := { s.power with fractions := s.power.fractions.modify region (fun a => min 64 (max 1 (f a))) } }

/-- REGION_THERMAL: the thermal loop of one region (R554). -/
def execRegionThermal (region : Nat) (temps : List Nat) (s : State) : Host.Outcome State Fault Refusal :=
  act s (fun s => match hottestOf s region temps with
    | none => s
    | some (t, n) =>
      let s := { s with power := { s.power with hottest := s.power.hottest.set region t, sensor := s.power.sensor.set region n } }
      if !coreRuns s powerCore then s
      else if tjTarget s < t then
        let s := logPoint (setRegionAdmit s region (· - 1)) powerCore 0 4 region
        if tjTarget s + 5 < t then setTarget s (s.power.target - 10) else s
      else if t + 3 ≤ tjTarget s then setRegionAdmit s region (· + 1)
      else s)

/-- RAIL_TRACKING: the power core sends the setpoint over AVSBus (R555). -/
def execRailTracking (s : State) : Host.Outcome State Fault Refusal :=
  act s (fun s =>
    if !coreRuns s powerCore then s
    else
      let s := setTarget s s.power.target
      let mv := s.power.target
      let s := if mv == s.power.vddMv then s else logPoint { s with power := { s.power with vddMv := mv } } powerCore 0 2 mv
      emit s (.avs mv))

/-- POWER_GUARD: while the power core restarts, the hardware halves every admission fraction at 5% over the limit (R545). -/
def execPowerGuard (watts : Nat) (s : State) : Host.Outcome State Fault Refusal :=
  act s (fun s => if s.power.guard && limitW s * 105 < watts * 100 then setAdmit s (· / 2) else s)

/-! ### Telemetry (R506, R507, R559, R599) -/

/-- PWR_STATE (R560). -/
def pwrState (s : State) : Nat :=
  field s.power.vddMv 0 10 + field (flag (s.power.vddMv == vddFloor s)) 10 1 + field (flag s.power.romLoop) 11 1
    + field (flag s.power.guard) 12 1 + field ((s.power.fractions.map (fun a => a - 1)).foldr (fun a n => a + 64 * n) 0) 16 24

/-- THERM_STATE of a region (R560). -/
def thermState (s : State) (k : Nat) : Nat :=
  let hot := (s.power.hottest[k]?).getD 0
  let out := sumNat (((List.range 12).filter (fun i => s.units.sensorsOut.contains (12 * k + i))).map (fun i => 2 ^ i))
  field hot 0 8 + field ((s.power.sensor[k]?).getD 0) 8 6 + field (flag (decide (tjTarget s < hot))) 14 1 + field out 16 12

/-- POWER_TELEMETRY_WINDOW: package power in quanta of 4 W, of 8 W while R498 applies, and the rails' voltages and power in the
same quanta (R507, R599). -/
def execPowerTelemetryWindow (watts : Nat) (rails : List (Nat × Nat)) (s : State) : Host.Outcome State Fault Refusal :=
  act s (fun s =>
    let q := if s.sec.saffronOn then 8 else 4
    { s with
      sec := { s.sec with power := watts / q, coarse := s.sec.saffronOn },
      power := { s.power with rails := rails.map (fun r => (r.1, r.2 / q)), shownPwr := pwrState s,
                              shownTherm := (List.range 4).map (thermState s) } })

/-- Full scale of a performance counter in 1 ms (R506). -/
def perfScale (i : Nat) : Nat :=
  match i with
  | 0 => 16400000000
  | 1 => 614000000
  | 2 => 115200000
  | 3 => 1080000000
  | 4 => 512000000
  | 5 => 115200000
  | 6 => 36040000000
  | _ => 1000000

/-- LEVEL of a count (R506). -/
def perfLevel (i count : Nat) : Nat := min 255 (256 * count / perfScale i)

/-- PERF_WINDOW: the levels of the 1 ms window that ends (R506). -/
def execPerfWindow (counts : List (Nat × List Nat)) (s : State) : Host.Outcome State Fault Refusal :=
  act s (fun s =>
    let levels := counts.foldl (fun t e => (List.range 8).foldl (fun t i =>
      Tbl.put t (e.1 * 8 + i) (perfLevel i ((e.2[i]?).getD 0))) t) []
    { s with sec := { s.sec with perf := levels, window := (s.now / 1000000 - 1) % 2 ^ 32 } })

/-! ### Calibration (R536 to R539) -/

/-- Key of a calibration item and instance. -/
def calKey (item inst : Nat) : Nat := item * 256 + inst

/-- CAL_TRACK: the tracked drifts (R536). -/
def execCalTrack (drifts : List (Nat × Nat × Int)) (s : State) : Host.Outcome State Fault Refusal :=
  act s (fun s => { s with boot := { s.boot with
    drift := drifts.foldl (fun t d => Tbl.put t (calKey d.1 d.2.1) d.2.2) s.boot.drift } })

/-- Whether the image holds a CALIBRATION section. -/
def hasCal (s : State) : Bool := (s.boot.image.bind (·.cal)).isSome

/-- CAL_OVERRIDE: 1 power, 2 temperature, 3 drift; an image without the section never raises it (R538). -/
def execCalOverride (cause : Nat) (s : State) : Host.Outcome State Fault Refusal :=
  act s (fun b =>
    if !hasCal b || b.boot.calRaised then b
    else
      let s := { b with boot := { b.boot with calRaised := true, calCause := cause, calCount := min 0xFFFF (b.boot.calCount + 1) } }
      healthEvents b (logPoint (raise s 0x0504 { arg := cause }) powerCore 0 6 cause))

/-- CAL_OVERRIDE_CLEAR (R538). -/
def execCalOverrideClear (s : State) : Host.Outcome State Fault Refusal :=
  act s (fun b => healthEvents b { b with boot := { b.boot with calRaised := false } })

/-- SENSOR_OUT: a sensor leaves every thermal loop until the next power-up (R539). -/
def execSensorOut (sensor : Nat) (s : State) : Host.Outcome State Fault Refusal :=
  act s (fun b =>
    if 48 ≤ sensor || b.units.sensorsOut.contains sensor then b
    else
      let s := { b with units := { b.units with sensorsOut := b.units.sensorsOut ++ [sensor] } }
      healthEvents b (logPoint (raise s 0x0503 { kind := .sensor, inst := sensor, arg := sensor }) powerCore 0 5 sensor))

end Sys2Proof.Machine
end

