-- ==== Sys2Proof/Machine/ControlRegs.lean ====
section
/-! DEFINITION. The registers that the Vilex image supplies, by their offsets, and the image values they take (R606). -/

namespace Sys2Proof.Machine

open Sys2Proof

/-- The registers with fields whose Reset is IMG and whose value CONTROLS, POWER or FABRIC gives. -/
inductive CtrlReg where
  | ats | compress | sched | prefetch | exch | clove | pool | atomic | publish | ifl | cxl | comp | pwr
deriving DecidableEq, Repr, Inhabited

/-- Every one of them. -/
def ctrlRegs : List CtrlReg :=
  [.ats, .compress, .sched, .prefetch, .exch, .clove, .pool, .atomic, .publish, .ifl, .cxl, .comp, .pwr]

/-- Offset in the Hub Control Space. -/
def ctrlOffset : CtrlReg → Nat
  | .ats => 0x02100010
  | .compress => 0x02200008
  | .sched => 0x02300008
  | .prefetch => 0x02300010
  | .exch => 0x02500008
  | .clove => 0x02500010
  | .pool => 0x02700000
  | .atomic => 0x02800008
  | .publish => 0x02800030
  | .ifl => 0x02900008
  | .cxl => 0x02A00008
  | .comp => 0x02B00000
  | .pwr => 0x02E00000

/-- Its word. -/
def ctrlAt (s : State) : CtrlReg → Word
  | .ats => s.ctrl.ats
  | .compress => s.ctrl.compress
  | .sched => s.ctrl.sched
  | .prefetch => s.ctrl.prefetch
  | .exch => s.ctrl.exch
  | .clove => s.ctrl.clove
  | .pool => s.ctrl.pool
  | .atomic => s.ctrl.atomic
  | .publish => s.ctrl.publish
  | .ifl => s.ctrl.ifl
  | .cxl => s.ctrl.cxl
  | .comp => s.ctrl.comp
  | .pwr => s.ctrl.pwr

/-- Sets its word. -/
def setCtrl (s : State) (r : CtrlReg) (w : Word) : State :=
  let c := s.ctrl
  { s with ctrl := match r with
    | .ats => { c with ats := w }
    | .compress => { c with compress := w }
    | .sched => { c with sched := w }
    | .prefetch => { c with prefetch := w }
    | .exch => { c with exch := w }
    | .clove => { c with clove := w }
    | .pool => { c with pool := w }
    | .atomic => { c with atomic := w }
    | .publish => { c with publish := w }
    | .ifl => { c with ifl := w }
    | .cxl => { c with cxl := w }
    | .comp => { c with comp := w }
    | .pwr => { c with pwr := w } }

/-- Its RWL fields, each a lowest bit and a width. -/
def rwlFields : CtrlReg → List (Nat × Nat)
  | .ats => [(0, 1), (16, 24)]
  | .compress => [(0, 1), (1, 1), (2, 1)]
  | .sched => [(0, 11), (16, 4)]
  | .prefetch => [(0, 1), (8, 11)]
  | .exch => [(0, 1), (1, 1), (16, 16)]
  | .clove => [(0, 1)]
  | .pool => [(0, 10), (10, 10), (20, 4), (24, 16)]
  | .atomic => []
  | .publish => [(0, 20), (20, 1)]
  | .ifl => [(0, 20), (20, 1)]
  | .cxl => [(4, 1), (16, 16), (32, 16)]
  | .comp => [(0, 4), (16, 14)]
  | .pwr => [(0, 11), (16, 10), (32, 7)]

/-- Its fields that CONTROLS gives and that are RO. -/
def roFields : CtrlReg → List (Nat × Nat)
  | .atomic => [(0, 1)]
  | .cxl => [(0, 4)]
  | _ => []

/-- The fields of a word taken from another; every other bit stays. -/
def takeFields (old new : Word) (fields : List (Nat × Nat)) : Word :=
  BitVec.ofNat 64 (fields.foldl (fun w f => setBits w f.1 f.2 (bits new.toNat f.1 f.2)) old.toNat)

/-- A register as CONTROLS names it; one that it does not name stays at its defaults. -/
def controlValue (i : Image) (s : State) (r : CtrlReg) : State :=
  match i.controls.find? (fun e => e.1 == ctrlOffset r) with
  | none => s
  | some e => setCtrl s r (takeFields (ctrlAt s r) (BitVec.ofNat 64 e.2) (rwlFields r ++ roFields r))

/-- A field set to a number. -/
def putField (s : State) (r : CtrlReg) (lo n v : Nat) : State :=
  setCtrl s r (BitVec.ofNat 64 (setBits (ctrlAt s r).toNat lo n v))

/-- Fields that the image gives outside their ranges take the value of that case (R606). -/
def settleControls (s : State) : State :=
  let s := putField s .ats 16 24 (atsTimeoutUs s)
  let s := putField (putField s .sched 0 11 (dwellUs s)) .sched 16 4 (schedDepth s)
  let s := putField s .prefetch 8 11 (ranged s.ctrl.prefetch 8 11 4 1024 64)
  let s := putField s .exch 16 16 (ranged s.ctrl.exch 16 16 5 10000 40)
  let s := putField s .pool 0 10 (poolLow s)
  let s := putField (putField (putField s .pool 10 10 (poolHigh s)) .pool 20 4 (moveShare s)) .pool 24 16 (returnMs s)
  let s := putField s .publish 0 20 (leaseMs s)
  let s := putField s .ifl 0 20 (iflTimeoutUs s)
  let s := putField (putField s .cxl 16 16 (ranged s.ctrl.cxl 16 16 100 50000 4000)) .cxl 32 16 (ranged s.ctrl.cxl 32 16 10 60000 1000)
  let s := putField (putField s .comp 0 4 (copyShare s)) .comp 16 14 (ranged s.ctrl.comp 16 14 1 10000 10)
  putField (putField (putField s .pwr 0 11 (limitW s)) .pwr 16 10 (vMax s)) .pwr 32 7 (tjTarget s)

/-- Every IMG field takes its image value: CONTROLS, the power limit from POWER, this hub's votes from FABRIC (R524, R606). -/
def loadControls (s : State) : State :=
  match s.boot.image with
  | none => s
  | some i =>
    let s := ctrlRegs.foldl (controlValue i) { s with ctrl := Controls.default }
    settleControls (putField (putField s .pwr 0 11 i.limitW) .ifl 24 4 (votesOf s (hubNode s)))

end Sys2Proof.Machine
end

