-- ==== Sys2Proof/Machine/Boot.lean ====
section
/-! DEFINITION. Start-up: image slots, the configuration they load, the starting composition, units that become ready, the
restore of a flush, and the firmware fetch (chapter 14, R212, R458). -/

namespace Sys2Proof.Machine

open Sys2Proof

/-! ### Validity of an image (R60, R322, R423, R497, R518) -/

/-- Sections that an image must hold (R517). -/
def requiredSections : List Nat := [0x01, 0x02, 0x03, 0x04, 0x09, 0x0A, 0x0B, 0x0D, 0x0E]

/-- Instances and range of the user offset of a calibration item (R534). -/
def calRange (item : Nat) : Option (Nat × Nat) :=
  match item with
  | 1 => some (8, 16)
  | 2 => some (12, 10)
  | 3 => some (12, 16)
  | 4 => some (32, 16)
  | 5 => some (48, 4)
  | 6 => some (64, 3)
  | 7 => some (48, 12)
  | 8 => some (4, 6)
  | 9 => some (7, 20)
  | _ => none

/-- Whether a calibration entry names an item and instance, with an offset in its range. -/
def calEntryOk (e : CalEntry) : Bool :=
  match calRange e.item with
  | none => false
  | some r => decide (e.inst < r.1) && decide (e.offset.natAbs ≤ r.2)

/-- Whether a template lies in its ranges (R134, R172). -/
def templateOk (t : Template) : Bool := decide (t.shape < 14) && decide (6 ≤ t.log2n) && decide (t.log2n ≤ 16) && decide (t.region < 4)

/-- Whether the image clears IFL_CTRL.ENCRYPT. -/
def encryptClear (i : Image) : Bool :=
  match i.controls.find? (fun e => e.1 == ctrlOffset .ifl) with
  | none => true
  | some e => !bit e.2 20

/-- Quotas of the tenant entries, by tenant and tier (R318). -/
def startQuotas (i : Image) : Tbl Quota :=
  i.tenants.foldl (fun t e => Tbl.put (Tbl.put (Tbl.put t (4 * e.tenant) e.near) (4 * e.tenant + 1) e.far) (4 * e.tenant + 2) e.deep) []

/-- The composition of an image before its starting commands. -/
def startComposition (i : Image) : Composition := { Composition.empty with quotas := startQuotas i, routes := i.routes }

/-- The hub as it would stand with an image, to check it. -/
def withImage (s : State) (i : Image) : State :=
  modLive { s with boot := { s.boot with image := some i } } (fun _ => startComposition i)

/-- Whether a command may stand in the starting composition (R517). -/
def startKind : CompCmd → Bool
  | .bindTenant .. => true
  | .setHdmMap .. => true
  | .bindQueue .. => true
  | .putTable .. => true
  | .putIndex .. => true
  | .setKvPool .. => true
  | .kvAttach .. => true
  | _ => false

/-- Whether a starting command would answer OK: the statuses of R451 and R497, those apart that ask what the fabric shows;
the envelope bounds what comes after the start (R525). -/
def startOk (s : State) (c : CompCmd) : Bool :=
  startKind c && !namesAbsent s c && !bindUnsafe s c && !formatBad s c && !passesLimit s c && !conflicts s c && !waitsForRings s c

/-- Whether all starting commands would answer OK, applied in order. -/
def startsOk : State → List CompCmd → Bool
  | _, [] => true
  | s, c :: t => startOk s c && startsOk (applyComp s c) t

/-- Whether an image is valid under R518, its signature apart. -/
def imageValid (b : State) (i : Image) : Bool :=
  let s := withImage b i
  i.formatMajor == 1 && requiredSections.all (fun n => (i.sectionIds.filter (· == n)).length == 1) && i.sectionsOk
    && i.baseNode % 16 == 0 && i.members.contains (hubNode s)
    && (dedup (i.tenants.map (·.tenant))).length == i.tenants.length && i.templates.all templateOk
    && [0, 1, 2].all (fun t => !floorsPass s 4096 t 0)
    && i.members.all (fun n => n == hubNode s || Tbl.has i.routes n) && i.hopsOk
    && !(i.tenants.any (·.saffron) && encryptClear i)
    && ((i.cal.map (fun c => c.entries.all calEntryOk)).getD true)
    && startsOk s i.starting

/-- BOOT_STATE result of a slot, and the check that failed: 0 to 5 as R483 orders them, 6 unreadable, 7 R518 (R518, R540). -/
def slotResult (s : State) (read : SlotRead) : Nat × Nat :=
  match read with
  | .unreadable => (2, 6)
  | .object o i => match failedCheck s 1 o with
    | some 5 => (4, 5)
    | some c => (3, c)
    | none => if imageValid s i then (1, 0) else (5, 7)

/-! ### Journals and composition at start (R202, R458, R459) -/

/-- Journal copies as they are placed at start: each primary in a stack of its region, each mirror in the next populated
channel after it (R202, R332). -/
def placeJournals (s : State) : State :=
  let place (k : Nat) : Journal :=
    let j := Journal.home k
    { j with primary := primaryHome s j, mirror := mirrorHome s k }
  { s with journals := [place 0, place 1, place 2, place 3] }

/-- Places the ring pages of a binding at its SAs, and starts the queue (R172, R212). -/
def rebuildRings (s : State) (queue : Nat) (b : QueueBind) : State :=
  let s := ((List.range (ringPages (ringEntries b))).map (· + pageOf (saOff b.sqBase))).foldl (placeRing b.tenant b.region) s
  modQueue s queue (fun _ => freshQueue b.template)

/-- Whether two bindings of a queue are of one tenant, shape, size and journal: the flushed content of one is that of the
other. -/
def sameQueue (a b : QueueBind) : Bool :=
  a.tenant == b.tenant && a.shape == b.shape && a.log2n == b.log2n && a.region == b.region

/-- The binding that a starting BIND_QUEUE gives, at the former SAs of the queue's rings where a flush holds them (R212). -/
def formerBind (s : State) (queue tenant template irqLd : Nat) : Option QueueBind :=
  match templateOf s template, s.flush.area.bind (fun f => Tbl.find f.binds queue) with
  | some p, some b =>
    let new : QueueBind :=
      { tenant := tenant, template := template, shape := p.shape, log2n := p.log2n - 6, region := p.region, vector := p.vector,
        irqLd := irqLd, sqBase := b.sqBase, cqBase := b.cqBase }
    if sameQueue b new then some new else none
  | _, _ => none

/-- Places the rings that keep their SAs, before any other ring takes them. -/
def placeFormer (s : State) (c : CompCmd) : State :=
  match c with
  | .bindQueue q t x ld => match formerBind s q t x ld with
    | none => s
    | some b => rebuildRings s q b
  | _ => s

/-- A starting command in force. -/
def startCommand (s : State) (c : CompCmd) : State :=
  match c with
  | .bindQueue q t x ld => match formerBind s q t x ld with
    | none => applyComp s c
    | some b => modLive s (fun l => { l with queueBinds := Tbl.put l.queueBinds q b })
  | _ => applyComp s c

/-- The composition of a record: its rings are rebuilt where they stood, and moves that power loss cut end (R458, R466). -/
def restoreRecord (s : State) (c : Composition) : State :=
  let cut (m : ShardMove) : ShardMove :=
    if m.step < 4 && (m.oldNode == hubNode s || m.newNode == hubNode s) then { m with step := 0 } else m
  let s := modLive s (fun _ => { c with moves := c.moves.map cut })
  let s := c.queueBinds.foldl (fun s e => rebuildRings s e.1 e.2) s
  { s with sec := { s.sec with saffronOn := saffronBound s } }

/-- A queue whose state did not survive a power loss restarts with SEQ 0, its whole history lost (R208, R580). -/
def loseHistory (s : State) (queue : Nat) : State :=
  let s := modQueue s queue (fun x =>
    { x with lost := true, lostFirst := 0, lostLast := BitVec.allOnes 48, lostValid := true, history := true })
  raise s 0x0402 { addr := queue, arg := 2 ^ 48 - 1, tenant := (bindOf s queue).map (·.tenant) }

/-- The composition record that a power-up may use: that of the image loaded (R459). -/
def usableRecord (s : State) : Option Composition :=
  match s.comp.record with
  | none => none
  | some (h, c) => if h == imageHash s then some c else none

/-- Step 10 of R521: the composition of the record or of the image; without a flush of an earlier power-up the queues it
binds are lost (R208, R458). -/
def compose (s : State) : State :=
  let s := match usableRecord s with
    | some c => restoreRecord s c
    | none => match s.boot.image with
      | none => s
      | some i => i.starting.foldl startCommand (i.starting.foldl placeFormer s)
  let s := if s.flush.area.isNone && decide (1 < s.comp.bootGen) then (s.comp.live.queueBinds.map (·.1)).foldl loseHistory s else s
  keepRecord (updateRole { s with boot := { s.boot with applied := true } })

/-- Whether step 10 is due: the image is loaded, and every stack and flash channel in service is ready (R521). -/
def composeDue (s : State) : Bool :=
  s.boot.state == 1 && !s.boot.applied && (List.range 8).all (fun u => !unitIn s .near u || readyBit s (16 + u))
    && (List.range 32).all (fun u => !unitIn s .deep u || readyBit s (36 + u))

/-- Takes step 10 once it is due. -/
def tryCompose (s : State) : State := if composeDue s then compose s else s

/-! ### SLOT_CHECK (R519 to R521) -/

/-- The phase that a firmware fetch takes up: an address is asked for, unless NETWORK states it, and then what is still
missing (R527, R530). -/
def fetchPhase (s : State) : Nat :=
  if s.boot.fwAccepted.contains 4 then 4
  else if s.boot.address.isNone && !((s.boot.image.map (·.network)).getD false) then 1
  else if s.boot.fwAccepted.contains 0 then 3 else 2

/-- Starts a fetch attempt (R527, R530). -/
def startFetch (s : State) : State :=
  let phase := fetchPhase s
  let s := { s with boot := { s.boot with fwPhase := phase, blocks := 0 } }
  if phase == 4 then s else emit s (.fetch phase)

/-- Step 7 of R521: the image of a slot is loaded, RWL fields take their image values, owner keys go into an empty slot 0
(R484), and IMAGE sets. -/
def loadImage (s : State) (slot svn : Nat) (i : Image) : State :=
  let x := s.sec
  let owner := if bit x.ownerSet 0 then x.ownerSet else x.ownerSet ||| (i.ownerKeys % 16)
  let b := { s.boot with state := 1, slotUsed := slot, fallback := slot != s.boot.active, image := some i, imageSvn := svn,
                         locked := s.boot.locked || i.lock == 2, verified := Tbl.put s.boot.verified 1 svn }
  let s := modLive { s with boot := b, sec := { x with ownerSet := owner } } (fun _ => startComposition i)
  let s := startFetch (putReady (loadControls s) 0 true)
  let s := updateRole (recomputeAuthority s)
  (List.range 12).foldl trainPort s

/-- Records the result of a slot. -/
def slotTried (s : State) (slot result : Nat) : State :=
  { s with boot := if slot == 0 then { s.boot with resultA := result } else { s.boot with resultB := result } }

/-- The slot that is read next: the one that ACTIVE names, then the other (R519). -/
def nextSlot (s : State) : Nat :=
  let first := if s.boot.active == 0 then s.boot.resultA else s.boot.resultB
  if first == 0 then s.boot.active else 1 - s.boot.active

/-- SLOT_CHECK: a valid slot is used; a failed one is recorded, and the second failure leaves no image (R486, R519, R520). -/
def execSlotCheck (slotB : Bool) (read : SlotRead) (s : State) : Host.Outcome State Fault Refusal :=
  act s (fun b =>
    if b.boot.state != 0 || flag slotB != nextSlot b then b
    else
      let second := flag slotB != b.boot.active
      let r := slotResult b read
      let s := slotTried b (flag slotB) r.1
      match read, r.1 with
      | .object o i, 1 => healthEvents b (checkReady (tryCompose (loadImage s (flag slotB) o.svn i)))
      | _, _ =>
        let s := objectFails s 1 r.2
        if second then { s with boot := { s.boot with state := 2, readyN := false } } else s)

/-! ### Units that become ready (R425, R426, R505, R531, R532) -/

/-- Serves the accesses that waited for a unit (R433), and zeroes the locations of scrubbed pages there (R505). -/
def unitServes (s : State) (t : Tier) (u : Nat) : State :=
  let s := { s with store := { s.store with scrubs := s.store.scrubs.filter (fun x => !(x.lost && x.tier == t && x.unit == u)) } }
  (dedup (s.store.held.map (·.1))).foldl (fun s p => match Tbl.find s.store.pages p with
    | none => s
    | some x => if x.tier == t && x.unit == u then releaseHeld s p else s) s

/-- A memory unit is ready. -/
def memoryReady (s : State) (kind : UnitKind) (t : Tier) (u : Nat) : State :=
  match readyIndex kind u with
  | none => s
  | some i => if tierUnits t ≤ u || !unitIn s t u || readyBit s i then s else unitServes (putReady s i true) t u

/-- A CXL link is ready: it is in service with the width and rate it trained to (R425, R426). Rates: 0, 1, 2 for 8, 16 and
32 GT/s. -/
def linkReady (s : State) (h width rate : Nat) : State :=
  let built := builtWidth s h
  if 8 ≤ h || s.boot.state != 1 || !namesInService s (8 + h) || (cxlLink s h).up || !([1, 2, 4, 8, 16].contains width)
      || built < width || 2 < rate then s
  else
    let s := modLink s h (fun l =>
      { l with up := true, width := width, rate := rate, trained := true,
               retrains := if l.trained then min 0xFFFF (l.retrains + 1) else l.retrains })
    let s := if width == built && rate == 2 then s
      else raise s 0x0305 { kind := .cxl, inst := h / 2, arg := width + 256 * rate }
    releaseLink (putReady s (8 + h) true) h

/-- Whether the units that hold a journal's copies are ready. -/
def copiesReady (s : State) (k : Nat) : Bool :=
  let j := journalOf s k
  hasCopy j && ((j.primary.map (fun u => readyBit s (16 + u))).getD true) && ((j.mirror.map (fun u => readyBit s (24 + u))).getD true)

/-- A function or unit that has become ready sets its READY_VEC bit. -/
def unitReady (s : State) (u : ReadyUnit) : State :=
  match u with
  | .hbm n => memoryReady s .hbm .near n
  | .ddr n => memoryReady s .ddr .far n
  | .flash n => memoryReady s .flash .deep n
  | .cxl h w r => linkReady s h w r
  | .clusters => if !readyBit s 4 then s
      else ((List.range 32).filter (fun c => clusterIn s c && coreRuns s (3 + c))).foldl (fun s c => putReady s (68 + c) true) s
  | .journal k => if decide (k < 4) && copiesReady s k then putReady s (112 + k) true else s
  | .mgmtAddress => if s.boot.state == 1 && (s.boot.address.isSome || (s.boot.image.map (·.network)).getD false) then putReady s 6 true else s

/-- UNIT_READY: what the unit completes follows: the starting composition, acceptance, READY_N (R521, R532, R533). -/
def execUnitReady (unit : ReadyUnit) (s : State) : Host.Outcome State Fault Refusal :=
  act s (fun b => healthEvents b (checkReady (startQueues (tryCompose (unitReady b unit)))))

/-- A memory unit that has not trained stays out: its pages are LOST, and at power-up the journals are placed without it
(R522, R331). -/
def excludeMemory (s : State) (kind : UnitKind) (t : Tier) (u : Nat) : State :=
  if tierUnits t ≤ u || !unitIn s t u || ((readyIndex kind u).map (readyBit s)).getD true then s
  else
    let s := raise s 0x0108 { kind := kind, inst := u, arg := 1 }
    let cause := newestRecord s 2
    let x := s.units
    let x := match t with
      | .near => { x with hbm := x.hbm.set u false, hbmStart := if s.boot.applied then x.hbmStart else x.hbmStart.set u false }
      | .far => { x with ddr := x.ddr.modify u (fun d => { d with inService := false }) }
      | .deep => { x with flash := x.flash.modify u (fun f => { f with inService := false }) }
    let hit (a : Tier) (n : Nat) : Bool := a == t && n == u
    let s := releaseLost (loseUnits (loseScrubs { s with units := x } hit) hit kind u cause)
    if s.boot.applied then checkJournals s else placeJournals s

/-- A CXL port that has not trained stays out of service (R522). -/
def excludePort (s : State) (port : Nat) : State :=
  if !portBlockIn s .cxl port || readyBit s (8 + 2 * port) || readyBit s (9 + 2 * port) then s
  else tellChip (portBlockOut (raise s 0x0108 { kind := .cxl, inst := port, arg := 1, level := some 3 }) .cxl port)

/-- UNIT_TRAIN_TIMEOUT (R522). -/
def execUnitTrainTimeout (kind : UnitKind) (unit : Nat) (s : State) : Host.Outcome State Fault Refusal :=
  act s (fun b =>
    let s := match kind with
      | .cxl => excludePort b unit
      | k => match kindTier k with
        | none => b
        | some t => excludeMemory b k t unit
    healthEvents b (checkReady (tryCompose s)))

/-! ### FLUSH_RESTORE (R212, R458) -/

/-- Whether the flush may be restored: the composition is applied, the scheduler core runs, and the journals are ready
(step 14 of R521). -/
def restoreDue (s : State) : Bool :=
  s.boot.applied && coreRuns s schedulerCore && [0, 1, 2, 3].all (fun k => !hasCopy (journalOf s k) || readyBit s (112 + k))

/-- Whether the restored composition binds a queue as the flush held it. -/
def keptQueue (s : State) (f : Flush) (queue : Nat) : Bool :=
  match bindOf s queue, Tbl.find f.binds queue with
  | some a, some b => sameQueue a b
  | _, _ => false

/-- The flushed content of a queue that the composition does not bind is discarded (R458). -/
def discardQueue (f : Flush) (s : State) (e : Nat × Queue) : State :=
  if keptQueue s f e.1 then s
  else raise s 0x0402 { addr := e.1, arg := (e.2.sqTail - 1).toNat, tenant := (Tbl.find f.binds e.1).map (·.tenant) }

/-- A restored journal: its log records, and its open entries that await their replay. -/
def restoredJournal (keep : Nat → Bool) (logs : List LogRecord) (j : Journal) : Journal :=
  { j with logs := logs.filter (fun r => keep r.queue), replay := hasCopy j }

/-- Restores queue state, open entries, completion logs and receipts of the queues that the composition binds; log records
go to their completion slots again. -/
def restoreFlush (s : State) (f : Flush) : State :=
  let keep (q : Nat) : Bool := keptQueue s f q
  let s := f.queues.foldl (discardQueue f) s
  let s := (f.queues.filter (fun e => keep e.1)).foldl (fun s e => modQueue s e.1 (fun _ => e.2)) s
  let works := (f.works.filter (fun w => keep w.queue)).map (fun w => { w with restored := true })
  let s := { s with
    works := works, stamp := maxNat (works.map (fun w => w.stamp + 1)), receipts := f.receipts,
    journals := (s.journals.zip f.logs).map (fun e => restoredJournal keep e.2 e.1),
    flush := { s.flush with area := none, last := 1 } }
  let s := [0, 1, 2, 3].foldl repostLogs s
  (s.queues.map (·.1)).foldl settleStrip s

/-- FLUSH_RESTORE. -/
def execFlushRestore (s : State) : Host.Outcome State Fault Refusal :=
  act s (fun b => match b.flush.area with
    | none => b
    | some f => if restoreDue b then healthEvents b (checkReady (startQueues (restoreFlush b f))) else b)

/-! ### The firmware fetch (R527 to R530) -/

/-- Whether a fetch attempt transfers a file. -/
def transferring (s : State) : Bool := s.boot.fwPhase == 2 || s.boot.fwPhase == 3

/-- A failed step ends the attempt: FW_STATE, a chip-level record, and the wait before the next attempt (R530). -/
def failFetch (s : State) (error typ check : Nat) : State :=
  let b := s.boot
  objectFails { s with boot := { b with fwPhase := 5, fwError := error, fwAttempts := min 0xFFFF (b.fwAttempts + 1), blocks := 0 } }
    typ check

/-- DHCP_LEASE: the hub has an address and asks for the manifest, or for the files still missing (R527). -/
def execDhcpLease (address : Nat) (s : State) : Host.Outcome State Fault Refusal :=
  act s (fun s => if s.boot.fwPhase != 1 then s
    else checkReady (startFetch (putReady { s with boot := { s.boot with address := some address } } 6 true)))

/-- NO_LEASE (R530). -/
def execNoLease (s : State) : Host.Outcome State Fault Refusal :=
  act s (fun s => if s.boot.fwPhase != 1 then s else failFetch s 1 2 8)

/-- TFTP_BLOCK: the next block of the file in transfer is taken and acknowledged; any other is not (R527). -/
def execTftpBlock (block : Nat) (s : State) : Host.Outcome State Fault Refusal :=
  act s (fun s =>
    if !transferring s || block % 65536 != (s.boot.blocks + 1) % 65536 then s
    else emit { s with boot := { s.boot with blocks := s.boot.blocks + 1 } } (.fetch s.boot.fwPhase))

/-- TFTP_TIMEOUT (R530). -/
def execTftpTimeout (s : State) : Host.Outcome State Fault Refusal :=
  act s (fun s => if transferring s then failFetch s 3 2 8 else s)

/-- TFTP_ERROR (R530). -/
def execTftpError (s : State) : Host.Outcome State Fault Refusal :=
  act s (fun s => if transferring s then failFetch s 2 2 8 else s)

/-- TYPE of the manifest, class 0, and of the file of a core class (R528). -/
def fileType (cls : Nat) : Nat := if cls == 1 then 4 else 2

/-- Cores of a class (R541). -/
def classCores (cls : Nat) : List Nat :=
  if cls == 1 then [securityCore] else if cls == 2 then [powerCore] else if cls == 3 then [schedulerCore] else (List.range 32).map (· + 3)

/-- The lowest SVN that an object of a TYPE has had at this start (R485). -/
def noteSvn (s : State) (typ svn : Nat) : State :=
  let v := match Tbl.find s.boot.verified typ with
    | none => svn
    | some old => min old svn
  { s with boot := { s.boot with verified := Tbl.put s.boot.verified typ v } }

/-- The class whose file comes next: 0 the manifest (R529). -/
def nextClass (s : State) : Nat := s.boot.fwAccepted.length

/-- An accepted manifest, or an accepted file whose cores start at once (R529). -/
def acceptFile (s : State) (cls : Nat) (file : FwFile) : State :=
  let s := noteSvn s (fileType cls) file.object.svn
  let s := { s with boot := { s.boot with fwAccepted := s.boot.fwAccepted ++ [cls], blocks := 0 } }
  if cls == 0 then
    emit { s with boot := { s.boot with fwPhase := 3, fwMajor := file.major, fwMinor := file.minor } } (.fetch 3)
  else
    let cores := classCores cls
    let s := cores.foldl (fun s c => coreUp s c) s
    let s := logPoint s (cores.headD 0) 0 7 cls
    if cls == 4 then putReady { s with boot := { s.boot with fwPhase := 4 } } 4 true else emit s (.fetch 3)

/-- FW_FILE_ACCEPT: a file is checked against the manifest and R483, in CLASS order (R528 to R530, R542). -/
def execFwFileAccept (cls : Nat) (file : FwFile) (s : State) : Host.Outcome State Fault Refusal :=
  act s (fun b =>
    if !transferring b || cls != nextClass b then b
    else
      let typ := fileType cls
      let s := if cls != 0 && !(file.sizeOk && file.hashOk) then failFetch b 4 typ 8
        else match failedCheck b typ file.object with
          | some 5 => failFetch b 6 typ 5
          | some c => failFetch b 5 typ c
          | none => acceptFile b cls file
      healthEvents b (checkReady s))

/-- FETCH_BACKOFF: the wait is over; it doubles up to 64 s, and a new attempt starts (R530). -/
def execFetchBackoff (s : State) : Host.Outcome State Fault Refusal :=
  act s (fun s => if s.boot.fwPhase != 5 then s
    else startFetch { s with boot := { s.boot with backoffS := min 64 (2 * s.boot.backoffS) } })

/-- SVN_AUTO_RAISE: once every function is ready, each fused minimum rises to the verified SVN, where SVN_AUTO is set (R485). -/
def execSvnAutoRaise (s : State) : Host.Outcome State Fault Refusal :=
  act s (fun s =>
    let ready := (List.range 128).all (fun i => !namesInService s i || readyBit s i)
    if !ready || !((s.boot.image.map (·.svnAuto)).getD false) then s
    else
      let svn := s.boot.verified.foldl (fun t e => Tbl.put t e.1 (max (Tbl.at t e.1 0) e.2)) s.sec.svnMin
      { s with sec := { s.sec with svnMin := svn } })

end Sys2Proof.Machine
end

