-- ==== Sys2Proof/Machine/Reset.lean ====
section
/-! DEFINITION. Power-up, warm reset, power loss and THERMTRIP (R209 to R211, R329, R521 to R524, R557, R571, R587 to R590). -/

namespace Sys2Proof.Machine

open Sys2Proof

/-- The outcome of a command that a hub takes even when it does not act: an event on a pin. -/
def react (s : State) (f : State → State) : Host.Outcome State Fault Refusal := .next (frameOut s.outbox.length (f s))

/-- Changes the pins. -/
def modPins (s : State) (f : Pins → Pins) : State := { s with pins := f s.pins }

/-! ### The power-loss sequence (R210, R557) -/

/-- Steps 1 to 3 of R210: acceptance, clusters and applies stop, READY_N is released, and every open entry awaits its
replay; the flush begins. -/
def beginLoss (s : State) : State :=
  if s.pins.failing then s
  else
    let s := replayWorks (modPins s (fun p => { p with failing := true })) (fun _ => true)
    let idle (x : Cluster) : Cluster := { x with inFlight := [], placed := [], draining := false, shape := none }
    { s with
      units := { s.units with clusters := s.units.clusters.map idle },
      journals := s.journals.map (fun j => { j with replay := hasCopy j }),
      boot := { s.boot with readyN := false },
      flush := { s.flush with running := true, done := false } }

/-- Flash channels in service. -/
def flashInService (s : State) : Nat := ((List.range 32).filter (fun u => unitIn s .deep u)).length

/-- FLUSH_STATUS.ARMED (R207). -/
def flushArmed (s : State) : Bool := decide (28 ≤ flashInService s)

/-- What a flush writes: queue state with its bindings, open entries, completion logs and receipts (R210). -/
def flushContent (s : State) : Flush :=
  { queues := s.queues, binds := s.comp.live.queueBinds, works := s.works, logs := s.journals.map (·.logs), receipts := s.receipts }

/-- The flush ends: its header is written last, and DONE sets. With fewer than 28 channels nothing usable is left (R208). A
flush that is not restored yet stays; a hub without a composition has nothing to write. -/
def endFlush (s : State) : State :=
  let f := s.flush
  let f := { f with running := false, done := true }
  if f.area.isSome && !f.fresh then { s with flush := f }
  else if !flushArmed s then { s with flush := { f with area := none, broken := true } }
  else if !s.boot.applied then { s with flush := f }
  else { s with flush := { f with area := some (flushContent s), fresh := true, broken := false } }

/-! ### The fall of HUB_RESET_N (R209, R524) -/

/-- An Ifeverlink port in reset. -/
def portReset (p : IflPort) : IflPort :=
  { p with up := false, training := false, encrypted := false, replay := [], tries := 0 }

/-- A directory entry without the transaction that the reset abandons. -/
def lineReset (e : DirEntry) : DirEntry := { e with busy := none, acksDue := [], waiting := [] }

/-- What held outbound CXL.io outlives a reset: the pending vectors; descriptors run again. -/
def keptIo (h : Nat × HeldIo) : Bool :=
  match h.2 with
  | .msix _ _ => true
  | _ => false

/-- Ports, links and exchanges with other nodes end: handshakes in flight are abandoned (R209, step 3). -/
def dropFabric (s : State) : State :=
  let s := (List.range 8).foldl (fun s h => if (cxlLink s h).up then linkLost s h else s) s
  { s with
    fabric := { s.fabric with ports := s.fabric.ports.map portReset, outstanding := [], changing := [], barriers := [],
                              heard := [], streak := [], listing := [] },
    cxl := { s.cxl with requests := [], held := s.cxl.held.filter keptIo },
    embed := { s.embed with held := [], relays := [] },
    order := { s.order with misses := [], directory := s.order.directory.map (fun e => (e.1, lineReset e.2)) },
    comp := { s.comp with waits := [], forwards := [], gathering := [] },
    store := { s.store with held := [] },
    tlbs := [], invs := [] }

/-- Moves between tiers end, each page at its source; a promotion that was under way ends too (R328). -/
def endMoves (s : State) : State := s.store.moves.foldl endMove s

/-- Shard moves of this hub that have not reached their flip are cut (R466). -/
def cutShardMoves (s : State) : State :=
  modLive s (fun c => { c with moves := c.moves.map (fun m =>
    if m.step < 4 && (m.oldNode == hubNode s || m.newNode == hubNode s) then { m with step := 0 } else m) })

/-- The warm reset's fall: acceptance, clusters and ports stop, every READY_VEC bit but IMAGE, SEC_FW and POWER_FW clears, and
debug locks with a fresh nonce (R209, R328, R509, R510, R524, R533, R553). -/
def warmFall (s : State) : State :=
  let s := replayWorks s (fun _ => true)
  let idle (x : Cluster) : Cluster := { x with shape := none, inFlight := [], placed := [], draining := false }
  let s := { s with
    units := { s.units with clusters := s.units.clusters.map idle },
    journals := s.journals.map (fun j => { j with replay := hasCopy j }) }
  let s := cutShardMoves (endMoves (dropFabric s))
  let s := newNonce (endDebug (stopCore s securityCore))
  let s := { s with
    boot := { s.boot with fnReady := BitVec.ofNat 128 (bits s.boot.fnReady.toNat 0 3), readyN := false },
    sec := { s.sec with spdm := [] } }
  modPins s (fun p => { p with hubResetN := false, resetLatched := false })

/-! ### The rise of HUB_RESET_N (R209, R524, R571) -/

/-- Whether a block lost a stage unit, which only a power-up returns (R571). -/
def stageRetired (s : State) (kind : UnitKind) (unit : Nat) : Bool :=
  s.units.retired.any (fun r => r.1 == kind && r.2.1 == unit && isStage kind r.2.2)

/-- Scanner lanes of a flash channel that are not retired. -/
def lanesLeft (s : State) (channel : Nat) : Nat :=
  4 - (s.units.retired.filter (fun r => r.1 == .flash && r.2.1 == channel && !isStage .flash r.2.2)).length

/-- A list changed element by element with its index. -/
def mapIdx {α : Type} (f : Nat → α → α) (l : List α) : List α := ((List.range l.length).zip l).map (fun e => f e.1 e.2)

/-- Units that return to service at a warm reset (R571): blocks whose stage units are whole, regions, dies, links, lanes. -/
def unitsReturn (s : State) : State :=
  let u := s.units
  let back (k : UnitKind) (n : Nat) : Bool := !stageRetired s k n
  { s with
    units := { u with
      clusters := mapIdx (fun n c => { c with inService := back .cluster n }) u.clusters,
      hbm := u.hbm.map (fun _ => true),
      ddr := u.ddr.map (fun d => { d with inService := d.fit.ok && d.fit.dimms != 0 }),
      flash := mapIdx (fun n f => { f with inService := f.fit.ok && f.fit.luns != 0 && back .flash n, lanesUp := lanesLeft s n }) u.flash,
      cxlPorts := mapIdx (fun n _ => back .cxl n) u.cxlPorts,
      d2d := (Units.fitted Board.largest).d2d, regionsOut := [], eDiesOut := [], srFailing := [] },
    fabric := { s.fabric with ports := mapIdx (fun n p => { p with inService := back .ifl n, lanesOut := 0 }) s.fabric.ports } }

/-- A journal after units have returned: a copy that is missing is rebuilt; one that had neither starts anew (R202, R219). -/
def journalReturns (s : State) (k : Nat) : State :=
  let j := journalOf s k
  let p := (primaryHome s j).isSome
  let m := (mirrorHome s j.host).isSome
  if !hasCopy j then
    let s := modJournal s k (fun j => { j with primary := primaryHome s j, mirror := mirrorHome s j.host, rebuilding := false, logs := [] })
    if p || m then journalBack s k else s
  else modJournal s k (fun j => { j with rebuilding := (j.primary.isNone && p) || (j.mirror.isNone && m) })

/-- Cores whose file is accepted, in the order of their classes (R529, R541). -/
def loadedCores (s : State) : List Nat := ((s.boot.fwAccepted.filter (· != 0)).map classCores).flatten

/-- The cores return to service with their counts cleared (R545). -/
def coresReturn (s : State) : State :=
  let clear (c : Core) : Core := { c with restarts := 0, recent := [] }
  let s := { s with power := { s.power with cores := s.power.cores.map clear, guard := false } }
  let s := (loadedCores s).foldl coreUp s
  if s.boot.fwAccepted.contains 4 then putReady s 4 true else s

/-- A Strip after a reset: it goes on while an entry that it reached has not ended (R209, R217). -/
def stripReset (s : State) (x : Strip) : Strip :=
  { x with err := false, done := false,
           busy := x.busy && s.works.any (fun w => w.strip && (x.targets.isEmpty || x.targets.contains w.queue)) }

/-- Registers that a warm reset returns to their reset values (R15, R524). -/
def registersReset (s : State) : State :=
  let s := loadControls { s with
    ldRegs := [], calSel := 0,
    mailbox := s.mailbox.map (fun e => (e.1, { e.2 with done := false, err := false })),
    strips := s.strips.map (fun e => (e.1, stripReset s e.2)),
    power := { s.power with logHalf := 0 },
    sec := { s.sec with skimDone := false },
    units := { s.units with srFailSeen := false },
    comp := { s.comp with refused := false } }
  (s.queues.map (·.1)).foldl settleStrip s

/-- A hub without an image starts again from the reading of the boot directory (R520). -/
def readAgain (s : State) : State :=
  { s with boot := { s.boot with state := 0, resultA := 0, resultB := 0, slotUsed := 0, fallback := false } }

/-- The warm reset's rise: straps are sampled, units and cores return, the flush is discarded, other members are out of sight,
and the ports train (R61, R209, R211, R397, R524, R571, R590). -/
def warmRise (b : State) : State :=
  let s := modPins b (fun p => { p with hubResetN := true, failing := false, slotId := p.slotLive, resetLatched := false, perst := [] })
  let s := if s.flush.fresh then { s with flush := { s.flush with area := none, fresh := false, done := false } }
    else { s with flush := { s.flush with done := false } }
  let s := registersReset (unitsReturn s)
  let s := b.pins.perst.foldl resetPort s
  if s.boot.state != 1 then coresReturn (readAgain s)
  else
    let s := [0, 1, 2, 3].foldl journalReturns s
    let s := s.fabric.seen.foldl loseMember s
    let s := coresReturn (updateRole (recomputeAuthority s))
    healthEvents b (startFetch ((List.range 12).foldl trainPort s))

/-! ### Power-up and the fall of PWR_GOOD (R329, R458, R488, R521, R589) -/

/-- Whether a page survives a power loss: it was deep and RESIDENT (R329). -/
def survives (p : Page) : Bool := p.tier == .deep && p.phase == .resident

/-- The store that outlives a power loss: surviving pages with their bytes, poison and shares, and the erasure that is owed
(R329, R503, R505). -/
def coldStore (x : Store) : Store :=
  let pages := x.pages.filter (fun e => survives e.2)
  let kept (off : Nat) : Bool := pages.any (fun e => e.1 == off / Config.pageBytes)
  { State.reset.store with
    mem := x.mem.filter (fun c => kept c.1),
    poison := x.poison.filter (fun u => kept (64 * u)),
    pages := pages,
    shares := x.shares.filter (fun e => pages.any (fun p => p.2.share == some e.1)),
    erasing := x.erasing }

/-- Published regions whose first page survives keep their version (R381). -/
def coldRegions (s : State) : Tbl PubRegion :=
  s.order.regions.filter (fun e => ((Tbl.find s.store.pages e.1).map survives).getD false)

/-- A hub without power: what its flash, its fuses and its boot flash hold (R308, R329, R459, R484, R487, R513, R589). -/
def unpowered (s : State) : State :=
  let r := State.reset
  { r with
    pending := s.pending, free := s.free, outbox := s.outbox,
    pins := { r.pins with pwrGood := false, hubResetN := s.pins.resetPin, resetPin := s.pins.resetPin, pwrFailN := s.pins.pwrFailN,
                          slotLive := s.pins.slotLive, released := false },
    units := { r.units with xDieOut := s.units.xDieOut },
    boot := { r.boot with dir0 := s.boot.dir0, dir1 := s.boot.dir1, slots := s.boot.slots },
    flush := { r.flush with area := s.flush.area, broken := s.flush.broken || s.flush.running },
    store := coldStore s.store,
    order := { r.order with regions := coldRegions s },
    comp := { r.comp with record := s.comp.record, bootGen := s.comp.bootGen },
    sec := { r.sec with svnMin := s.sec.svnMin, ownerSet := s.sec.ownerSet, revoked := s.sec.revoked, nextLeaf := s.sec.nextLeaf,
                        reserved := s.sec.reserved, fuseBlocks := s.sec.fuseBlocks, exhausted := s.sec.exhausted,
                        lmsSigned := s.sec.lmsSigned, mediaKeys := s.sec.mediaKeys, destroyed := s.sec.destroyed } }

/-- ACTIVE of the boot directory: that of the copy that checks and has the higher DIR_SEQ, else slot A (R513). -/
def bootActive (b : Boot) : Nat :=
  if dirRank b.dir0 == 0 && dirRank b.dir1 == 0 then 0
  else if dirRank b.dir0 < dirRank b.dir1 then b.dir1.active else b.dir0.active

/-- The next leaf at a power-up: the end of the last reservation record, or the first block whose fuse bit is clear; without a
record the next bit is burnt and the rest of its block abandoned (R488). -/
def leafAtStart (x : Security) : Security :=
  match x.reserved with
  | some e => { x with nextLeaf := max e (x.fuseBlocks * 2 ^ 30) }
  | none => { x with fuseBlocks := x.fuseBlocks + 1, nextLeaf := (x.fuseBlocks + 1) * 2 ^ 30 }

/-- Channels that break the population rules are left out, each with its START_EXCLUDED record (R332, R333). -/
def excludeBroken (s : State) (b : Board) : State :=
  let bad (l : List Bool) : List Nat := ((List.range l.length).zip l).filterMap (fun e => if e.2 then none else some e.1)
  let s := (bad (b.ddr.map (·.ok))).foldl (fun s d => raise s 0x0108 { kind := .ddr, inst := d }) s
  (bad (b.flash.map (·.ok))).foldl (fun s f => raise s 0x0108 { kind := .flash, inst := f }) s

/-- Steps 1 and 2 of R521: the board is found, the straps are sampled, fuses are read, and BOOT_GEN rises. -/
def powerUp (s : State) (straps : Nat) (board : Board) : State :=
  let level := straps % 16
  let s := { s with
    now := 0,
    pins := { s.pins with pwrGood := true, slotLive := level, slotId := level, released := s.pins.resetPin },
    units := { Units.fitted board with xDieOut := s.units.xDieOut },
    boot := { s.boot with active := bootActive s.boot },
    flush := { s.flush with last := if s.flush.area.isNone && s.flush.broken then 2 else 0, broken := false },
    comp := { s.comp with bootGen := s.comp.bootGen + 1 },
    sec := leafAtStart s.sec }
  excludeBroken (placeJournals (newNonce s)) board

/-- PWR_GOOD_RISE: power-up starts, at once or when HUB_RESET_N rises (R521). -/
def execPwrGoodRise (straps : Nat) (board : Board) (s : State) : Host.Outcome State Fault Refusal :=
  react s (fun s => if s.pins.pwrGood then s else powerUp s straps board)

/-- PWR_GOOD_FALL: every activity ends, and every tier but the deep one loses its content (R329, R589). -/
def execPwrGoodFall (s : State) : Host.Outcome State Fault Refusal :=
  react s (fun s => if s.pins.pwrGood then unpowered s else s)

/-! ### HUB_RESET_N -/

/-- HUB_RESET_N_FALL: a warm reset, which waits for a flush that runs (R209, R590). -/
def execHubResetNFall (s : State) : Host.Outcome State Fault Refusal :=
  react s (fun s =>
    if !s.pins.resetPin then s
    else
      let s := modPins s (fun p => { p with resetPin := false })
      if !s.pins.pwrGood || s.units.xDieOut || !s.pins.released then modPins s (fun p => { p with hubResetN := false })
      else if s.flush.running then modPins s (fun p => { p with resetLatched := true })
      else warmFall s)

/-- HUB_RESET_N_RISE: the first after PWR_GOOD starts the power-up; another ends the warm reset, once no flush runs (R209,
R521, R590). -/
def execHubResetNRise (straps : Nat) (s : State) : Host.Outcome State Fault Refusal :=
  react s (fun s =>
    if s.pins.resetPin then s
    else
      let s := modPins s (fun p => { p with resetPin := true, slotLive := straps % 16 })
      if !s.pins.pwrGood || s.units.xDieOut then modPins s (fun p => { p with hubResetN := true })
      else if !s.pins.released then
        modPins { s with now := 0 } (fun p => { p with hubResetN := true, released := true, slotId := p.slotLive, perst := [] })
      else if s.flush.running then modPins s (fun p => { p with resetLatched := true })
      else warmRise s)

/-! ### PWR_FAIL_N, FLUSH_DONE, THERMTRIP -/

/-- PWR_FAIL_N_FALL: the power-loss sequence begins, in a warm reset too (R210, R590, R600). -/
def execPwrFailNFall (s : State) : Host.Outcome State Fault Refusal :=
  react s (fun s =>
    if !s.pins.pwrFailN then s
    else
      let s := modPins s (fun p => { p with pwrFailN := false })
      if !s.pins.pwrGood || s.units.xDieOut then s
      else beginLoss (modPins s (fun p => { p with pwrFailSeen := true })))

/-- PWR_FAIL_N_RISE: the flush runs on, and the hub waits for its reset (R211, R590). -/
def execPwrFailNRise (s : State) : Host.Outcome State Fault Refusal :=
  react s (fun s => modPins s (fun p => { p with pwrFailN := true }))

/-- FLUSH_DONE: a reset that waited follows (R210, R590). -/
def execFlushDone (s : State) : Host.Outcome State Fault Refusal :=
  react s (fun s =>
    if !s.flush.running then s
    else
      let s := endFlush s
      if !s.pins.resetLatched then s
      else
        let s := warmFall s
        if s.pins.resetPin then warmRise s else s)

/-- THERMTRIP: the comparator asserts the pin until power goes, and the power-loss sequence runs (R557). -/
def execThermtrip (sensor : Nat) (s : State) : Host.Outcome State Fault Refusal :=
  react s (fun s =>
    if !s.pins.pwrGood || s.units.xDieOut || s.pins.thermtrip then s
    else
      let s := raise (modPins s (fun p => { p with thermtrip := true })) 0x0505 { arg := sensor }
      beginLoss (logPoint s powerCore 0 8 sensor))

end Sys2Proof.Machine
end

