-- ==== Sys2Proof/Machine/Security.lean ====
section
/-! DEFINITION. SPDM requests, the LMS leaves, and the JTAG instructions (chapter 13). Response and error codes are those of
SPDM 1.2; what a signature, a digest or a certificate holds is free. -/

namespace Sys2Proof.Machine

open Sys2Proof

/-! ### SPDM (R435, R489, R490, R545) -/

/-- Response codes of SPDM 1.2. -/
def spdmDigests : Nat := 0x01
def spdmCertificate : Nat := 0x02
def spdmChallengeAuth : Nat := 0x03
def spdmVersion : Nat := 0x04
def spdmMeasurements : Nat := 0x60
def spdmCapabilities : Nat := 0x61
def spdmAlgorithms : Nat := 0x63
def spdmKeyExchangeRsp : Nat := 0x64
def spdmFinishRsp : Nat := 0x65
def spdmHeartbeatAck : Nat := 0x68
def spdmKeyUpdateAck : Nat := 0x69
def spdmEndSessionAck : Nat := 0x6C
def spdmVendorResponse : Nat := 0x7E
def spdmErrorCode : Nat := 0x7F

/-- Error codes of SPDM 1.2. -/
def spdmInvalidRequest : Nat := 0x01
def spdmBusy : Nat := 0x03
def spdmUnexpected : Nat := 0x04
def spdmUnspecified : Nat := 0x05

/-- An SPDM error. -/
def spdmError (s : State) (who : Sender) (code : Nat) : State := emit s (.spdm who spdmErrorCode [code])

/-- The connection of a requester. -/
def peerOf (s : State) (who : Sender) : SpdmPeer := Tbl.at s.sec.spdm (senderKey who) SpdmPeer.fresh

/-- Changes the connection of a requester. -/
def modPeer (s : State) (who : Sender) (f : SpdmPeer → SpdmPeer) : State :=
  { s with sec := { s.sec with spdm := Tbl.change s.sec.spdm (senderKey who) SpdmPeer.fresh f } }

/-- Whether the transport of a requester carries messages: the DOE mailbox of a device needs its link (R435). -/
def spdmCarried (s : State) : Sender → Bool
  | .mgmt => true
  | .ld n => ldUp s n

/-- A request at the security core: Busy while it restarts, Unspecified once it failed, nothing before its firmware is ready
(R435, R545). -/
def spdmServe (s : State) (who : Sender) (f : State → State) : State :=
  if !spdmCarried s who then s
  else match (coreAt s securityCore).run with
    | .running => f s
    | .restarting => spdmError s who spdmBusy
    | .failed => spdmError s who spdmUnspecified
    | .notLoaded => s

/-- GET_VERSION: version 1.2; a connection starts anew (R490). -/
def execGetVersion (who : Sender) (s : State) : Host.Outcome State Fault Refusal :=
  act s (fun s => spdmServe s who (fun s =>
    emit (modPeer s who (fun p => { p with negotiated := false, transcript := none })) (.spdm who spdmVersion [0x12])))

/-- Capabilities, in the order that R490 lists them: CERT, CHAL, MEAS with signature, MEAS_FRESH, ENCRYPT, MAC, MUT_AUTH,
KEY_EX, HBEAT, KEY_UPD, at their places in the CAPABILITIES flags of SPDM 1.2. -/
def spdmFlags : Nat :=
  2 ^ 1 + 2 ^ 2 + 2 ^ 4 + 2 ^ 5 + 2 ^ 6 + 2 ^ 7 + 2 ^ 8 + 2 ^ 9 + 2 ^ 13 + 2 ^ 14

/-- GET_CAPABILITIES (R490). -/
def execGetCapabilities (who : Sender) (s : State) : Host.Outcome State Fault Refusal :=
  act s (fun s => spdmServe s who (fun s => emit s (.spdm who spdmCapabilities [spdmFlags])))

/-- NEGOTIATE_ALGORITHMS: the five algorithms of R489, or none when the requester supports them not. -/
def execNegotiateAlgorithms (who : Sender) (supported : Bool) (s : State) : Host.Outcome State Fault Refusal :=
  act s (fun s => spdmServe s who (fun s =>
    emit (modPeer s who (fun p => { p with negotiated := supported }))
      (.spdm who spdmAlgorithms (if supported then [1, 2, 3, 4, 5] else []))))

/-- GET_DIGESTS: slots 0, 1 and 2 (R490). -/
def execGetDigests (who : Sender) (s : State) : Host.Outcome State Fault Refusal :=
  act s (fun s => spdmServe s who (fun s =>
    emit (spend s 3) (.spdm who spdmDigests [0, Config.crypto s.free, 1, Config.crypto (s.free + 1), 2, Config.crypto (s.free + 2)])))

/-- GET_CERTIFICATE: the chain of slot 0, 1 or 2 (R490). -/
def execGetCertificate (who : Sender) (slot : Nat) (s : State) : Host.Outcome State Fault Refusal :=
  act s (fun s => spdmServe s who (fun s =>
    if 3 ≤ slot then spdmError s who spdmInvalidRequest
    else emit (spend s 1) (.spdm who spdmCertificate [slot, Config.crypto s.free])))

/-- CHALLENGE: slot 0 signs with the device identity key, slot 1 with the alias key; the key of slot 2 signs nothing
(R479, R490). -/
def execChallenge (who : Sender) (slot transcript : Nat) (s : State) : Host.Outcome State Fault Refusal :=
  act s (fun s => spdmServe s who (fun s =>
    if 2 ≤ slot then spdmError s who spdmInvalidRequest
    else emit (modPeer (spend s 1) who (fun p => { p with transcript := some transcript }))
      (.spdm who spdmChallengeAuth [slot, transcript, Config.crypto s.free])))

/-- Fuse state of measurement block 8: SVN minimums by TYPE, owner slots programmed and revoked, LMS fuse count (R491). -/
def fuseState (s : State) : List Nat :=
  [1, 2, 3, 4, 5].map (fun t => Tbl.at s.sec.svnMin t 0) ++ [s.sec.ownerSet, s.sec.revoked, s.sec.fuseBlocks]

/-- Block 10: the sorted list of the hashes of the content bindings installed (R491). -/
def boundHashes (s : State) : List Nat := sortBy (fun a b => decide (a < b)) (s.sec.ranges.map (·.hash))

/-- Block 11: the sorted list of the Saffron tenants bound (R491). -/
def saffronTenants (s : State) : List Nat :=
  sortBy (fun a b => decide (a < b)) (dedup ((s.comp.live.tenantBinds.filter (fun b => isSaffron s b.tenant)).map (·.tenant)))

/-- Block 6: the hash of the image and the slot that it came from (R491). -/
def imageBlock (s : State) : List Nat :=
  match s.boot.image with
  | none => []
  | some i => [i.hash, s.boot.slotUsed]

/-- The measurement blocks, each an index, a length and its content: what is measured, before it is hashed; blocks 9 to 11 are
of the present state (R490, R491). The hashes of ROM, firmware and security policy are free. -/
def measurements (s : State) : List Nat :=
  let block (i : Nat) (c : List Nat) : List Nat := i :: c.length :: c
  ([1, 2, 3, 4, 5].map (fun i => block i [Config.crypto (s.free + i)])).flatten
    ++ block 6 (imageBlock s) ++ block 7 [Config.crypto (s.free + 7)] ++ block 8 (fuseState s)
    ++ block 9 [s.sec.debug] ++ block 10 (boundHashes s) ++ block 11 (saffronTenants s)

/-- GET_MEASUREMENTS (R490, R491). -/
def execGetMeasurements (who : Sender) (signed : Bool) (transcript : Nat) (s : State) : Host.Outcome State Fault Refusal :=
  act s (fun s => spdmServe s who (fun s =>
    let t := modPeer (spend s 8) who (fun p => if signed then { p with transcript := some transcript } else p)
    emit t (.spdm who spdmMeasurements (measurements s ++ (if signed then [transcript, Config.crypto s.free] else [])))))

/-- Sessions of a requester: 16 on the management port, 2 of a logical device (R489). -/
def sessionLimit : Sender → Nat
  | .mgmt => 16
  | .ld _ => 2

/-- Whether the hub asks for mutual authentication: the requester does, or the security policy requires it (R490). -/
def mutualAsked (s : State) (asked : Bool) : Bool := asked || (s.boot.image.map (·.mutualAuth)).getD false

/-- KEY_EXCHANGE: a handshake within the session limits, over agreed algorithms (R489, R490). -/
def execKeyExchange (who : Sender) (mutualAuth : Bool) (s : State) : Host.Outcome State Fault Refusal :=
  act s (fun s => spdmServe s who (fun s =>
    let p := peerOf s who
    if !p.negotiated then spdmError s who spdmUnexpected
    else if sessionLimit who ≤ p.sessions + p.handshakes then spdmError s who spdmBusy
    else emit (modPeer (spend s 1) who (fun p => { p with handshakes := p.handshakes + 1 }))
      (.spdm who spdmKeyExchangeRsp [flag (mutualAsked s mutualAuth), Config.crypto s.free])))

/-- FINISH: the handshake becomes a session when its authentication holds (R490). -/
def execFinish (who : Sender) (authOk : Bool) (s : State) : Host.Outcome State Fault Refusal :=
  act s (fun s => spdmServe s who (fun s =>
    if (peerOf s who).handshakes == 0 then spdmError s who spdmUnexpected
    else if authOk then
      emit (modPeer s who (fun p => { p with handshakes := p.handshakes - 1, sessions := p.sessions + 1 })) (.spdm who spdmFinishRsp [])
    else spdmError (modPeer s who (fun p => { p with handshakes := p.handshakes - 1 })) who spdmUnspecified))

/-- A request inside a session. -/
def inSession (s : State) (who : Sender) (f : State → State) : State :=
  if (peerOf s who).sessions == 0 then spdmError s who spdmUnexpected else f s

/-- KEY_UPDATE of a session, or of an encrypted link whose other end replaces its key; no flit is lost (R410, R490). -/
def execKeyUpdate (who : Sender) (link : Option Nat) (s : State) : Host.Outcome State Fault Refusal :=
  act s (fun s => match link with
    | none => spdmServe s who (fun s => inSession s who (fun s =>
        emit (modPeer s who (fun p => { p with keyUpdates := p.keyUpdates + 1 })) (.spdm who spdmKeyUpdateAck [])))
    | some port =>
      if !(portOf s port).up || !(portOf s port).encrypted || !coreRuns s securityCore then s
      else emit (modPort s port (fun p => { p with rxKeys := p.rxKeys + 1 })) (.spdm who spdmKeyUpdateAck [port]))

/-- HEARTBEAT of a session (R490). -/
def execSpdmHeartbeat (who : Sender) (s : State) : Host.Outcome State Fault Refusal :=
  act s (fun s => spdmServe s who (fun s => inSession s who (fun s => emit s (.spdm who spdmHeartbeatAck []))))

/-- END_SESSION (R490). -/
def execEndSession (who : Sender) (s : State) : Host.Outcome State Fault Refusal :=
  act s (fun s => spdmServe s who (fun s => inSession s who (fun s =>
    emit (modPeer s who (fun p => { p with sessions := p.sessions - 1 })) (.spdm who spdmEndSessionAck []))))

/-! ### LMS (R487, R488, R491) -/

/-- Leaves of the LMS identity key, and of one reservation window. -/
def lmsLeaves : Nat := 2 ^ 40
def lmsWindow : Nat := 4096

/-- The leaf index spent: the reservation record is written before its window is used, and the fuse bit burnt before the first
leaf of a new 2³⁰ block (R487, R488). -/
def spendLeaf (x : Security) : Security :=
  let reserved := match x.reserved with
    | some e => if e ≤ x.nextLeaf then x.nextLeaf + lmsWindow else e
    | none => x.nextLeaf + lmsWindow
  { x with reserved := some reserved, fuseBlocks := max x.fuseBlocks (x.nextLeaf / 2 ^ 30), nextLeaf := x.nextLeaf + 1,
           exhausted := x.exhausted || decide (lmsLeaves ≤ x.nextLeaf + 1) }

/-- GET_LMS_SIGNATURE: the first signature of a transcript hash again, or one more leaf; Unspecified once all are spent
(R488, R490, R491). -/
def execGetLmsSignature (who : Sender) (s : State) : Host.Outcome State Fault Refusal :=
  act s (fun s => spdmServe s who (fun s =>
    match (peerOf s who).transcript with
    | none => spdmError s who spdmUnexpected
    | some t =>
      match s.sec.lmsSigned.find? (fun e => e.1 == t) with
      | some e => emit s (.spdm who spdmVendorResponse [e.2, Config.crypto (2 ^ 64 + e.2)])
      | none =>
        let leaf := s.sec.nextLeaf
        if lmsLeaves ≤ leaf then spdmError { s with sec := { s.sec with exhausted := true } } who spdmUnspecified
        else
          let x := spendLeaf s.sec
          emit { s with sec := { x with lmsSigned := x.lmsSigned ++ [(t, leaf)] } }
            (.spdm who spdmVendorResponse [leaf, Config.crypto (2 ^ 64 + leaf)])))

/-! ### JTAG (R498, R508) -/

/-- Codes by which the model names the JTAG instructions. -/
def jtagBypass : Nat := 0
def jtagIdcode : Nat := 1
def jtagSample : Nat := 2
def jtagExtest : Nat := 3
def jtagClamp : Nat := 4
def jtagHighz : Nat := 5

/-- A JTAG instruction, taken or refused: the test logic answers while the package has power, reset or not. -/
def jtag (s : State) (code : Nat) (taken : Bool) : Host.Outcome State Fault Refusal :=
  .next (if !s.pins.pwrGood then s
         else emit (if taken then { s with sec := { s.sec with jtag := code } } else s) (.jtag code taken))

/-- Whether the instructions that drive pins are available: between power-up and the first release of HUB_RESET_N, and no
Saffron tenant bound (R498, R508). -/
def jtagDrives (s : State) : Bool := !s.pins.released && !s.sec.saffronOn

/-- BYPASS (R498, R508). -/
def execBypass (s : State) : Host.Outcome State Fault Refusal := jtag s jtagBypass true

/-- IDCODE (R498, R508). -/
def execIdcode (s : State) : Host.Outcome State Fault Refusal := jtag s jtagIdcode true

/-- SAMPLE/PRELOAD (R508). -/
def execSamplePreload (s : State) : Host.Outcome State Fault Refusal := jtag s jtagSample (!s.sec.saffronOn)

/-- EXTEST (R508). -/
def execExtest (s : State) : Host.Outcome State Fault Refusal := jtag s jtagExtest (jtagDrives s)

/-- CLAMP (R508). -/
def execClamp (s : State) : Host.Outcome State Fault Refusal := jtag s jtagClamp (jtagDrives s)

/-- HIGHZ (R508). -/
def execHighz (s : State) : Host.Outcome State Fault Refusal := jtag s jtagHighz (jtagDrives s)

end Sys2Proof.Machine
end

