-- ==== Sys2Proof/Machine/RegisterView.lean ====
section
/-! DEFINITION. What a read of the Hub Control Space returns: every register of the spec as the 64-bit word that a reader sees
(R13, R51). -/

namespace Sys2Proof.Machine

open Sys2Proof

/-- The element of a register array that an offset names. -/
def element (o base n stride : Nat) : Option Nat :=
  if base ≤ o ∧ o < base + n * stride ∧ (o - base) % stride = 0 then some ((o - base) / stride) else none

/-- A mask of the numbers below `n` that pass a test. -/
def maskBy (n : Nat) (p : Nat → Bool) : Nat := sumNat (((List.range n).filter p).map (fun i => 2 ^ i))

/-- A count as a field of `n` bits shows it, saturating. -/
def satur (v n : Nat) : Nat := min v (2 ^ n - 1)

/-- A signed number of steps in 16 bits. -/
def steps16 (x : Int) : Nat := (x % 65536).toNat

/-- The selection registers of a reader. -/
def selOf (s : State) (who : Sender) : LdRegs := ldRegs s (senderKey who)

/-! ### Identity, and organisation (R40, R53, R540, R582) -/

/-- FAULT_SUMMARY (R569, R570, R582). -/
def faultSummary (s : State) : Nat :=
  field (flag (degraded s)) 0 1 + field (flag s.boot.calRaised) 1 1 + field (flag (fenced s)) 2 1
    + field (maskBy 4 (fun k => !regionIn s k)) 4 4 + field (flag s.faults.fault) 8 1 + field (flag s.faults.alert) 9 1
    + field s.faults.worst 16 3

/-- HUB_TOPOLOGY: the units implemented. -/
def hubTopology : Nat := field 4 0 4 + field 32 8 8 + field 8 16 8 + field 12 24 8 + field 32 32 8 + field 4 40 4 + field 12 44 4

/-- REGION_STATE[k] (R53). -/
def regionState (s : State) (k : Nat) : Nat :=
  let cl := maskBy 8 (fun i => clusterIn s (if i < 4 then 4 * k + i else 4 * k + 12 + i))
  let hbm := maskBy 2 (fun i => unitIn s .near (2 * k + i))
  let ddr := maskBy 3 (fun i => unitIn s .far (3 * k + i))
  let flash := maskBy 8 (fun i => unitIn s .deep (8 * k + i))
  let j := journalCode (journalOf s k)
  let st := if !regionIn s k then 2 else if cl == 255 && hbm == 3 && ddr == 7 && flash == 255 && j == 0 then 0 else 1
  field st 0 2 + field cl 8 8 + field hbm 16 2 + field ddr 18 3 + field flash 24 8 + field j 32 2

/-- PORT_STATE (R53). -/
def portState (s : State) : Nat :=
  field (maskBy 4 (fun p => (s.units.cxlPorts[p]?).getD false)) 0 4 + field (maskBy 12 (fun p => (portOf s p).inService)) 16 12

/-- Modules that die-to-die link n is built with (R23). -/
def d2dBuilt (n : Nat) : Nat := if n < 8 then 11 else if n < 10 then 6 else 8

/-- D2D_LINK_STATE[n] (R53). -/
def d2dState (s : State) (n : Nat) : Nat :=
  let up := (s.units.d2d[n]?).getD 0
  field up 0 4 + field (d2dBuilt n) 4 4 + field (if up == d2dBuilt n then 0 else if up == 0 then 2 else 1) 8 2

/-- The organisation block. -/
def organisationBlock (s : State) (o : Nat) : Nat :=
  if o == 0 then hubTopology
  else if o == 0x200 then portState s
  else match element o 0x100 4 8 with
    | some k => regionState s k
    | none => match element o 0x300 11 8 with
      | some n => d2dState s n
      | none => 0

/-! ### Translation (R97) -/

/-- NODE_ID. -/
def nodeIdWord (s : State) : Nat := field (baseNode s) 0 12 + field s.pins.slotId 12 4 + field (hubNode s) 16 12

/-- DOMAIN. -/
def domainWord (s : State) : Nat := field (domainHubs s).length 0 8 + field (domainMembers s).length 8 12

/-- TLB_INV_STATUS of a reader. -/
def tlbInvStatus (s : State) (who : Sender) : Nat :=
  let x := Tbl.at s.invs (senderKey who) Invalidation.idle
  field (flag x.busy) 0 1 + field (flag x.err) 1 1 + field x.tenant 16 12

/-- HDM_SA_MAP[d] and HDM_TENANT[d] of a reader. -/
def hdmSaMap (s : State) (who : Sender) (d : Nat) : Nat :=
  let m := hdmOf s (senderKey who) d
  field (m.saBase / 2 ^ 21) 21 27 + field m.target 48 12
def hdmTenant (s : State) (who : Sender) (d : Nat) : Nat :=
  let m := hdmOf s (senderKey who) d
  field m.tenant 0 12 + field (flag m.valid) 12 1 + field (flag (m.valid && m.target != hubNode s)) 13 1

/-- The translation block. -/
def translationBlock (s : State) (who : Sender) (o : Nat) : Nat :=
  if o == 0 then nodeIdWord s
  else if o == 8 then domainWord s
  else if o == 0x10 then s.ctrl.ats.toNat
  else if o == 0x20 then tlbInvStatus s who
  else match element o 0x1000 8 16 with
    | some d => hdmSaMap s who d
    | none => match element o 0x1008 8 16 with
      | some d => hdmTenant s who d
      | none => 0

/-! ### Formats and engine (R133, R168) -/

/-- SR_STATUS (R114). -/
def srStatus (s : State) : Nat :=
  let lowest := s.units.srFailing.foldl (fun m e => min m e.1) 0xFF
  field (flag (!s.units.srFailing.isEmpty)) 0 1 + field (flag s.units.srFailSeen) 1 1 + field lowest 8 8

/-- The format block. -/
def formatBlock (s : State) (o : Nat) : Nat :=
  if o == 0 then field 0x07FF 0 16 + field 7 16 3 + field 7 19 3
  else if o == 8 then s.ctrl.compress.toNat
  else if o == 0x10 then srStatus s
  else 0

/-- CLUSTER_STATE[c]. -/
def clusterState (s : State) (c : Nat) : Nat :=
  match s.units.clusters[c]? with
  | none => 0
  | some x =>
    let n := x.inFlight.length
    field (flag (clusterIn s c)) 0 1 + field (if n == 0 || !clusterIn s c then 15 else x.shape.getD 15) 4 4 + field (satur n 4) 8 4

/-- The engine block. -/
def engineBlock (s : State) (o : Nat) : Nat :=
  if o == 0 then field 0x3FFF 0 14 + field 0x1000 16 16 + field 0x10 32 8 + field 8 40 8
  else if o == 8 then s.ctrl.sched.toNat
  else if o == 0x10 then s.ctrl.prefetch.toNat
  else match element o 0x100 32 8 with
    | some c => clusterState s c
    | none => 0

/-! ### Queues (R180, R218, R220) -/

/-- Code of a queue's STATE. -/
def qstateCode : QState → Nat
  | .unbound => 0 | .running => 1 | .refusing => 2 | .stripping => 3 | .stopped => 4

/-- Code of a queue's REFUSE. -/
def refuseCode : Refuse → Nat
  | .none => 0 | .badSeq => 1 | .badOpcode => 2 | .reservedSet => 3 | .fenced => 4 | .journalDown => 5

/-- QUEUE_CFG. -/
def queueCfg (b : QueueBind) : Nat :=
  field b.tenant 0 12 + field b.shape 12 4 + field b.log2n 16 4 + field b.region 20 2 + field 1 22 1 + field b.irqLd 23 6
    + field b.vector 32 11

/-- QUEUE_STATUS. -/
def queueStatus (s : State) (q : Nat) (b : QueueBind) : Nat :=
  let x := queueOf s q
  field (qstateCode x.state) 0 3 + field (refuseCode x.refuse) 8 4 + field (flag x.dbErr) 12 1 + field (flag x.lost) 13 1
    + field (flag (singleCopy (journalOf s b.region))) 14 1

/-- The words of a queue's 128 bytes of state, by their offset. -/
def queueStateWord (s : State) (q : Nat) (b : QueueBind) (o : Nat) : Nat :=
  let x := queueOf s q
  if o == 0 then queueCfg b
  else if o == 0x08 then b.sqBase
  else if o == 0x10 then b.cqBase
  else if o == 0x18 then x.accHead.toNat
  else if o == 0x20 then x.sqTail.toNat
  else if o == 0x28 then x.cqTail.toNat
  else if o == 0x30 then x.cqHead.toNat
  else if o == 0x38 then queueStatus s q b
  else 0

/-- A queue's words as a reader sees them: zero of a queue whose tenant is not bound to it (R180). -/
def queueWord (s : State) (who : Sender) (q o : Nat) : Nat :=
  match bindOf s q with
  | none => 0
  | some b => if mayActFor s who b.tenant then queueStateWord s q b o else 0

/-- STRIP_STATUS of a reader. -/
def stripStatus (s : State) (who : Sender) : Nat :=
  let x := Tbl.at s.strips (senderKey who) Strip.idle
  field (flag x.busy) 0 1 + field (flag x.err) 1 1 + field (flag x.done) 2 1 + field (satur x.aborted 16) 16 16
    + field (satur x.partials 16) 32 16 + field (satur x.complete 16) 48 16

/-- JOURNAL_STATE[k]. -/
def journalState (s : State) (k : Nat) : Nat :=
  let j := journalOf s k
  field (j.primary.getD 0) 0 3 + field (j.mirror.getD 0) 4 4 + field j.host 8 2 + field (openEntries s k).length 16 16
    + field (redoReadyBytes s k / 8192) 32 11 + field j.logs.length 43 19

/-- FLUSH_STATUS. -/
def flushStatus (s : State) : Nat := field (flag (flushArmed s)) 0 1 + field (flag s.flush.done) 1 1 + field s.flush.last 2 2

/-- The queue block. -/
def queueBlock (s : State) (who : Sender) (o : Nat) : Nat :=
  if o == 0 then field 0x4000 0 16 + field 6 16 4 + field 0x100 24 9
  else if o == 0x10 then stripStatus s who
  else if o == 0x200 then flushStatus s
  else match element o 0x100 4 8 with
    | some k => journalState s k
    | none => 0

/-! ### Embedding tables and search (R268, R303) -/

/-- TABLE_INFO of a reader. -/
def tableInfo (s : State) (who : Sender) : Nat :=
  match tableOf s (selOf s who).tableSel with
  | none => 0
  | some d =>
    if !mayActFor s who d.tenant then 0
    else field d.mapEpoch 0 32 + field d.place 32 2 + field (flag d.gatherOnly) 34 1 + field (flag d.noCache) 35 1 + field 1 36 1
      + field (flag (d.map0.any (fun e => e.state == 1))) 37 1 + field (flag (d.map0.any (fun e => e.state == 2))) 38 1

/-- The embedding block. -/
def embeddingBlock (s : State) (who : Sender) (o : Nat) : Nat :=
  if o == 0 then field 0x10000 0 17 + field 4 40 4 + field 0x14 44 5
  else if o == 8 then s.ctrl.exch.toNat
  else if o == 0x10 then s.ctrl.clove.toNat
  else if o == 0x18 then (selOf s who).tableSel
  else if o == 0x20 then tableInfo s who
  else if o == 0x28 then field s.receipts.length 0 21 + field (flag (!receiptRoom s)) 21 1
  else 0

/-- The index that a reader selects, where it may see it. -/
def selectedIndex (s : State) (who : Sender) : Option IndexDesc :=
  (indexOf s (selOf s who).indexSel).filter (fun d => mayActFor s who d.tenant)

/-- INDEX_EPOCHS and INDEX_INFO of a reader. -/
def indexEpochs (s : State) (who : Sender) : Nat :=
  match selectedIndex s who with
  | none => 0
  | some d => field d.sealed 0 32 + field d.sealTarget 32 32
def indexInfo (s : State) (who : Sender) : Nat :=
  match selectedIndex s who with
  | none => 0
  | some d =>
    let mine := s.works.filter (fun w => w.desc.param == (selOf s who).indexSel)
    field 1 0 1 + field d.kind 1 1 + field d.metric 2 2 + field d.m 4 7 + field d.dim 12 13
      + field (satur (mine.filter isMutation).length 16) 32 16 + field (satur (mine.filter (scanHeld s)).length 16) 48 16

/-- SCANNER_STATE[f]; a pass is one command here, so that none is in progress between commands. -/
def scannerState (s : State) (f : Nat) : Nat :=
  match s.units.flash[f]? with
  | none => 0
  | some x => field (flag (unitIn s .deep f)) 0 1 + field x.lanesUp 1 3

/-- The search block. -/
def searchBlock (s : State) (who : Sender) (o : Nat) : Nat :=
  if o == 0 then field 0x1000 0 13 + field 0x14 16 5 + field 0x400 24 11 + field 0x10 35 5 + field 0x40 40 7 + field 0x1000 48 13
  else if o == 8 then (selOf s who).indexSel
  else if o == 0x10 then indexEpochs s who
  else if o == 0x18 then indexInfo s who
  else match element o 0x100 32 8 with
    | some f => scannerState s f
    | none => 0

/-! ### Tiers (R342) -/

/-- TIER_STATE[t]. -/
def tierState (s : State) (t : Tier) : Nat := field (tierTotal s t) 0 32 + field (tierFree s t) 32 31 + field (flag (tierShort s t)) 63 1

/-- The tenant that a reader selects, where it may see it. -/
def selectedTenant (s : State) (who : Sender) : Option Nat :=
  let t := (selOf s who).tenantSel
  if mayActFor s who t then some t else none

/-- TENANT_QUOTA[t] and TENANT_USED[t] of a reader. -/
def tenantQuota (s : State) (who : Sender) (t : Tier) : Nat :=
  match selectedTenant s who with
  | none => 0
  | some n => field (quotaOf s n t).floor 0 32 + field (quotaOf s n t).ceiling 32 32
def tenantUsed (s : State) (who : Sender) (t : Tier) : Nat :=
  match selectedTenant s who with
  | none => 0
  | some n => field (usedPages s n t true) 0 32 + field (usedPages s n t false) 32 32

/-- DDR_POP[d]. -/
def ddrPop (s : State) (d : Nat) : Nat :=
  match s.units.ddr[d]? with
  | none => 0
  | some x => field x.fit.dimms 0 2 + field x.fit.ranks 2 3 + field (if x.fit.dimms == 0 then 0 else x.fit.speed + 1) 5 3
      + field x.fit.gib 16 12

/-- FLASH_GEOM[f]: LUNs and capacity in service. -/
def flashGeom (s : State) (f : Nat) : Nat :=
  match s.units.flash[f]? with
  | none => 0
  | some x =>
    let luns := if unitIn s .deep f then x.fit.luns else 0
    field luns 0 6 + field (flag x.fit.tbit) 6 1 + field (luns * (if x.fit.tbit then 128 else 64)) 16 13

/-- The tier block. -/
def tierBlock (s : State) (who : Sender) (o : Nat) : Nat :=
  if o == 0 then s.ctrl.pool.toNat
  else if o == 8 then (selOf s who).tenantSel
  else match element o 0x100 3 8 with
    | some t => tierState s (tierOf t)
    | none => match element o 0x200 3 8 with
      | some t => tenantQuota s who (tierOf t)
      | none => match element o 0x300 3 8 with
        | some t => tenantUsed s who (tierOf t)
        | none => match element o 0x400 12 8 with
          | some d => ddrPop s d
          | none => match element o 0x500 32 8 with
            | some f => flashGeom s f
            | none => 0

/-! ### Ordering (R391) -/

/-- DIR_STATE[k]. -/
def dirState (s : State) (k : Nat) : Nat :=
  let lines := regionLines s k
  field lines.length 0 21 + field (satur (recallsShown s k) 16) 32 16
    + field (satur (lines.filter (fun e => e.2.lost)).length 16) 48 16

/-- TALLY_SEND[c] of a reader, where the channel's tenant is bound to it. -/
def tallySendWord (s : State) (who : Sender) (c : Nat) : Nat :=
  match Tbl.find (tallySends s) c with
  | none => 0
  | some x =>
    if !((bindOf s x.queue).map (fun b => mayActFor s who b.tenant)).getD false then 0
    else field x.queue 0 14 + field x.dest 16 12 + field x.counter 28 6 + field 1 63 1

/-- Whether a reader sees a tally counter. -/
def counterSeen (s : State) (who : Sender) (c : Nat) : Option TallyRecv :=
  (Tbl.find (tallyRecvs s) c).filter (fun x => mayActFor s who x.tenant)

/-- TALLY_RECV[c] of a reader. -/
def tallyRecvWord (s : State) (who : Sender) (c : Nat) : Nat :=
  match counterSeen s who c with
  | none => 0
  | some x => field x.src 0 12 + field x.channel 12 6 + field x.tenant 20 12 + field (flag (tallyValid s x)) 63 1

/-- TALLY_BYTES[c], TALLY_PKTS[c] and LAST_SEQ[c] of a reader. -/
def tallyWord (s : State) (who : Sender) (c : Nat) (f : TallyCounter → Nat) : Nat :=
  if (counterSeen s who c).isNone then 0 else f (Tbl.at s.order.tally c TallyCounter.zero)

/-- The ordering block. -/
def orderingBlock (s : State) (who : Sender) (o : Nat) : Nat :=
  if o == 0 then field 0x40 0 7 + field 0x16 8 5 + field 0x7FF 16 11
  else if o == 8 then s.ctrl.atomic.toNat
  else if o == 0x30 then s.ctrl.publish.toNat
  else match element o 0x10 4 8 with
    | some k => dirState s k
    | none => match element o 0x100 64 8 with
      | some c => tallySendWord s who c
      | none => match element o 0x300 64 8 with
        | some c => tallyRecvWord s who c
        | none => match element o 0x500 64 8 with
          | some c => tallyWord s who c (fun x => x.bytes.toNat)
          | none => match element o 0x700 64 8 with
            | some c => tallyWord s who c (fun x => x.packets.toNat)
            | none => match element o 0x900 64 8 with
              | some c => tallyWord s who c (fun x => x.lastSeq.toNat + field (flag x.seen) 48 1)
              | none => 0

/-! ### Ifeverlink (R424) -/

/-- MEMBER_STATE. -/
def memberState (s : State) : Nat :=
  field (flag s.fabric.authority) 0 1 + field (flag (fenced s)) 1 1 + field (votesSeen s) 8 8 + field (votesTotal s) 16 8
    + field ((s.boot.image.map (·.tieNode)).getD 0) 24 12 + field (satur s.fabric.changes 28) 36 28

/-- MEMBER_VIEW[i]: the positions seen, this hub's own among them. -/
def memberView (s : State) (i : Nat) : Nat :=
  maskBy 64 (fun j => ((domainMembers s)[64 * i + j]?).any (fun n => n == hubNode s || s.fabric.seen.contains n))

/-- ROUTE_INFO of a reader. -/
def routeInfo (s : State) (who : Sender) : Nat :=
  let dst := (selOf s who).routeSel
  let r := Tbl.at s.comp.live.routes dst { primary := 15, alt1 := 15, alt2 := 15, alt3 := 15 }
  field r.primary 0 4 + field r.alt1 4 4 + field r.alt2 8 4 + field r.alt3 12 4
    + field (if reachable s dst then (activePort s dst).getD 15 else 15) 16 4
    + field (flag (s.fabric.changing.any (fun c => c.dest == dst))) 20 1

/-- IFL_PORT_STATE[p]. -/
def iflPortState (s : State) (p : Nat) : Nat :=
  let x := portOf s p
  field (portWidth x) 0 3 + field (flag x.training) 3 1 + field (if x.up then x.lanes else 0) 4 4 + field (flag x.encrypted) 8 1
    + field (if x.up then x.partner else 0) 16 12 + field (satur (retriesShown s x) 16) 32 16 + field (satur x.tagFail 16) 48 16

/-- The Ifeverlink block. -/
def iflBlock (s : State) (who : Sender) (o : Nat) : Nat :=
  if o == 0 then field 0xC 0 4 + field 8 4 4 + field 8 8 4 + field 0x80 16 8
  else if o == 8 then s.ctrl.ifl.toNat
  else if o == 0x10 then memberState s
  else if o == 0x30 then (selOf s who).routeSel
  else if o == 0x38 then routeInfo s who
  else match element o 0x20 2 8 with
    | some i => memberView s i
    | none => match element o 0x100 12 8 with
      | some p => iflPortState s p
      | none => 0

/-! ### CXL (R449) -/

/-- CXL_LINK_STATE[h]. -/
def cxlLinkState (s : State) (h : Nat) : Nat :=
  let x := cxlLink s h
  field (flag x.up) 0 1 + field (if x.up then x.width else 0) 1 5 + field x.rate 6 2 + field (flag x.ide) 8 1
    + field (flag x.holding) 9 1 + field (satur x.retrains 16) 16 16

/-- CXL_LD_STATE of a reader. -/
def cxlLdState (s : State) (who : Sender) : Nat :=
  let ld := senderKey who
  field ld 0 6 + field (maskBy 8 (fun d => Tbl.has (decodersOf s ld) d)) 8 8 + field (ldTenants s ld) 16 12
    + field (satur (ldOf s ld).early 16) 32 16 + field (satur (ldOf s ld).heldEnded 16) 48 16

/-- The CXL block. -/
def cxlBlock (s : State) (who : Sender) (o : Nat) : Nat :=
  if o == 0 then field 4 0 3 + field 0x40 8 7 + field 8 16 4 + field 0x800 24 12
  else if o == 8 then s.ctrl.cxl.toNat
  else if o == 0x200 then cxlLdState s who
  else match element o 0x100 8 8 with
    | some h => cxlLinkState s h
    | none => 0

/-! ### Composition (R477) -/

/-- COMP_STATE. -/
def compState (s : State) : Nat :=
  field ((compHubOf s).getD 0) 0 12 + field (flag s.comp.acting) 12 1 + field (flag (compHubOf s).isNone) 13 1
    + field (flag (decide (s.comp.live.lastSeq < s.comp.catchTo))) 14 1 + field s.comp.live.lastSeq 16 48

/-- KV_POOL_INFO of a reader. -/
def kvPoolInfo (s : State) (who : Sender) : Nat :=
  let n := (selOf s who).poolSel
  match Tbl.find s.comp.live.pools n with
  | none => 0
  | some p =>
    if !mayActFor s who p.tenant then 0
    else
      let keys := s.comp.keys.filter (fun k => k.pool == n)
      field 1 0 1 + field (flag p.spill) 1 1 + field (Tbl.at p.capacity (hubNode s) 0) 2 20
        + field (sumNat (keys.map (fun k => (k.pageList.filter (· != noPage)).length))) 22 20 + field keys.length 42 19

/-- The composition block. -/
def compositionBlock (s : State) (who : Sender) (o : Nat) : Nat :=
  if o == 0 then s.ctrl.comp.toNat
  else if o == 8 then compState s
  else if o == 0x10 then field (domainSeq s) 0 48 + field (flag s.comp.refused) 48 1
  else if o == 0x18 then field s.comp.refusedSeq 0 48
  else if o == 0x20 then field s.comp.bootGen 0 32
  else if o == 0x28 then (selOf s who).poolSel
  else if o == 0x30 then kvPoolInfo s who
  else 0

/-! ### Security (R511) -/

/-- SEC_STATE. -/
def secState (s : State) : Nat :=
  field s.sec.debug 0 2 + field (flag s.sec.saffronOn) 2 1 + field (saffronTenants s).length 16 12
    + field s.sec.ranges.length 32 11

/-- SVN_MIN. -/
def svnMinWord (s : State) : Nat :=
  let m (t : Nat) : Nat := Tbl.at s.sec.svnMin t 0
  field (m 1) 0 6 + field (m 2) 8 6 + field (m 3) 16 6 + field (m 4) 24 6 + field s.sec.ownerSet 32 4 + field s.sec.revoked 36 4
    + field (m 5) 40 6

/-- LMS_STATE. -/
def lmsState (s : State) : Nat :=
  field s.sec.nextLeaf 0 41 + field s.sec.fuseBlocks 41 11 + field (flag s.sec.exhausted) 52 1

/-- SKIM_STATE: BUSY while a Skim of scope MEMORY is in progress, ERASE_PENDING in units of 2 MiB. -/
def skimState (s : State) : Nat :=
  field s.sec.skimTenant 0 12 + field (flag (!s.sec.skims.isEmpty)) 12 1 + field (flag s.sec.skimDone) 13 1
    + field (sumNat (s.store.erasing.map (fun e => e.2.length))) 16 32

/-- PERF[i] of a reader. -/
def perfWord (s : State) (who : Sender) (i : Nat) : Nat :=
  let t := (selOf s who).perfSel
  if !mayActFor s who t then 0 else field (Tbl.at s.sec.perf (8 * t + i) 0) 0 8 + field s.sec.window 8 32

/-- The security block. -/
def securityBlock (s : State) (who : Sender) (o : Nat) : Nat :=
  if o == 0 then secState s
  else if o == 8 then Config.deviceId.toNat
  else if o == 0x10 then svnMinWord s
  else if o == 0x18 then lmsState s
  else if o == 0x20 then skimState s
  else if o == 0x28 then s.sec.nonce.toNat
  else if o == 0x30 then field s.sec.power 0 10 + field (flag s.sec.coarse) 10 1
  else if o == 0x38 then (selOf s who).perfSel
  else match element o 0x100 8 8 with
    | some i => perfWord s who i
    | none => 0

/-! ### Start-up (R534, R537, R540) -/

/-- BOOT_STATE. -/
def bootStateWord (s : State) : Nat :=
  let b := s.boot
  field b.state 0 2 + field b.slotUsed 2 1 + field (flag b.fallback) 3 1 + field b.resultA 4 3 + field b.resultB 8 3
    + field (flag b.locked) 11 1 + field b.active 12 1

/-- IMAGE_INFO. -/
def imageInfo (s : State) : Nat :=
  match s.boot.image with
  | none => 0
  | some i => field i.imageSeq 0 32 + field i.formatMinor 32 8 + field s.boot.imageSvn 40 6 + field i.sectionIds.length 48 8

/-- FW_STATE. -/
def fwState (s : State) : Nat :=
  let b := s.boot
  field b.fwPhase 0 3 + field b.fwError 4 4 + field (satur b.fwAttempts 16) 8 16 + field b.fwMajor 32 8 + field b.fwMinor 40 8

/-- CAL_STATE. -/
def calState (s : State) : Nat :=
  let b := s.boot
  let tag := match b.image.bind (·.cal) with
    | none => 0
    | some c => field 1 3 1 + field c.powerLo 8 8 + field c.powerHi 16 8 + field c.tjLo 24 8 + field c.tjHi 32 8
  field (flag b.calRaised) 0 1 + field b.calCause 1 2 + tag + field (satur b.calCount 16) 40 16

/-- Instances of a calibration item (R534). -/
def calInstances (item : Nat) : Nat :=
  if item == 1 then 8 else if item == 2 then 12 else if item == 3 then 12 else if item == 4 then 32 else if item == 5 then 48
  else if item == 6 then 64 else if item == 7 then 48 else if item == 8 then 4 else if item == 9 then 7 else 0

/-- The user offset of an item and instance; 0 where the image names none. -/
def calUser (s : State) (item inst : Nat) : Int :=
  match s.boot.image.bind (·.cal) with
  | none => 0
  | some c => ((c.entries.find? (fun e => e.item == item && e.inst == inst)).map (·.offset)).getD 0

/-- The effective value of an item (R537). -/
def calEffective (s : State) (item inst : Nat) : Int :=
  let factory := (Config.factoryCal item inst).toInt
  if hasCal s && !s.boot.calRaised then factory + calUser s item inst
  else factory + Tbl.at s.boot.drift (calKey item inst) 0

/-- CAL_VALUE. -/
def calValue (s : State) : Nat :=
  let item := bits s.calSel 0 8
  let inst := bits s.calSel 8 8
  if calInstances item ≤ inst then 0
  else field (Config.factoryCal item inst).toNat 0 16 + field (steps16 (calUser s item inst)) 16 16
    + field (steps16 (Tbl.at s.boot.drift (calKey item inst) 0)) 32 16 + field (steps16 (calEffective s item inst)) 48 16

/-- The start-up block. -/
def startUpBlock (s : State) (o : Nat) : Nat :=
  if o == 0 then bootStateWord s
  else if o == 8 then imageInfo s
  else if o == 0x10 then (s.boot.image.map (·.hash)).getD 0
  else if o == 0x18 then fwState s
  else if o == 0x20 then calState s
  else if o == 0x28 then s.calSel
  else if o == 0x30 then calValue s
  else 0

/-! ### Firmware and power (R551, R553, R559, R560) -/

/-- CORE_STATE[i]. -/
def coreState (s : State) (i : Nat) : Nat :=
  let c := coreAt s i
  let st := match c.run with
    | .notLoaded => 0
    | .running => 1
    | .restarting => 2
    | .failed => 3
  field st 0 2 + field c.cause 2 2 + field (satur c.restarts 16) 8 16

/-- PWR_STATE and THERM_STATE as they are shown: while R498 applies, as of the last 100 ms window (R559). -/
def shownPower (s : State) : Nat := if s.sec.saffronOn then s.power.shownPwr else pwrState s
def shownHeat (s : State) (k : Nat) : Nat := if s.sec.saffronOn then (s.power.shownTherm[k]?).getD 0 else thermState s k

/-- TRACE_EN[j]: the event points read all ones; while R498 applies the mask reads zero (R498, R553). -/
def traceWord (s : State) (j : Nat) : Nat :=
  if s.sec.saffronOn then 0 else if j == 0 then 2 ^ 64 - 1 else ((s.power.traceEn[j]?).getD 0).toNat

/-- The 32 bytes of a firmware log record (R551). -/
def logBytes (e : LogEntry) : List Byte :=
  leBytes 8 e.recno ++ leBytes 8 e.time ++ leBytes 2 e.core ++ leBytes 1 e.level ++ zeros 1 ++ leBytes 2 e.point ++ zeros 2
    ++ leBytes 8 e.arg

/-- A word of the log window, by its offset in the window (R560). -/
def logWord (s : State) (o : Nat) : Nat :=
  let slot := 16384 * s.power.logHalf + o / 32
  match s.power.ring.find? (fun e => e.recno % logSize == slot) with
  | none => 0
  | some e => leNat (((logBytes e).drop (o % 32 / 8 * 8)).take 8)

/-- The firmware and power block. -/
def powerBlock (s : State) (who : Sender) (o : Nat) : Nat :=
  let admin (w : Nat) : Nat := if hasAdmin s who then w else 0
  if o == 0 then s.ctrl.pwr.toNat
  else if o == 8 then admin (shownPower s)
  else if o == 0x200 then s.power.logHead
  else if o == 0x208 then admin s.power.logHalf
  else if 0x80000 ≤ o then admin (logWord s (o - 0x80000))
  else match element o 0x10 4 8 with
    | some k => admin (shownHeat s k)
    | none => match element o 0x100 35 8 with
      | some i => coreState s i
      | none => match element o 0x300 8 8 with
        | some j => admin (traceWord s j)
        | none => 0

/-! ### Package (R594, R599, R600) -/

/-- PIN_STATE. -/
def pinState (s : State) : Nat :=
  let p := s.pins
  field (flag p.pwrGood) 0 1 + field (flag p.pwrFailN) 1 1 + field (flag p.pwrFailSeen) 2 1 + field (flag p.resetLatched) 3 1
    + field p.slotLive 4 4 + field (flag s.boot.readyN) 8 1 + field (flag (s.faults.fault || s.boot.state == 2)) 9 1
    + field (flag s.faults.alert) 10 1 + field (flag p.thermtrip) 11 1

/-- Nominal voltage of a rail in mV, and its tolerance in mV (R594). -/
def railNominal (s : State) (r : Nat) : Nat × Nat :=
  if r == 0 then (s.power.vddMv, 15) else if r == 1 then (1050, 31) else if r == 2 then (1200, 60) else if r == 3 then (1100, 33)
  else if r == 4 then (1200, 60) else if r == 5 then (850, 25) else (1800, 90)

/-- RAIL_STATE[r]: as the last telemetry window left it. -/
def railState (s : State) (r : Nat) : Nat :=
  match s.power.rails[r]? with
  | none => 0
  | some (mv, q) =>
    let n := railNominal s r
    let out := decide (mv + n.2 < n.1) || decide (n.1 + n.2 < mv)
    field mv 0 12 + field q 16 10 + field (flag s.sec.coarse) 26 1 + field (flag out) 27 1

/-- The package block. -/
def packageBlock (s : State) (who : Sender) (o : Nat) : Nat :=
  if o == 0 then field 0x2400 0 16 + field 1 16 8 + field 3 24 8 + field Config.lot.toNat 32 16
  else if o == 8 then pinState s
  else match element o 0x100 7 8 with
    | some r => if hasAdmin s who then railState s r else 0
    | none => 0

/-! ### Fault rings and mailboxes (R546, R560, R566, R568, R582) -/

/-- FAULT_RING_STATE[l]. -/
def ringState (s : State) (l : Nat) : Nat :=
  match s.faults.rings[l]? with
  | none => 0
  | some r => field r.next 0 48 + field (satur r.overwritten 16) 48 16

/-- Whether a reader sees a fault record in full (R568). -/
def seesRecord (s : State) (who : Sender) (r : FaultRecord) : Bool :=
  hasAdmin s who || match r.tenant with
    | none => true
    | some t => mayActFor s who t

/-- A word of the fault-ring window, by its offset in it: ring, slot and word (R566, R568). -/
def faultWord (s : State) (who : Sender) (o : Nat) : Nat :=
  let slot := o % 0x100000 / 64
  match (s.faults.rings[o / 0x100000]?).bind (fun r => r.records.find? (fun f => f.seq % ringSize == slot)) with
  | none => 0
  | some f => leNat (((faultBytes (seesRecord s who f) f).drop (o % 64 / 8 * 8)).take 8)

/-- The fault block. -/
def faultBlock (s : State) (who : Sender) (o : Nat) : Nat :=
  if o == 0x20 then (selOf s who).rbsBase <<< 23
  else match element o 0 4 8 with
    | some l => ringState s l
    | none => 0

/-- MBOX_STATUS of a reader. -/
def mboxStatus (s : State) (who : Sender) : Nat :=
  let m := mailboxOf s who
  field (flag m.busy) 0 1 + field (flag m.done) 1 1 + field (flag m.err) 2 1 + field (flag m.waitFw) 3 1 + field m.tag 32 32

/-- A word of a mailbox buffer. -/
def bufferWord (t : Tbl Byte) (o : Nat) : Nat := leNat ((List.range 8).map (fun i => Tbl.at t (o + i) 0))

/-- The mailbox block. -/
def mailboxBlock (s : State) (who : Sender) (o : Nat) : Nat :=
  if o == 0 then mboxStatus s who
  else if o == 0x10 then field (mboxMajor s) 0 8 + field (mboxMinor s) 8 8 + field 0xFF0 16 12
  else if 0x1000 ≤ o ∧ o < 0x2000 then bufferWord (mailboxOf s who).request (o - 0x1000)
  else if 0x2000 ≤ o ∧ o < 0x3000 then bufferWord (mailboxOf s who).response (o - 0x2000)
  else 0

/-! ### The Hub Control Space (R50, R51) -/

/-- The identity block. -/
def identityBlock (s : State) (o : Nat) : Nat :=
  if o == 0x20 then faultSummary s
  else if o == 0x40 then bits s.boot.fnReady.toNat 0 64
  else if o == 0x48 then bits s.boot.fnReady.toNat 64 64
  else 0

/-- The per-chapter blocks (R50). -/
def chapterBlock (s : State) (who : Sender) (block o : Nat) : Nat :=
  if block == 0x20 then organisationBlock s o
  else if block == 0x21 then translationBlock s who o
  else if block == 0x22 then formatBlock s o
  else if block == 0x23 then engineBlock s o
  else if block == 0x24 then queueBlock s who o
  else if block == 0x25 then embeddingBlock s who o
  else if block == 0x26 then searchBlock s who o
  else if block == 0x27 then tierBlock s who o
  else if block == 0x28 then orderingBlock s who o
  else if block == 0x29 then iflBlock s who o
  else if block == 0x2A then cxlBlock s who o
  else if block == 0x2B then compositionBlock s who o
  else if block == 0x2C then securityBlock s who o
  else if block == 0x2D then startUpBlock s o
  else if block == 0x2E then powerBlock s who o
  else if block == 0x2F then faultBlock s who o
  else if block == 0x30 then packageBlock s who o
  else 0

/-- The word of a register at an aligned offset, as a sender reads it. The Readback Space window is not here: `rbsByte` gives
what it shows. -/
def readRegister (s : State) (who : Sender) (off : Nat) : Word :=
  BitVec.ofNat 64 (
    if off < 0x100000 then identityBlock s off
    else if 0x200000 ≤ off ∧ off < 0x400000 then queueWord s who ((off - 0x200000) / 128) (off % 128)
    else if 0x400000 ≤ off ∧ off < 0x800000 then faultWord s who (off - 0x400000)
    else if 0x1000000 ≤ off ∧ off < 0x1003000 then mailboxBlock s who (off - 0x1000000)
    else if 0x2000000 ≤ off ∧ off < 0x4000000 then chapterBlock s who (off / 0x100000) (off % 0x100000)
    else 0)

end Sys2Proof.Machine
end

