-- ==== Sys2Proof/Machine/Readback.lean ====
section
/-! DEFINITION. Readback Space, and the commands that read it and the fault rings (R443, R568, R573 to R579). An area whose
inner layout no rule gives reads as free bytes. -/

namespace Sys2Proof.Machine

open Sys2Proof

/-! ### Structures in their layouts -/

/-- Byte `i` of a structure; zero past its end. -/
def byteOf (l : List Byte) (i : Nat) : Byte := (l[i]?).getD 0

/-- Whether a reader sees what belongs to a tenant (R574). -/
def seesTenant (s : State) (who : Sender) (t : Nat) : Bool := hasAdmin s who || mayActFor s who t

/-- Bytes with their CRC-32C after them. -/
def sealed (l : List Byte) : List Byte := l ++ leBytes 4 (crc32c l)

/-- The 64 bytes of a descriptor (R182). -/
def descBytes (d : Descriptor) : List Byte :=
  leBytes 6 d.seq.toNat ++ leBytes 1 d.opcode ++ leBytes 1 d.flags ++ leBytes 1 d.srcFmt ++ leBytes 1 d.dstFmt ++ leBytes 2 d.param
    ++ leBytes 4 d.count ++ leBytes 8 d.ptr0 ++ leBytes 8 d.ptr1 ++ leBytes 8 d.ptr2 ++ leBytes 8 d.ptr3 ++ leBytes 8 d.arg0
    ++ leBytes 4 d.arg1 ++ leBytes 4 d.userTag

/-- The lowest SEQ of a queue with an open entry, or ACC_HEAD (R578). -/
def oldestOpen (s : State) (q : Nat) : Seq48 :=
  match s.works.filter (fun w => w.queue == q) with
  | [] => (queueOf s q).accHead
  | w :: rest => rest.foldl (fun m x => if Seq48.before x.seq m then x.seq else m) w.seq

/-- The recovery record of a queue (R578). -/
def recoveryRecord (s : State) (q : Nat) : List Byte :=
  let x := queueOf s q
  sealed (leBytes 6 x.lostFirst.toNat ++ zeros 2 ++ leBytes 6 x.lostLast.toNat ++ leBytes 1 (flag x.lostValid + 2 * flag x.history)
    ++ zeros 1 ++ leBytes 2 x.template ++ zeros 2 ++ leBytes 4 (s.works.filter (fun w => w.queue == q)).length
    ++ leBytes 6 (oldestOpen s q).toNat ++ zeros 30)

/-- STATE of an open entry in the status array (R579). -/
def workState (w : Work) : Nat := if redoSet w then 3 else if w.placed == 0 && w.phase == .ready then 1 else 2

/-- The status array's entry at a slot: an open entry, a completion not yet consumed, or a lost SEQ (R579). -/
def statusEntry (s : State) (q : Nat) (b : QueueBind) (slot : Nat) : Nat :=
  let at_ (seq : Seq48) : Bool := slotOf b seq == slot
  match s.works.find? (fun w => w.queue == q && at_ w.seq) with
  | some w => field w.seq.toNat 0 48 + field (workState w) 48 3 + field (flag w.strip) 51 1
  | none =>
    match (s.journals.flatMap (·.logs)).find? (fun r => r.queue == q && at_ r.record.seq) with
    | some r => field r.record.seq.toNat 0 48 + field 4 48 3 + field (statusCode r.record.status) 56 8
    | none =>
      let x := queueOf s q
      let n := ringEntries b
      let seq := x.lostFirst + BitVec.ofNat 48 ((slot + n - slotOf b x.lostFirst) % n)
      if x.lostValid && Seq48.notAfter seq x.lostLast then field seq.toNat 0 48 + field 5 48 3 else 0

/-- Area 0x01: a queue's state, recovery record and status array (R573). -/
def queueArea (s : State) (who : Sender) (off : Nat) : Byte :=
  let q := off / 2 ^ 20
  let o := off % 2 ^ 20
  match bindOf s q with
  | none => 0
  | some b =>
    if !seesTenant s who b.tenant then 0
    else if o < 0x80 then byteOf (leBytes 8 (queueStateWord s q b (o / 8 * 8))) (o % 8)
    else if o < 0xC0 then byteOf (recoveryRecord s q) (o - 0x80)
    else if 0x1000 ≤ o ∧ o < 0x1000 + 8 * ringEntries b then byteOf (leBytes 8 (statusEntry s q b ((o - 0x1000) / 8))) (o % 8)
    else 0

/-- Area 0x03: the segments in flight of a cluster; the stage that a segment stands in and the outstanding reads are free
(R573). -/
def segmentArea (s : State) (who : Sender) (off : Nat) : Option Byte :=
  let c := off / 2 ^ 20
  let o := off % 2 ^ 20
  if 0x10000 ≤ o then none
  else match ((s.units.clusters[c]?).bind (fun x => x.inFlight[o / 256]?)) with
    | none => some 0
    | some g =>
      match workOf s g.queue g.seq with
      | none => some 0
      | some w =>
        let i := o % 256
        if !seesTenant s who w.tenant then some 0
        else if i == 9 then none
        else some (byteOf (leBytes 2 g.queue ++ leBytes 6 g.seq.toNat ++ leBytes 1 g.shape ++ zeros 1 ++ leBytes 2 w.tenant
            ++ leBytes 4 g.number ++ zeros 48 ++ descBytes w.desc) i)

/-- Code of a region class, and of a phase (R312, R316). -/
def classCode : PageClass → Nat
  | .plain => 0 | .held => 1 | .published => 2
def phaseCode : PagePhase → Nat
  | .resident => 0 | .moving => 1 | .promoted => 2 | .lost => 3

/-- Units of a page that are not stored raw (R316). -/
def packedUnits (p : Page) : Nat :=
  if p.tier == .near then 0 else 512 - (p.forms.filter (fun e => e.2 == .raw)).length

/-- A page map entry (R316). -/
def pageEntry (p : Page) : List Byte :=
  sealed (leBytes 2 (field p.owner 0 12 + field 1 15 1)
    ++ leBytes 2 (match p.share with
        | none => 0
        | some n => field n 0 14 + field 1 14 1)
    ++ leBytes 1 (field p.want 0 2 + field (flag p.pooled) 2 1 + field (flag p.discard) 3 1 + field (classCode p.cls) 4 2
        + field (flag p.lastWins) 6 1)
    ++ leBytes 1 (field (tierNumber p.tier) 0 2 + field (phaseCode p.phase) 2 2 + field p.format 4 4)
    ++ zeros 2 ++ leBytes 8 (field p.index 0 43 + field p.unit 43 5) ++ leBytes 4 p.lastAccess ++ leBytes 2 (packedUnits p)
    ++ zeros 6)

/-- Area 0x07: page map entries; share entries, unit tables and the deep map have no addressing and are free (R573). -/
def pageArea (s : State) (who : Sender) (off : Nat) : Option Byte :=
  if 2 ^ 36 ≤ off then none
  else match Tbl.find s.store.pages (off / 32) with
    | none => some 0
    | some p => some (if seesTenant s who p.owner then byteOf (pageEntry p) (off % 32) else 0)

/-- A byte of Readback Space as a reader sees it; none where the spec leaves its value open (R573, R574). -/
def rbsByte (s : State) (who : Sender) (addr : Nat) : Option Byte :=
  let area := addr / 2 ^ 40
  let off := addr % 2 ^ 40
  if area == 0x01 then some (queueArea s who off)
  else if area == 0x03 then segmentArea s who off
  else if area == 0x07 then pageArea s who off
  else if area == 0x0B then
    some (if off < 0x400000 then byteOf (leBytes 8 (faultWord s who (off / 8 * 8))) (off % 8) else 0)
  else if area == 0x0A || area == 0x0C then if hasAdmin s who then none else some 0
  else if area == 0x0D then
    if !hasAdmin s who || (s.sec.saffronOn && decide (off < 2 ^ 30)) then some 0 else none
  else if area == 0 || 0x0F ≤ area then some 0
  else none

/-- The bytes of a range of Readback Space: open ones are drawn free. -/
def rbsBytes (s : State) (who : Sender) (addr len : Nat) : List Byte :=
  (List.range len).map (fun i => (rbsByte s who (addr + i)).getD (Config.freeByte (s.free + i)))

/-! ### FREEZE (R576) -/

/-- The unit that holds an address, for a FREEZE: a queue, a journal region, a cluster, or a cluster or flash channel of the
engine state; none in the other areas, where a FREEZE holds nothing. -/
def freezeUnit (addr : Nat) : Option (Nat × Nat) :=
  let area := addr / 2 ^ 40
  let off := addr % 2 ^ 40
  if area == 0x01 then some (1, off / 2 ^ 20)
  else if area == 0x02 then some (2, off / 2 ^ 30)
  else if area == 0x03 then some (3, off / 2 ^ 20)
  else if area == 0x04 then some (3, off / 2 ^ 28)
  else if area == 0x0E then some (4, off / 2 ^ 28)
  else none

/-- Whether a reader may freeze a unit: a device without ADMIN only a queue of a tenant bound to it. -/
def mayFreeze (s : State) (who : Sender) (addr : Nat) : Bool :=
  hasAdmin s who || match freezeUnit addr with
    | some (1, q) => ((bindOf s q).map (fun b => mayActFor s who b.tenant)).getD false
    | _ => false

/-- Whether a read with FREEZE is taken: it lies in one unit that the reader may freeze. -/
def freezeOk (s : State) (who : Sender) (addr len : Nat) : Bool :=
  freezeUnit addr == freezeUnit (addr + len - 1) && mayFreeze s who addr

/-- Whether a read of Readback Space keeps its ranges (R443, R573, R575, R576). -/
def rbsReadOk (s : State) (who : Sender) (addr len most : Nat) (freeze : Bool) : Bool :=
  decide (8 ≤ len) && decide (len ≤ most) && len % 8 == 0 && decide (addr + len ≤ 2 ^ 48) && (!freeze || freezeOk s who addr len)

/-- READ_RBS; the hold of a FREEZE begins and ends inside this command (R443, R576). -/
def execReadRbs (ld address len : Nat) (freeze : Bool) (s : State) : Host.Outcome State Fault Refusal :=
  command s (fun s =>
    if rbsReadOk s (.ld ld) address len 4096 freeze then
      answer (spend s len) ld cxlSuccess ((rbsBytes s (.ld ld) address len).map (·.toNat))
    else answer s ld cxlInvalidInput [])

/-! ### Fault records (R443, R568, R575) -/

/-- Records of a level from a sequence number on, at most `count`, oldest first. -/
def faultsFrom (s : State) (level first count : Nat) : List FaultRecord :=
  match s.faults.rings[level]? with
  | none => []
  | some r => (r.records.filter (fun f => decide (first ≤ f.seq))).take count

/-- Fault records as a reader sees them. -/
def shownFaults (s : State) (who : Sender) (l : List FaultRecord) : List Byte :=
  l.flatMap (fun f => faultBytes (seesRecord s who f) f)

/-- READ_FAULTS (R443, R568). -/
def execReadFaults (ld level count first : Nat) (s : State) : Host.Outcome State Fault Refusal :=
  command s (fun s =>
    if level < 4 ∧ 1 ≤ count ∧ count ≤ 64 then
      let l := faultsFrom s level first count
      answer s ld cxlSuccess ((leBytes 2 l.length ++ zeros 6 ++ shownFaults s (.ld ld) l).map (·.toNat))
    else answer s ld cxlInvalidInput [])

/-! ### The management port's reads (R575) -/

/-- RBS_READ at the readback engine, which no core serves. -/
def rbsReadNow (s : State) (tag address len : Nat) (freeze : Bool) : State :=
  if rbsReadOk s .mgmt address len 4072 freeze then
    respond (spend s len) .mgmt 0x0C00 tag .ok (zeros 7 ++ rbsBytes s .mgmt address len)
  else respondStatus s .mgmt 0x0C00 tag .formatUnsupported

/-- FAULT_READ at the readback engine: the records stand from byte 8 on. -/
def faultReadNow (s : State) (tag level count first : Nat) : State :=
  if level < 4 ∧ 1 ≤ count ∧ count ≤ 63 then
    respond s .mgmt 0x0C01 tag .ok (zeros 7 ++ shownFaults s .mgmt (faultsFrom s level first count))
  else respondStatus s .mgmt 0x0C01 tag .formatUnsupported

/-- A message for the readback engine that meets a busy mailbox is ignored (R549). -/
def readbackMessage (s : State) (f : State → State) : State := if (mailboxOf s .mgmt).busy then goIgnored s .mgmt else f s

/-- RBS_READ (R575). -/
def execRbsRead (tag address len : Nat) (freeze : Bool) (s : State) : Host.Outcome State Fault Refusal :=
  act s (fun s => readbackMessage s (fun s => rbsReadNow s tag address len freeze))

/-- FAULT_READ (R575). -/
def execFaultRead (tag level count first : Nat) (s : State) : Host.Outcome State Fault Refusal :=
  act s (fun s => readbackMessage s (fun s => faultReadNow s tag level count first))

end Sys2Proof.Machine
end

