-- ==== Sys2Proof/Machine/Registers.lean ====
section
/-! DEFINITION. Writes of the Hub Control Space: each field by its access code (R12 to R14, R51). -/

namespace Sys2Proof.Machine

open Sys2Proof

/-! ### Fields -/

/-- Whether a sender may change RWL fields now (R13, R526). -/
def mayWriteRwl (s : State) (who : Sender) : Bool := hasAdmin s who && !s.boot.locked

/-- A write to a register with RWL fields: they take the written value; every other bit stays (R13, R14, R526). -/
def writeRwl (s : State) (who : Sender) (r : CtrlReg) (w : Word) : State :=
  if mayWriteRwl s who then setCtrl s r (takeFields (ctrlAt s r) w (rwlFields r)) else s

/-- A change where bit `i` of the written word is 1: of a flag that it clears, or of an action. -/
def ifBit (w : Word) (i : Nat) (f : State → State) (s : State) : State := if w.getLsbD i then f s else s

/-- Changes the selection registers of the writer. -/
def select (s : State) (who : Sender) (f : LdRegs → LdRegs) : State := modLdRegs s (senderKey who) f

/-- FAULT and ALERT clear where a 1 is written, for a sender that may (R569). -/
def clearSummary (s : State) (who : Sender) (w : Word) : State :=
  if !hasAdmin s who then s
  else { s with faults := { s.faults with fault := s.faults.fault && !w.getLsbD 8, alert := s.faults.alert && !w.getLsbD 9 } }

/-- TRACE_EN[j]: taken from a sender with the right while debug is open and R498 does not apply; TRACE_EN[0] is RO (R553,
R559, R560). -/
def writeTrace (s : State) (who : Sender) (j : Nat) (w : Word) : State :=
  if hasAdmin s who && s.sec.debug != 0 && !s.sec.saffronOn && j != 0 then
    { s with power := { s.power with traceEn := s.power.traceEn.set j w } }
  else s

/-- The state that an outcome goes on with. -/
def nextOf (s : State) (o : Host.Outcome State Fault Refusal) : State :=
  match o with
  | .next t => t
  | .fault _ => s
  | .refused _ => s

/-! ### Doorbells, queues, Strip, TLB (R85, R178 to R180, R213, R218, R220) -/

/-- A doorbell write; the management port has no queues. -/
def writeDoorbell (s : State) (who : Sender) (q o : Nat) (w : Word) : State :=
  match who with
  | .mgmt => s
  | .ld n =>
    let seq := BitVec.ofNat 48 w.toNat
    if o == 0 then nextOf s (execSqTail n q seq s)
    else if o == 8 then nextOf s (execCqHead n q seq s)
    else s

/-- A write to a queue's words, of a queue that the writer sees. -/
def writeQueue (s : State) (who : Sender) (q o : Nat) (w : Word) : State :=
  match who with
  | .mgmt => s
  | .ld n =>
    if !((bindOf s q).map (fun b => boundTo s n b.tenant)).getD false then s
    else if o == 0x38 then
      modQueue s q (fun x => { x with dbErr := x.dbErr && !w.getLsbD 12, lost := x.lost && !w.getLsbD 13 })
    else if o == 0x40 then ifBit w 0 (fun s => resumeNow s n q (BitVec.ofNat 48 (bits w.toNat 16 48))) s
    else s

/-- STRIP_CMD: a Reserved KIND is not taken. -/
def writeStrip (s : State) (who : Sender) (w : Word) : State :=
  let target := bits w.toNat 16 14
  let kind := bits w.toNat 0 2
  if kind == 0 then stripQueueNow s who target
  else if kind == 1 then stripTenantNow s who (target % 4096)
  else if kind == 2 then stripClusterNow s who (target % 32)
  else stripError s who

/-- TLB_INV of a logical device. -/
def writeTlbInv (s : State) (who : Sender) (w : Word) : State :=
  match who with
  | .mgmt => s
  | .ld n => tlbInvNow s n (bits w.toNat 0 12)

/-! ### The mailbox (R546 to R549, R575) -/

/-- The request buffer of a sender, its header and a body of 4,080 bytes. -/
def requestBuffer (s : State) (who : Sender) : List Byte :=
  (List.range 4096).map (fun i => Tbl.at (mailboxOf s who).request i 0)

/-- GO submits the request buffer; the messages of the readback engine are the management port's and need no core. -/
def submitRequest (s : State) (who : Sender) : State :=
  let b := requestBuffer s who
  let x := b.drop 16
  let id := requestId b
  let tag := requestTag b
  if (mailboxOf s who).busy then goIgnored s who
  else if who == .mgmt && id == 0x0C00 then
    if requestOk s b 13 then rbsReadNow s tag (fieldAt x 0 8) (fieldAt x 8 4) (bit (fieldAt x 12 1) 0)
    else respondStatus s who id tag .formatUnsupported
  else if who == .mgmt && id == 0x0C01 then
    if requestOk s b 16 then faultReadNow s tag (fieldAt x 0 1) (fieldAt x 2 2) (fieldAt x 8 8)
    else respondStatus s who id tag .formatUnsupported
  else submit serveMessage s who tag (.raw id b)

/-- A write to the mailbox block. -/
def writeMailbox (s : State) (who : Sender) (o : Nat) (w : Word) : State :=
  if o == 0 then modMailbox s who (fun m => { m with done := m.done && !w.getLsbD 1, err := m.err && !w.getLsbD 2 })
  else if o == 8 then ifBit w 0 (fun s => submitRequest s who) s
  else if 0x1000 ≤ o ∧ o < 0x2000 then
    modMailbox s who (fun m => { m with request := putBytes m.request (o - 0x1000) (leBytes 8 w.toNat) })
  else if 0x2000 ≤ o ∧ o < 0x3000 then
    modMailbox s who (fun m => { m with response := putBytes m.response (o - 0x2000) (leBytes 8 w.toNat) })
  else s

/-! ### One word (R51) -/

/-- A write to a per-chapter register that is not of the mailbox, the queues or the doorbells. -/
def writeChapter (s : State) (who : Sender) (off : Nat) (w : Word) : State :=
  let v := w.toNat
  match ctrlRegs.find? (fun r => ctrlOffset r == off) with
  | some r =>
    let s := writeRwl s who r w
    if r == .clove then ifBit w 1 clearSketches s else s
  | none =>
    if off == 0x02100018 then writeTlbInv s who w
    else if off == 0x02100020 then
      if w.getLsbD 1 then { s with invs := Tbl.change s.invs (senderKey who) Invalidation.idle (fun x => { x with err := false }) }
      else s
    else if off == 0x02200010 then ifBit w 1 (fun s => { s with units := { s.units with srFailSeen := false } }) s
    else if off == 0x02400008 then writeStrip s who w
    else if off == 0x02400010 then
      { s with strips := Tbl.change s.strips (senderKey who) Strip.idle (fun x =>
          { x with err := x.err && !w.getLsbD 1, done := x.done && !w.getLsbD 2 }) }
    else if off == 0x02500018 then select s who (fun r => { r with tableSel := bits v 0 16 })
    else if off == 0x02600008 then select s who (fun r => { r with indexSel := bits v 0 16 })
    else if off == 0x02700008 then select s who (fun r => { r with tenantSel := bits v 0 12 })
    else if off == 0x02900030 then select s who (fun r => { r with routeSel := bits v 0 12 })
    else if off == 0x02900200 then if hasAdmin s who then trainPort s (bits v 0 4) else s
    else if off == 0x02B00010 then ifBit w 48 (fun s => modComp s (fun c => { c with refused := false })) s
    else if off == 0x02B00028 then select s who (fun r => { r with poolSel := bits v 0 8 })
    else if off == 0x02C00020 then ifBit w 13 (fun s => { s with sec := { s.sec with skimDone := false } }) s
    else if off == 0x02C00038 then select s who (fun r => { r with perfSel := bits v 0 12 })
    else if off == 0x02D00028 then { s with calSel := bits v 0 16 }
    else if off == 0x02E00208 then
      if hasAdmin s who then { s with power := { s.power with logHalf := bits v 0 1 } } else s
    else if off == 0x02F00020 then select s who (fun r => { r with rbsBase := bits v 23 25 })
    else if off == 0x03000008 then ifBit w 2 (fun s => modPins s (fun p => { p with pwrFailSeen := false })) s
    else match element off 0x02E00300 8 8 with
      | some j => writeTrace s who j w
      | none => s

/-- A write of one word. A field that ignores writes keeps its value, and a Reserved offset does nothing (R12 to R14). -/
def writeWord (s : State) (who : Sender) (off : Nat) (w : Word) : State :=
  if off == 0x20 then clearSummary s who w
  else if 0x100000 ≤ off ∧ off < 0x200000 then writeDoorbell s who ((off - 0x100000) / 64) (off % 64) w
  else if 0x200000 ≤ off ∧ off < 0x400000 then writeQueue s who ((off - 0x200000) / 128) (off % 128) w
  else if 0x1000000 ≤ off ∧ off < 0x1003000 then writeMailbox s who (off - 0x1000000) w
  else if 0x2000000 ≤ off ∧ off < 0x4000000 then writeChapter s who off w
  else s

/-- Writes of consecutive words, in ascending address order (R51). -/
def writeWords (s : State) (who : Sender) (off : Nat) : List (List Byte) → State
  | [] => s
  | b :: rest => writeWords (writeWord s who off (BitVec.ofNat 64 (leNat b))) who (off + 8) rest

/-- Whether an access is made of whole aligned words; any other one does nothing (R51). -/
def wholeWords (off len : Nat) : Bool := off % 8 == 0 && len % 8 == 0

/-- REGISTER_WRITE (R13, R51). -/
def execRegisterWrite (who : Sender) (offset : Nat) (data : List Byte) (s : State) : Host.Outcome State Fault Refusal :=
  act s (fun s => if wholeWords offset data.length then writeWords s who offset (chunks 8 (data.length / 8) data) else s)

/-- FAULT_SUMMARY_CLEAR (R569). -/
def execFaultSummaryClear (who : Sender) (value : Word) (s : State) : Host.Outcome State Fault Refusal :=
  act s (fun s => clearSummary s who value)

/-- CLOVE_CLEAR: a write of CLOVE_CTRL.CLEAR, a WO field that no rule restricts by sender (R268). -/
def execCloveClear (_who : Sender) (s : State) : Host.Outcome State Fault Refusal := act s clearSketches

end Sys2Proof.Machine
end

