-- ==== Sys2Proof/Machine/Dispatch.lean ====
section
/-! DEFINITION. The meaning of each command: one arm per constructor of Instr, in the order of the opcode table. -/

namespace Sys2Proof.Machine

open Sys2Proof

def exec (i : Instr) (s : State) : Host.Outcome State Fault Refusal :=
  match i with
  | .registerWrite who offset data => Sys2Proof.Machine.execRegisterWrite who offset data s
  | .faultSummaryClear who value => Sys2Proof.Machine.execFaultSummaryClear who value s
  | .sqTail ld queue tail => Sys2Proof.Machine.execSqTail ld queue tail s
  | .cqHead ld queue head => Sys2Proof.Machine.execCqHead ld queue head s
  | .badSeq queue => Sys2Proof.Machine.execBadSeq queue s
  | .descriptorAccept queue => Sys2Proof.Machine.execDescriptorAccept queue s
  | .segmentPlace queue seq => Sys2Proof.Machine.execSegmentPlace queue seq s
  | .shapeChange cluster => Sys2Proof.Machine.execShapeChange cluster s
  | .dwellExpiry shape => Sys2Proof.Machine.execDwellExpiry shape s
  | .nop queue seq => Sys2Proof.Machine.execNop queue seq s
  | .gather queue seq => Sys2Proof.Machine.execGather queue seq s
  | .pool queue seq => Sys2Proof.Machine.execPool queue seq s
  | .scatterAdd queue seq => Sys2Proof.Machine.execScatterAdd queue seq s
  | .copyConvert queue seq => Sys2Proof.Machine.execCopyConvert queue seq s
  | .pqScan queue seq => Sys2Proof.Machine.execPqScan queue seq s
  | .hamScan queue seq => Sys2Proof.Machine.execHamScan queue seq s
  | .append queue seq => Sys2Proof.Machine.execAppend queue seq s
  | .delete queue seq => Sys2Proof.Machine.execDelete queue seq s
  | .seal queue seq => Sys2Proof.Machine.execSeal queue seq s
  | .topkMerge queue seq => Sys2Proof.Machine.execTopkMerge queue seq s
  | .layerStream queue seq => Sys2Proof.Machine.execLayerStream queue seq s
  | .kvPush queue seq => Sys2Proof.Machine.execKvPush queue seq s
  | .kvFetch queue seq bootGen held => Sys2Proof.Machine.execKvFetch queue seq bootGen held s
  | .pageOut queue seq => Sys2Proof.Machine.execPageOut queue seq s
  | .pageIn queue seq => Sys2Proof.Machine.execPageIn queue seq s
  | .atomicBatch queue seq => Sys2Proof.Machine.execAtomicBatch queue seq s
  | .fill queue seq => Sys2Proof.Machine.execFill queue seq s
  | .fenceQueue queue seq => Sys2Proof.Machine.execFenceQueue queue seq s
  | .fenceHub queue seq => Sys2Proof.Machine.execFenceHub queue seq s
  | .fenceFabric queue seq => Sys2Proof.Machine.execFenceFabric queue seq s
  | .waitTally queue seq => Sys2Proof.Machine.execWaitTally queue seq s
  | .glazePublish queue seq => Sys2Proof.Machine.execGlazePublish queue seq s
  | .glazeDiscard queue seq => Sys2Proof.Machine.execGlazeDiscard queue seq s
  | .glazeRefresh queue seq => Sys2Proof.Machine.execGlazeRefresh queue seq s
  | .glazeVersion queue seq => Sys2Proof.Machine.execGlazeVersion queue seq s
  | .redoApply queue seq => Sys2Proof.Machine.execRedoApply queue seq s
  | .descriptorComplete queue => Sys2Proof.Machine.execDescriptorComplete queue s
  | .msixPendingSend ld vector => Sys2Proof.Machine.execMsixPendingSend ld vector s
  | .stripQueue who queue => Sys2Proof.Machine.execStripQueue who queue s
  | .stripTenant who tenant => Sys2Proof.Machine.execStripTenant who tenant s
  | .stripCluster who cluster => Sys2Proof.Machine.execStripCluster who cluster s
  | .stripDone who => Sys2Proof.Machine.execStripDone who s
  | .resume ld queue tail => Sys2Proof.Machine.execResume ld queue tail s
  | .replay journal => Sys2Proof.Machine.execReplay journal s
  | .journalRebuildDone journal => Sys2Proof.Machine.execJournalRebuildDone journal s
  | .tlbInv ld tenant => Sys2Proof.Machine.execTlbInv ld tenant s
  | .tlbInvDone ld => Sys2Proof.Machine.execTlbInvDone ld s
  | .atsCompletion tag reply => Sys2Proof.Machine.execAtsCompletion tag reply s
  | .atsTimeout tag => Sys2Proof.Machine.execAtsTimeout tag s
  | .atsInvalidateRequest ld pasid addr size => Sys2Proof.Machine.execAtsInvalidateRequest ld pasid addr size s
  | .atsInvalidateCompletion ld => Sys2Proof.Machine.execAtsInvalidateCompletion ld s
  | .cloveClear who => Sys2Proof.Machine.execCloveClear who s
  | .cloveHalve cluster => Sys2Proof.Machine.execCloveHalve cluster s
  | .srSourceFail cluster lane => Sys2Proof.Machine.execSrSourceFail cluster lane s
  | .srSourcePass cluster lane => Sys2Proof.Machine.execSrSourcePass cluster lane s
  | .poolReq src h entries => Sys2Proof.Machine.execPoolReq src h entries s
  | .poolRsp src h partials stale => Sys2Proof.Machine.execPoolRsp src h partials stale s
  | .busy src h => Sys2Proof.Machine.execBusy src h s
  | .straggle queue seq part => Sys2Proof.Machine.execStraggle queue seq part s
  | .prep src h indices => Sys2Proof.Machine.execPrep src h indices s
  | .prepRsp src h => Sys2Proof.Machine.execPrepRsp src h s
  | .delta src h items => Sys2Proof.Machine.execDelta src h items s
  | .deltaAck src h => Sys2Proof.Machine.execDeltaAck src h s
  | .release src h => Sys2Proof.Machine.execRelease src h s
  | .load m len row => Sys2Proof.Machine.execLoad m len row s
  | .store m data => Sys2Proof.Machine.execStore m data s
  | .atomic m scope queue seq part entries => Sys2Proof.Machine.execAtomic m scope queue seq part entries s
  | .atomicCheck m scope queue seq part entries => Sys2Proof.Machine.execAtomicCheck m scope queue seq part entries s
  | .loadRsp src tag status epoch data => Sys2Proof.Machine.execLoadRsp src tag status epoch data s
  | .storeAck src tag status => Sys2Proof.Machine.execStoreAck src tag status s
  | .atomicRsp src tag status olds => Sys2Proof.Machine.execAtomicRsp src tag status olds s
  | .iflTimeout tag => Sys2Proof.Machine.execIflTimeout tag s
  | .readShared m => Sys2Proof.Machine.execReadShared m s
  | .readOwn m => Sys2Proof.Machine.execReadOwn m s
  | .upgrade m => Sys2Proof.Machine.execUpgrade m s
  | .evict m dirty => Sys2Proof.Machine.execEvict m dirty s
  | .retry m request ticket => Sys2Proof.Machine.execRetry m request ticket s
  | .fwdShared m requester => Sys2Proof.Machine.execFwdShared m requester s
  | .fwdOwn m requester => Sys2Proof.Machine.execFwdOwn m requester s
  | .inv m => Sys2Proof.Machine.execInv m s
  | .recall m => Sys2Proof.Machine.execRecall m s
  | .data m status granted line => Sys2Proof.Machine.execData m status granted line s
  | .grant m => Sys2Proof.Machine.execGrant m s
  | .nack m ticket => Sys2Proof.Machine.execNack m ticket s
  | .invAck m line => Sys2Proof.Machine.execInvAck m line s
  | .versionNotice m version => Sys2Proof.Machine.execVersionNotice m version s
  | .versionReq m => Sys2Proof.Machine.execVersionReq m s
  | .versionRsp m status version => Sys2Proof.Machine.execVersionRsp m status version s
  | .draftLeaseExpiry region tenant writer => Sys2Proof.Machine.execDraftLeaseExpiry region tenant writer s
  | .tallyStore m data => Sys2Proof.Machine.execTallyStore m data s
  | .tallyCreditSend queue seq => Sys2Proof.Machine.execTallyCreditSend queue seq s
  | .tallyCredit src channel tag seq bytes packets => Sys2Proof.Machine.execTallyCredit src channel tag seq bytes packets s
  | .creditAck src tag => Sys2Proof.Machine.execCreditAck src tag s
  | .controlFlit port ackSeq retry lanes credits tagOk => Sys2Proof.Machine.execControlFlit port ackSeq retry lanes credits tagOk s
  | .flitForward port src dst vc hopsLeft kind payload => Sys2Proof.Machine.execFlitForward port src dst vc hopsLeft kind payload s
  | .laneLockLoss port lane => Sys2Proof.Machine.execLaneLockLoss port lane s
  | .laneErrorWindow port lane => Sys2Proof.Machine.execLaneErrorWindow port lane s
  | .linkRetrain who port => Sys2Proof.Machine.execLinkRetrain who port s
  | .linkTrainingDone port lanes partner domain device encrypt => Sys2Proof.Machine.execLinkTrainingDone port lanes partner domain device encrypt s
  | .helloTimeout port reason => Sys2Proof.Machine.execHelloTimeout port reason s
  | .linkKeyUpdateDue port => Sys2Proof.Machine.execLinkKeyUpdateDue port s
  | .barrier src vc => Sys2Proof.Machine.execBarrier src vc s
  | .barrierAck src => Sys2Proof.Machine.execBarrierAck src s
  | .linkFate port fseq => Sys2Proof.Machine.execLinkFate port fseq s
  | .linkFateTimeout port => Sys2Proof.Machine.execLinkFateTimeout port s
  | .heartbeatInterval => Sys2Proof.Machine.execHeartbeatInterval s
  | .heartbeat src seen votes authority device => Sys2Proof.Machine.execHeartbeat src seen votes authority device s
  | .memberUnreachable node => Sys2Proof.Machine.execMemberUnreachable node s
  | .change src changeSeq cmd => Sys2Proof.Machine.execChange src changeSeq cmd s
  | .changeAnswer src changeSeq status => Sys2Proof.Machine.execChangeAnswer src changeSeq status s
  | .forward src tag cmd => Sys2Proof.Machine.execForward src tag cmd s
  | .forwardAnswer src tag status => Sys2Proof.Machine.execForwardAnswer src tag status s
  | .flipRequest src table shard epoch => Sys2Proof.Machine.execFlipRequest src table shard epoch s
  | .graceAdvance table => Sys2Proof.Machine.execGraceAdvance table s
  | .catchUp src changeSeq => Sys2Proof.Machine.execCatchUp src changeSeq s
  | .snapshot src changeSeq comp => Sys2Proof.Machine.execSnapshot src changeSeq comp s
  | .seqQuery src changeSeq => Sys2Proof.Machine.execSeqQuery src changeSeq s
  | .seqReport src changeSeq changes => Sys2Proof.Machine.execSeqReport src changeSeq changes s
  | .replicaStale src table entry epoch => Sys2Proof.Machine.execReplicaStale src table entry epoch s
  | .bindTenant ld tenant pasid admin => Sys2Proof.Machine.execBindTenant ld tenant pasid admin s
  | .unbindTenant ld tenant => Sys2Proof.Machine.execUnbindTenant ld tenant s
  | .setHdmMap ld decoder valid tenant target saBase => Sys2Proof.Machine.execSetHdmMap ld decoder valid tenant target saBase s
  | .bindQueue queue tenant template irqLd => Sys2Proof.Machine.execBindQueue queue tenant template irqLd s
  | .unbindQueue queue => Sys2Proof.Machine.execUnbindQueue queue s
  | .setQuota tenant tier floor ceiling => Sys2Proof.Machine.execSetQuota tenant tier floor ceiling s
  | .putTable id desc => Sys2Proof.Machine.execPutTable id desc s
  | .dropTable id => Sys2Proof.Machine.execDropTable id s
  | .moveShard table shard baseEpoch newNode newBase => Sys2Proof.Machine.execMoveShard table shard baseEpoch newNode newBase s
  | .refreshReplica table entry => Sys2Proof.Machine.execRefreshReplica table entry s
  | .putIndex id desc hub => Sys2Proof.Machine.execPutIndex id desc hub s
  | .dropIndex id hub => Sys2Proof.Machine.execDropIndex id hub s
  | .setRoute hub dest route => Sys2Proof.Machine.execSetRoute hub dest route s
  | .setKvPool pool spill tenant hub pages => Sys2Proof.Machine.execSetKvPool pool spill tenant hub pages s
  | .kvAttach pool node => Sys2Proof.Machine.execKvAttach pool node s
  | .kvDetach pool node => Sys2Proof.Machine.execKvDetach pool node s
  | .skimContext tenant => Sys2Proof.Machine.execSkimContext tenant s
  | .skimMemory tenant => Sys2Proof.Machine.execSkimMemory tenant s
  | .skimDone tenant => Sys2Proof.Machine.execSkimDone tenant s
  | .fmIdentify => Sys2Proof.Machine.execFmIdentify s
  | .getLdInfo port => Sys2Proof.Machine.execGetLdInfo port s
  | .getLdAllocations port => Sys2Proof.Machine.execGetLdAllocations port s
  | .setLdAllocations port start amounts => Sys2Proof.Machine.execSetLdAllocations port start amounts s
  | .getQosControl port => Sys2Proof.Machine.execGetQosControl port s
  | .setQosControl port value => Sys2Proof.Machine.execSetQosControl port value s
  | .getQosStatus port => Sys2Proof.Machine.execGetQosStatus port s
  | .getQosAllocatedBw port => Sys2Proof.Machine.execGetQosAllocatedBw port s
  | .setQosAllocatedBw port start amounts => Sys2Proof.Machine.execSetQosAllocatedBw port start amounts s
  | .getQosBwLimit port => Sys2Proof.Machine.execGetQosBwLimit port s
  | .setQosBwLimit port start amounts => Sys2Proof.Machine.execSetQosBwLimit port start amounts s
  | .getEventRecords ld log => Sys2Proof.Machine.execGetEventRecords ld log s
  | .clearEventRecords ld log all handles => Sys2Proof.Machine.execClearEventRecords ld log all handles s
  | .getEventInterruptPolicy ld => Sys2Proof.Machine.execGetEventInterruptPolicy ld s
  | .setEventInterruptPolicy ld policy => Sys2Proof.Machine.execSetEventInterruptPolicy ld policy s
  | .getFwInfo ld => Sys2Proof.Machine.execGetFwInfo ld s
  | .getTimestamp ld => Sys2Proof.Machine.execGetTimestamp ld s
  | .setTimestamp ld value => Sys2Proof.Machine.execSetTimestamp ld value s
  | .getSupportedLogs ld => Sys2Proof.Machine.execGetSupportedLogs ld s
  | .getLog ld commandEffects => Sys2Proof.Machine.execGetLog ld commandEffects s
  | .identifyMemoryDevice ld => Sys2Proof.Machine.execIdentifyMemoryDevice ld s
  | .getHealthInfo ld => Sys2Proof.Machine.execGetHealthInfo ld s
  | .getAlertConfiguration ld => Sys2Proof.Machine.execGetAlertConfiguration ld s
  | .setAlertConfiguration ld thresholds => Sys2Proof.Machine.execSetAlertConfiguration ld thresholds s
  | .getPoisonList ld dpa len => Sys2Proof.Machine.execGetPoisonList ld dpa len s
  | .injectPoison ld dpa => Sys2Proof.Machine.execInjectPoison ld dpa s
  | .clearPoison ld dpa data => Sys2Proof.Machine.execClearPoison ld dpa data s
  | .getScanMediaCapabilities ld dpa len => Sys2Proof.Machine.execGetScanMediaCapabilities ld dpa len s
  | .scanMedia ld dpa len => Sys2Proof.Machine.execScanMedia ld dpa len s
  | .getScanMediaResults ld => Sys2Proof.Machine.execGetScanMediaResults ld s
  | .getHubInfo ld => Sys2Proof.Machine.execGetHubInfo ld s
  | .readRbs ld address len freeze => Sys2Proof.Machine.execReadRbs ld address len freeze s
  | .readFaults ld level count first => Sys2Proof.Machine.execReadFaults ld level count first s
  | .rbsRead tag address len freeze => Sys2Proof.Machine.execRbsRead tag address len freeze s
  | .faultRead tag level count first => Sys2Proof.Machine.execFaultRead tag level count first s
  | .allocPages who tag tenant count flags format cls pub => Sys2Proof.Machine.execAllocPages who tag tenant count flags format cls pub s
  | .freePages who tag tenant count firstSa => Sys2Proof.Machine.execFreePages who tag tenant count firstSa s
  | .evictionWaitExpiry ticket => Sys2Proof.Machine.execEvictionWaitExpiry ticket s
  | .lineSalvage who tag tenant lines firstSa => Sys2Proof.Machine.execLineSalvage who tag tenant lines firstSa s
  | .bindContent who tag tenant pages firstSa record => Sys2Proof.Machine.execBindContent who tag tenant pages firstSa record s
  | .unbindContent who tag tenant handle => Sys2Proof.Machine.execUnbindContent who tag tenant handle s
  | .debugUnlock who tag token => Sys2Proof.Machine.execDebugUnlock who tag token s
  | .debugPathsOpen => Sys2Proof.Machine.execDebugPathsOpen s
  | .imageWrite who tag slot offset len sa => Sys2Proof.Machine.execImageWrite who tag slot offset len sa s
  | .dirSet who tag active => Sys2Proof.Machine.execDirSet who tag active s
  | .getVersion who => Sys2Proof.Machine.execGetVersion who s
  | .getCapabilities who => Sys2Proof.Machine.execGetCapabilities who s
  | .negotiateAlgorithms who supported => Sys2Proof.Machine.execNegotiateAlgorithms who supported s
  | .getDigests who => Sys2Proof.Machine.execGetDigests who s
  | .getCertificate who slot => Sys2Proof.Machine.execGetCertificate who slot s
  | .challenge who slot transcript => Sys2Proof.Machine.execChallenge who slot transcript s
  | .getMeasurements who signed transcript => Sys2Proof.Machine.execGetMeasurements who signed transcript s
  | .keyExchange who mutualAuth => Sys2Proof.Machine.execKeyExchange who mutualAuth s
  | .finish who authOk => Sys2Proof.Machine.execFinish who authOk s
  | .keyUpdate who link => Sys2Proof.Machine.execKeyUpdate who link s
  | .spdmHeartbeat who => Sys2Proof.Machine.execSpdmHeartbeat who s
  | .endSession who => Sys2Proof.Machine.execEndSession who s
  | .getLmsSignature who => Sys2Proof.Machine.execGetLmsSignature who s
  | .doeDiscovery ld => Sys2Proof.Machine.execDoeDiscovery ld s
  | .cdatTableAccess ld => Sys2Proof.Machine.execCdatTableAccess ld s
  | .compliance ld => Sys2Proof.Machine.execCompliance ld s
  | .bypass => Sys2Proof.Machine.execBypass s
  | .idcode => Sys2Proof.Machine.execIdcode s
  | .samplePreload => Sys2Proof.Machine.execSamplePreload s
  | .extest => Sys2Proof.Machine.execExtest s
  | .clamp => Sys2Proof.Machine.execClamp s
  | .highz => Sys2Proof.Machine.execHighz s
  | .cxlMemRead ld tag hpa len cell => Sys2Proof.Machine.execCxlMemRead ld tag hpa len cell s
  | .cxlMemWrite ld tag hpa data poison cell => Sys2Proof.Machine.execCxlMemWrite ld tag hpa data poison cell s
  | .memHoldExpiry ld tag => Sys2Proof.Machine.execMemHoldExpiry ld tag s
  | .hdmDecoderCommit ld decoder setup => Sys2Proof.Machine.execHdmDecoderCommit ld decoder setup s
  | .cxlLinkDown link => Sys2Proof.Machine.execCxlLinkDown link s
  | .hostHoldExpiry link => Sys2Proof.Machine.execHostHoldExpiry link s
  | .perstN port => Sys2Proof.Machine.execPerstN port s
  | .hotReset link => Sys2Proof.Machine.execHotReset link s
  | .functionLevelReset ld => Sys2Proof.Machine.execFunctionLevelReset ld s
  | .cxlReset ld => Sys2Proof.Machine.execCxlReset ld s
  | .cxlIoCompletion tag reply => Sys2Proof.Machine.execCxlIoCompletion tag reply s
  | .cxlIoTimeout tag => Sys2Proof.Machine.execCxlIoTimeout tag s
  | .ideIntegrityFailure link => Sys2Proof.Machine.execIdeIntegrityFailure link s
  | .d2dLaneFault link => Sys2Proof.Machine.execD2dLaneFault link s
  | .cellRetired kind unit cell cause => Sys2Proof.Machine.execCellRetired kind unit cell cause s
  | .blockUnresponsive kind unit => Sys2Proof.Machine.execBlockUnresponsive kind unit s
  | .regionIsolated region => Sys2Proof.Machine.execRegionIsolated region s
  | .eDieFailure die => Sys2Proof.Machine.execEDieFailure die s
  | .xDieFailure => Sys2Proof.Machine.execXDieFailure s
  | .portFailed kind port cause => Sys2Proof.Machine.execPortFailed kind port cause s
  | .flashDieFailure channel pages => Sys2Proof.Machine.execFlashDieFailure channel pages s
  | .tierEviction tier => Sys2Proof.Machine.execTierEviction tier s
  | .promotion => Sys2Proof.Machine.execPromotion s
  | .moveFlip page => Sys2Proof.Machine.execMoveFlip page s
  | .deepPromotionDone page => Sys2Proof.Machine.execDeepPromotionDone page s
  | .promotedReturn page => Sys2Proof.Machine.execPromotedReturn page s
  | .pwrGoodRise straps board => Sys2Proof.Machine.execPwrGoodRise straps board s
  | .slotCheck slotB read => Sys2Proof.Machine.execSlotCheck slotB read s
  | .unitReady unit => Sys2Proof.Machine.execUnitReady unit s
  | .unitTrainTimeout kind unit => Sys2Proof.Machine.execUnitTrainTimeout kind unit s
  | .flushRestore => Sys2Proof.Machine.execFlushRestore s
  | .dhcpLease address => Sys2Proof.Machine.execDhcpLease address s
  | .noLease => Sys2Proof.Machine.execNoLease s
  | .tftpBlock block => Sys2Proof.Machine.execTftpBlock block s
  | .tftpTimeout => Sys2Proof.Machine.execTftpTimeout s
  | .tftpError => Sys2Proof.Machine.execTftpError s
  | .fwFileAccept cls file => Sys2Proof.Machine.execFwFileAccept cls file s
  | .fetchBackoff => Sys2Proof.Machine.execFetchBackoff s
  | .svnAutoRaise => Sys2Proof.Machine.execSvnAutoRaise s
  | .hubResetNFall => Sys2Proof.Machine.execHubResetNFall s
  | .hubResetNRise straps => Sys2Proof.Machine.execHubResetNRise straps s
  | .pwrFailNFall => Sys2Proof.Machine.execPwrFailNFall s
  | .flushDone => Sys2Proof.Machine.execFlushDone s
  | .pwrFailNRise => Sys2Proof.Machine.execPwrFailNRise s
  | .pwrGoodFall => Sys2Proof.Machine.execPwrGoodFall s
  | .thermtrip sensor => Sys2Proof.Machine.execThermtrip sensor s
  | .watchdogExpiry core => Sys2Proof.Machine.execWatchdogExpiry core s
  | .coreTrap core => Sys2Proof.Machine.execCoreTrap core s
  | .coreEccError core => Sys2Proof.Machine.execCoreEccError core s
  | .coreRestartTimeout core => Sys2Proof.Machine.execCoreRestartTimeout core s
  | .packagePowerCap watts belowFor10ms => Sys2Proof.Machine.execPackagePowerCap watts belowFor10ms s
  | .regionThermal region temps => Sys2Proof.Machine.execRegionThermal region temps s
  | .railTracking => Sys2Proof.Machine.execRailTracking s
  | .powerGuard watts => Sys2Proof.Machine.execPowerGuard watts s
  | .powerTelemetryWindow watts rails => Sys2Proof.Machine.execPowerTelemetryWindow watts rails s
  | .perfWindow counts => Sys2Proof.Machine.execPerfWindow counts s
  | .calTrack drifts => Sys2Proof.Machine.execCalTrack drifts s
  | .calOverride cause => Sys2Proof.Machine.execCalOverride cause s
  | .calOverrideClear => Sys2Proof.Machine.execCalOverrideClear s
  | .sensorOut sensor => Sys2Proof.Machine.execSensorOut sensor s
  | .cxlIdeKm link activate => Sys2Proof.Machine.execCxlIdeKm link activate s
  | .coreRestartDone core => Sys2Proof.Machine.execCoreRestartDone core s
  | .backgroundErasure tenant pages => Sys2Proof.Machine.execBackgroundErasure tenant pages s

end Sys2Proof.Machine
end

