-- ==== Sys2Proof/Machine/Step.lean ====
section
/-! DEFINITION. One step: the command at the front of the queue, or one period of HUB_REFCLK on an empty queue. -/

namespace Sys2Proof.Machine

open Sys2Proof

/-- A state whose waiting commands are `rest`. -/
def State.withPending (s : State) (rest : List Instr) : State := { s with pending := rest }

/-- One period of HUB_REFCLK passes (R586). -/
def idle (s : State) : State := { s with now := s.now + Config.refclkNs }

/-- Takes the command at the front of the queue and runs it; with none waiting, one clock period passes. -/
def step (s : State) : Host.Outcome State Fault Refusal :=
  match s.pending with
  | [] => .next (idle s)
  | c :: rest => exec c (s.withPending rest)

/-- The command that a word spells, at the front of the queue; none of the table's rows has bits. -/
def State.withFetchWord (s : State) (nbits w : Nat) : State :=
  match decodeTableWord nbits w with
  | none => s
  | some c => s.withPending (c :: s.pending)

end Sys2Proof.Machine
end

