-- ==== Sys2Proof/Safety.lean ====
section
/-! DEFINITION. The terms in which claims about runs of the hub are stated: what a command has sent, what it leaves
unchanged, and the conditions that every run keeps. -/

namespace Sys2Proof.Machine

open Sys2Proof

/-- Every queue but one is as before. -/
def OtherQueuesKept (queue : Nat) (s t : State) : Prop := ∀ q, q ≠ queue → queueOf t q = queueOf s q

/-- Every accepted descriptor but one is as before. -/
def OtherWorksKept (queue : Nat) (seq : Seq48) (s t : State) : Prop :=
  ∀ q n, ¬ (q = queue ∧ n = seq) → workOf t q n = workOf s q n

/-- The terminal state that a Strip gives a descriptor (R213): a SCATTER_ADD or ATOMIC_BATCH whose redo record stands goes on to
its end; without one it is ABORTED, and any other descriptor ABORTED_PARTIAL once it has delivered a byte, else ABORTED,
unless a status that stands higher was found before. -/
def StripEnds (w w' : Work) : Prop :=
  w'.strip = true ∧ w'.desc = w.desc ∧ w'.tenant = w.tenant ∧
  if w.desc.opcode = 1 ∧ (w.shape = 2 ∨ w.shape = 12) then
    if w.delivered = true ∨ redoSet w = true then w'.phase = w.phase ∧ w'.status = w.status
    else w'.phase = .done ∧ w'.status = worse w.status .aborted
  else w'.phase = .done ∧ w'.status = worse w.status (if w.delivered = true then .abortedPartial else .aborted)

/-! ### Rows of a descriptor: what a plan needs, stores and leaves -/

/-- The writes of a plan, each resolved to where it lands (R73, R182). -/
def Resolved (s : State) (w : Work) (p : Plan) : Puts := Puts.all (p.writes.map (resolve s w p.direct))

/-- A plan has read all it reads, and each of its writes may be made at once. -/
def Runnable (s : State) (w : Work) (p : Plan) : Prop := p.needs = [] ∧ (Resolved s w p).needs = []

/-- A plan stores to an address of this hub's memory. -/
def StoresTo (s : State) (w : Work) (p : Plan) (a : Nat) : Prop :=
  ∃ x ∈ (Resolved s w p).puts, ∃ off, x.target = .here off ∧ off ≤ a ∧ a < off + x.data.length

/-- A plan writes no host memory. -/
def NoHostWrite (s : State) (w : Work) (p : Plan) : Prop :=
  ∀ x ∈ (Resolved s w p).puts, ∀ ld hpa, x.target ≠ .host ld hpa

/-- A row command did what its plan says: its descriptor carries the plan's COUNT, RESULT and the highest status met
(NODE_UNREACHABLE joins it where a write to host memory is lost, R446), its writes are made, and no other descriptor, no other byte of memory and no other register
changed. -/
def RanPlan (s : State) (w : Work) (p : Plan) (t : State) : Prop :=
  (∃ w', workOf t w.queue w.seq = some w' ∧ w'.desc = w.desc ∧ w'.tenant = w.tenant ∧ w'.count = p.count ∧
    w'.result = p.result ∧ w'.guards = [] ∧ (w'.phase = .applying ∨ w'.phase = .done) ∧
    (w'.status = worse w.status (worse p.status (Resolved s w p).status) ∨
      w'.status = worse (worse w.status (worse p.status (Resolved s w p).status)) .nodeUnreachable) ∧
    (NoHostWrite s w p → w'.status = worse w.status (worse p.status (Resolved s w p).status))) ∧
  OtherWorksKept w.queue w.seq s t ∧
  (∀ a, ¬ StoresTo s w p a → memByte t.store.mem a = memByte s.store.mem a) ∧
  t = { s with
    works := t.works, order := t.order, embed := t.embed, faults := t.faults, free := t.free, outbox := t.outbox
    store := { s.store with mem := t.store.mem, poison := t.store.poison, pages := t.store.pages }
    fabric := { s.fabric with outstanding := t.fabric.outstanding, nextTag := t.fabric.nextTag, ports := t.fabric.ports }
    cxl := { s.cxl with held := t.cxl.held, links := t.cxl.links } }

/-- A descriptor that goes layer by layer made one part of its plan and stands at a layer: its writes are made, its status joins
the highest met, and nothing else changed, entries of the key directory apart (R340, R473, R475). -/
def RanPart (s : State) (w : Work) (p : Plan) (layer : Nat) (t : State) : Prop :=
  (∃ w', workOf t w.queue w.seq = some w' ∧ w'.desc = w.desc ∧ w'.tenant = w.tenant ∧ w'.phase = w.phase ∧ w'.layer = layer ∧
    w'.delivered = true ∧
    (w'.status = worse w.status (worse p.status (Resolved s w p).status) ∨
      w'.status = worse (worse w.status (worse p.status (Resolved s w p).status)) .nodeUnreachable)) ∧
  OtherWorksKept w.queue w.seq s t ∧
  (∀ a, ¬ StoresTo s w p a → memByte t.store.mem a = memByte s.store.mem a) ∧
  t = { s with
    works := t.works, order := t.order, embed := t.embed, faults := t.faults, free := t.free, outbox := t.outbox
    store := { s.store with mem := t.store.mem, poison := t.store.poison, pages := t.store.pages }
    fabric := { s.fabric with outstanding := t.fabric.outstanding, nextTag := t.fabric.nextTag, ports := t.fabric.ports }
    cxl := { s.cxl with held := t.cxl.held, links := t.cxl.links }
    comp := { s.comp with keys := t.comp.keys } }

/-- A stage of a plan has all it needs and meets no status but OK and POISON. -/
def Goes (s : State) (w : Work) (p : Plan) : Prop :=
  Runnable s w p ∧ (worse p.status (Resolved s w p).status = .ok ∨ worse p.status (Resolved s w p).status = .poison)

/-- A command sent messages in order and changed nothing else. -/
def Sends (s t : State) (os : List Out) : Prop :=
  t = { s with outbox := s.outbox ++ os, fabric := { s.fabric with ports := t.fabric.ports } }

/-- A descriptor ends with a status, unless a status that stands higher was found before; others are as before. -/
def EndsAs (s t : State) (w : Work) (st : Status) (node result : Nat) : Prop :=
  workOf t w.queue w.seq = some { w with
    status := worse w.status st, node := (if w.status = .ok then node else w.node), result := result, phase := .done } ∧
  OtherWorksKept w.queue w.seq s t

/-- An item of a redo record writes an address of this hub's memory (R199). -/
def ItemWrites (s : State) (i : RedoItem) (a : Nat) : Prop :=
  match i with
  | .bytes off d => off ≤ a ∧ a < off + d.length
  | .remote sa d => saNode sa = hubNode s ∧ saOff sa ≤ a ∧ a < saOff sa + d.length
  | .replica _ _ _ sa d => saNode sa = hubNode s ∧ saOff sa ≤ a ∧ a < saOff sa + d.length
  | .moved _ _ sa d => saNode sa = hubNode s ∧ saOff sa ≤ a ∧ a < saOff sa + d.length
  | _ => False

/-- A redo record of any length fits a journal's live limits (R201). -/
def RedoRoom (s : State) (region : Nat) : Prop :=
  redoReadyBytes s region + 4194304 ≤ 8388608 ∧ sumNat ((openEntries s region).map workRedo) + 4194304 ≤ 67108864

/-! ### Composition changes -/

/-- The composition change that a command of the fabric manager asks for (R450). -/
def asComp : Instr → Option CompCmd
  | .bindTenant ld t p a => some (.bindTenant ld t p a)
  | .unbindTenant ld t => some (.unbindTenant ld t)
  | .setHdmMap ld d v t n sa => some (.setHdmMap ld d v t n sa)
  | .bindQueue q t x ld => some (.bindQueue q t x ld)
  | .unbindQueue q => some (.unbindQueue q)
  | .setQuota t tier f c => some (.setQuota t tier f c)
  | .putTable i d => some (.putTable i d)
  | .dropTable i => some (.dropTable i)
  | .moveShard t sh e n b => some (.moveShard t sh e n b)
  | .refreshReplica t e => some (.refreshReplica t e)
  | .putIndex i d h => some (.putIndex i d h)
  | .dropIndex i h => some (.dropIndex i h)
  | .setRoute h d r => some (.setRoute h d r)
  | .setKvPool p sp t h n => some (.setKvPool p sp t h n)
  | .kvAttach p n => some (.kvAttach p n)
  | .kvDetach p n => some (.kvDetach p n)
  | _ => none

/-- A command brings a composition change, from the fabric manager or forwarded by a hub of the domain, and its answer is
the message `out` of the status (R452, R454). -/
def Asks (s : State) (c : Instr) (cmd : CompCmd) (out : Status → Out) : Prop :=
  (asComp c = some cmd ∧ out = fun st => .fmAnswer st []) ∨
  ∃ src tag, c = .forward src tag cmd ∧ (domainHubs s).contains src = true ∧ compOpcode cmd ≠ 0 ∧ out = .forwardAnswer src tag

/-- A table of the composition holds an entry, and its other entries are as before. -/
def Puts1 {α : Type} (old new : Tbl α) (k : Nat) (v : Option α) : Prop :=
  Tbl.find new k = v ∧ ∀ j, j ≠ k → Tbl.find new j = Tbl.find old j

/-- What a composition change makes of the composition of a hub, by R230, R444, R450, R460 to
R463, R467 and R468, where this hub copies nothing. -/
def CompEffect (s : State) (new : Composition) : CompCmd → Prop
  | .bindTenant ld t p a =>
    new = { s.comp.live with
      lastSeq := s.comp.live.lastSeq + 1
      tenantBinds := s.comp.live.tenantBinds ++ [{ ld := ld, tenant := t, pasid := p, admin := a }] }
  | .unbindTenant ld t =>
    new = { s.comp.live with lastSeq := s.comp.live.lastSeq + 1, tenantBinds := new.tenantBinds } ∧
    ∀ b, b ∈ new.tenantBinds ↔ b ∈ s.comp.live.tenantBinds ∧ ¬ (b.ld = ld ∧ b.tenant = t)
  | .setHdmMap ld d v t n sa =>
    new = { s.comp.live with lastSeq := s.comp.live.lastSeq + 1, hdm := new.hdm } ∧
    Puts1 s.comp.live.hdm new.hdm (ld * 8 + d) (some { saBase := sa, target := n, tenant := t, valid := v })
  | .bindQueue q t x ld =>
    new = { s.comp.live with lastSeq := s.comp.live.lastSeq + 1, queueBinds := new.queueBinds } ∧
    ∀ p, templateOf s x = some p → ∃ b, Puts1 s.comp.live.queueBinds new.queueBinds q (some b) ∧ b.tenant = t ∧ b.template = x ∧
      b.irqLd = ld ∧ b.shape = p.shape ∧ b.region = p.region ∧ b.vector = p.vector ∧ b.log2n = p.log2n - 6
  | .unbindQueue q =>
    new = { s.comp.live with lastSeq := s.comp.live.lastSeq + 1, queueBinds := new.queueBinds } ∧
    ((∀ w ∈ s.works, w.queue ≠ q) → Puts1 s.comp.live.queueBinds new.queueBinds q none)
  | .setQuota t tier f c =>
    new = { s.comp.live with lastSeq := s.comp.live.lastSeq + 1, quotas := new.quotas } ∧
    Puts1 s.comp.live.quotas new.quotas (t * 4 + tier) (some { floor := f, ceiling := c })
  | .putTable i d =>
    new = { s.comp.live with lastSeq := s.comp.live.lastSeq + 1, tables := new.tables } ∧
    Puts1 s.comp.live.tables new.tables i (some (match Tbl.find s.comp.live.tables i with
      | some t => { t with gatherOnly := d.gatherOnly, noCache := d.noCache }
      | none => { d with stride := strideOf d, map1 := [], map2 := [] }))
  | .dropTable i =>
    new = { s.comp.live with lastSeq := s.comp.live.lastSeq + 1, tables := new.tables, moves := new.moves } ∧
    Puts1 s.comp.live.tables new.tables i none ∧ ∀ m, m ∈ new.moves ↔ m ∈ s.comp.live.moves ∧ m.table ≠ i
  | .moveShard i sh _ n b =>
    new = { s.comp.live with lastSeq := s.comp.live.lastSeq + 1, tables := new.tables, moves := new.moves } ∧
    ∀ t, Tbl.find s.comp.live.tables i = some t →
      Puts1 s.comp.live.tables new.tables i (some { t with map0 := t.map0.modify sh (fun e => { e with state := 1 }) }) ∧
      new.moves = s.comp.live.moves ++ [{
        table := i, shard := sh, oldNode := (entryAt t.map0 sh).node, oldBase := (entryAt t.map0 sh).base, newNode := n
        newBase := b, step := 1 }]
  | .refreshReplica i e =>
    new = { s.comp.live with lastSeq := s.comp.live.lastSeq + 1, moves := new.moves } ∧
    ∀ t, Tbl.find s.comp.live.tables i = some t →
      new.moves = s.comp.live.moves ++ [{
        table := i, shard := e, oldNode := (entryAt t.map0 0).node, oldBase := (entryAt t.map0 0).base
        newNode := (entryAt t.map0 e).node, newBase := (entryAt t.map0 e).base, step := 1 }]
  | .putIndex i d h =>
    new = { s.comp.live with lastSeq := s.comp.live.lastSeq + 1, indexes := new.indexes } ∧
    Puts1 s.comp.live.indexes new.indexes (indexKey s h i) (some ((Tbl.find s.comp.live.indexes (indexKey s h i)).getD d))
  | .dropIndex i h =>
    new = { s.comp.live with lastSeq := s.comp.live.lastSeq + 1, indexes := new.indexes } ∧
    Puts1 s.comp.live.indexes new.indexes (indexKey s h i) none
  | .setRoute h d r =>
    new = { s.comp.live with lastSeq := s.comp.live.lastSeq + 1, routes := new.routes } ∧
    (if h = hubNode s then Puts1 s.comp.live.routes new.routes d (some r) else new.routes = s.comp.live.routes)
  | .setKvPool p sp t h n =>
    new = { s.comp.live with lastSeq := s.comp.live.lastSeq + 1, pools := new.pools } ∧
    (n ≠ 0 → ∃ k, Puts1 s.comp.live.pools new.pools p (some k) ∧ k.tenant = t ∧ k.spill = sp ∧ Tbl.find k.capacity h = some n) ∧
    (n = 0 → (∀ j, j ≠ p → Tbl.find new.pools j = Tbl.find s.comp.live.pools j) ∧
      ∀ k, Tbl.find new.pools p = some k → Tbl.find k.capacity h = none)
  | .kvAttach p n =>
    new = { s.comp.live with lastSeq := s.comp.live.lastSeq + 1, pools := new.pools } ∧
    ∀ k, Tbl.find s.comp.live.pools p = some k → ∃ k', Puts1 s.comp.live.pools new.pools p (some k') ∧
      ∀ x, x ∈ k'.consumers ↔ x ∈ k.consumers ∨ x = n
  | .kvDetach p n =>
    new = { s.comp.live with lastSeq := s.comp.live.lastSeq + 1, pools := new.pools } ∧
    ∀ k, Tbl.find s.comp.live.pools p = some k → ∃ k', Puts1 s.comp.live.pools new.pools p (some k') ∧
      ∀ x, x ∈ k'.consumers ↔ x ∈ k.consumers ∧ x ≠ n
  | .flip i sh _ =>
    new = { s.comp.live with lastSeq := s.comp.live.lastSeq + 1, tables := new.tables, moves := new.moves } ∧
    ∀ t m, Tbl.find s.comp.live.tables i = some t → s.comp.live.moves.find? (fun m => m.table == i && m.shard == sh) = some m →
      isReplicated t = false → Puts1 s.comp.live.tables new.tables i (some { t with
        mapEpoch := t.mapEpoch + 1, map2 := t.map1, map1 := t.map0
        map0 := t.map0.modify sh (fun _ => { node := m.newNode, state := 0, base := m.newBase }) })
  | .grace i =>
    new = { s.comp.live with lastSeq := s.comp.live.lastSeq + 1, tables := new.tables, moves := new.moves } ∧
    ∀ t, Tbl.find s.comp.live.tables i = some t → Puts1 s.comp.live.tables new.tables i (some { t with
      mapEpoch := t.mapEpoch + 1, map2 := t.map1, map1 := t.map0 })
  | .moveEnded i sh =>
    new = { s.comp.live with lastSeq := s.comp.live.lastSeq + 1, tables := new.tables, moves := new.moves } ∧
    ∀ m, m ∈ new.moves → m.table = i → m.shard = sh → 4 ≤ m.step
  | .replicaState i e st =>
    new = { s.comp.live with lastSeq := s.comp.live.lastSeq + 1, tables := new.tables } ∧
    ∀ t, Tbl.find s.comp.live.tables i = some t →
      Puts1 s.comp.live.tables new.tables i (some { t with map0 := t.map0.modify e (fun x => { x with state := st }) })

/-- A composition change makes this hub copy no shard or replica: it is not the holder of what moves (R463, R467). -/
def CopiesNothing (s : State) : CompCmd → Prop
  | .moveShard i sh _ _ _ => ∀ t, Tbl.find s.comp.live.tables i = some t → (entryAt t.map0 sh).node ≠ hubNode s
  | .refreshReplica i _ => ∀ t, Tbl.find s.comp.live.tables i = some t → (entryAt t.map0 0).node ≠ hubNode s
  | _ => True

/-! ### Pages -/

/-- A move of a page into a tier begins: the page reads MOVING, keeps its place, and nothing else changes (R325). -/
def MoveBegins (s t : State) (page : Nat) (tier : Tier) (promotion : Bool) : Prop :=
  ∃ u i, placeUnit s tier = some u ∧
    t = { s with
      free := s.free + 1
      store := { s.store with
        moves := s.store.moves ++ [{ page := page, tier := tier, unit := u, index := i, promotion := promotion }]
        pages := t.store.pages } } ∧
    Tbl.find t.store.pages page = (Tbl.find s.store.pages page).map (fun p => { p with phase := .moving }) ∧
    ∀ k, k ≠ page → Tbl.find t.store.pages k = Tbl.find s.store.pages k

/-! ### Mailboxes -/

/-- The message that a mailbox command brings (R541, R546). -/
def asMessage : Instr → Option (Sender × Nat × Message)
  | .allocPages who tag t n fl fm c p => some (who, tag, .alloc t n fl fm c p)
  | .freePages who tag t n sa => some (who, tag, .free t n sa)
  | .lineSalvage who tag t n sa => some (who, tag, .salvage t n sa)
  | .bindContent who tag t n sa r => some (who, tag, .bindContent t n sa r)
  | .unbindContent who tag t h => some (who, tag, .unbindContent t h)
  | .debugUnlock who tag t => some (who, tag, .debugUnlock t)
  | .imageWrite who tag sl o n sa => some (who, tag, .imageWrite sl o n sa)
  | .dirSet who tag a => some (who, tag, .dirSet a)
  | _ => none

/-- A command's message is taken at once: its sender's mailbox is free and the core that serves it runs (R549). -/
def Taken (s : State) (c : Instr) : Prop :=
  ∃ who tag msg, asMessage c = some (who, tag, msg) ∧ (mailboxOf s who).busy = false ∧
    coreRuns s (servingCore (messageId msg)) = true

/-- A mailbox message was answered: a status, then the rest of the body; the sender's mailbox is done and the others are as
before (R547, R549). -/
def Responds (s t : State) (who : Sender) (id tag : Nat) (st : Status) (rest : List Byte) : Prop :=
  mailboxOf t who = { mailboxOf s who with
    busy := false, waitFw := false, done := true, tag := tag
    response := putBytes (mailboxOf s who).response 0
      (responseHeader s id tag (1 + rest.length) ++ BitVec.ofNat 8 (statusCode st) :: rest) } ∧
  (∀ k, k ≠ senderKey who → Tbl.find t.mailbox k = Tbl.find s.mailbox k) ∧
  t.outbox = s.outbox ++ [.mailbox who tag st (BitVec.ofNat 8 (statusCode st) :: rest)]

/-- A mailbox message was answered and did nothing else. -/
def OnlyResponds (s t : State) (who : Sender) (id tag : Nat) (st : Status) (rest : List Byte) : Prop :=
  Responds s t who id tag st rest ∧ t = { s with mailbox := t.mailbox, outbox := t.outbox }

/-! ### SPDM -/

/-- The requests of SPDM and who sends each (R490). -/
def asSpdm : Instr → Option Sender
  | .getVersion who => some who
  | .getCapabilities who => some who
  | .negotiateAlgorithms who _ => some who
  | .getDigests who => some who
  | .getCertificate who _ => some who
  | .challenge who _ _ => some who
  | .getMeasurements who _ _ => some who
  | .keyExchange who _ => some who
  | .finish who _ => some who
  | .keyUpdate who none => some who
  | .spdmHeartbeat who => some who
  | .endSession who => some who
  | .getLmsSignature who => some who
  | _ => none

/-- An SPDM request was answered with a code and data, and its requester's connection became `p`; nothing else changed. -/
def SpdmAnswers (s t : State) (who : Sender) (code : Nat) (data : List Nat) (p : SpdmPeer) : Prop :=
  t = { s with
    free := t.free, outbox := s.outbox ++ [.spdm who code data], sec := { s.sec with spdm := t.sec.spdm } } ∧
  peerOf t who = p ∧ ∀ k, k ≠ senderKey who → Tbl.find t.sec.spdm k = Tbl.find s.sec.spdm k

/-! ### CXL links -/

/-- What a link that is lost or reset leaves unchanged: event records may be posted, READY_VEC bits clear (R445, R532). -/
def LinkFrame (s t : State) : Prop :=
  t = { s with
    outbox := t.outbox, boot := { s.boot with fnReady := t.boot.fnReady }
    cxl := { s.cxl with lds := t.cxl.lds, links := t.cxl.links, requests := t.cxl.requests } }

/-- A link was reset: it is down, without keys, and a broken IDE stream may be keyed again (R437, R445). -/
def WasReset (s t : State) (link : Nat) : Prop :=
  cxlLink t link = { cxlLink s link with
    up := false, ide := false, keyed := false, resetSince := (cxlLink s link).broken
    width := if (cxlLink s link).up then 0 else (cxlLink s link).width
    rate := if (cxlLink s link).up then 0 else (cxlLink s link).rate }

/-! ### What every step keeps -/

/-- The conditions that every step keeps: memory in its canonical form, one ring of fault records for each of the four levels
(R566), and every admission fraction from 1/64 to 64/64 (R556). -/
def Sane (s : State) : Prop :=
  Memory.wf s.store.mem = true ∧ s.faults.rings.length = 4 ∧ ∀ a ∈ s.power.fractions, 1 ≤ a ∧ a ≤ 64

end Sys2Proof.Machine
end

