-- ==== Sys2Proof/Certificates/Slice0/Obligations.lean ====
section
/-! DEFINITION. What is claimed of the hub, for the provers: one proposition per claim. -/

open Sys2Proof Sys2Proof.Machine

/-! ### The queue of commands -/

/-- What the host asks of a block: a step takes the command at the front of the queue and is exec of it on the state with
the queue's rest; on an empty queue one period of HUB_REFCLK passes and nothing else changes (model's choice: the
assumption log). -/
def Obligations.StepRunsFrontCommand : Prop :=
  (∀ (c : Instr) (rest : List Instr) (s : State), s.pending = c :: rest → step s = exec c { s with pending := rest }) ∧
  (∀ s : State, s.pending = [] → step s = .next { s with now := s.now + 10 })

/-! ### Doorbells and queue states (chapter 05) -/

/-- R178: a write of SQ_TAIL that is not before SQ_TAIL and not after ACC_HEAD + N is taken; another sets DB_ERR and changes
nothing else. -/
def Obligations.SqTailTakenInWindow : Prop :=
  ∀ (s : State) (ld queue : Nat) (tail : Seq48) (b : QueueBind),
    awake s → bindOf s queue = some b → boundTo s ld b.tenant → s.pins.failing = false →
    ∃ t, exec (.sqTail ld queue tail) s = .next t ∧ t = { s with queues := t.queues } ∧ OtherQueuesKept queue s t ∧
      queueOf t queue =
        if Seq48.before tail (queueOf s queue).sqTail = false ∧
           (tail = (queueOf s queue).accHead + BitVec.ofNat 48 (64 * 2 ^ b.log2n) ∨
            Seq48.before tail ((queueOf s queue).accHead + BitVec.ofNat 48 (64 * 2 ^ b.log2n)) = true)
        then { queueOf s queue with sqTail := tail } else { queueOf s queue with dbErr := true }

/-- R179: a write of CQ_HEAD that is not before CQ_HEAD and not after CQ_TAIL is taken, and the completion log records it
passes are freed (R196); another sets DB_ERR and changes nothing else. -/
def Obligations.CqHeadTakenInWindow : Prop :=
  ∀ (s : State) (ld queue : Nat) (head : Seq48) (b : QueueBind),
    awake s → bindOf s queue = some b → boundTo s ld b.tenant → s.pins.failing = false →
    ∃ t, exec (.cqHead ld queue head) s = .next t ∧ t = { s with queues := t.queues, journals := t.journals } ∧
      OtherQueuesKept queue s t ∧
      if Seq48.before head (queueOf s queue).cqHead = false ∧
         (head = (queueOf s queue).cqTail ∨ Seq48.before head (queueOf s queue).cqTail = true)
      then queueOf t queue = { queueOf s queue with cqHead := head } ∧
        t.journals = s.journals.modify b.region (fun j =>
          { j with logs := j.logs.filter (fun r => !(r.queue == queue && Seq48.before r.record.seq head)) })
      else queueOf t queue = { queueOf s queue with dbErr := true } ∧ t.journals = s.journals

/-- R181, R185, R216, R219: a descriptor whose SEQ does not match is refused with BAD_SEQ; RESUME takes a REFUSING or STOPPED
queue back to RUNNING with SQ_TAIL set to TAIL, and any other RESUME sets DB_ERR. Nothing but the queue changes. -/
def Obligations.QueueRefusesAndResumes : Prop :=
  (∀ (s : State) (queue : Nat) (b : QueueBind),
    awake s → bindOf s queue = some b → (queueOf s queue).state = .running → (queueOf s queue).unbinding = false →
    Seq48.before (queueOf s queue).accHead (queueOf s queue).sqTail →
    (∀ d, readSlot s b (queueOf s queue).accHead = some d → d.seq ≠ (queueOf s queue).accHead) →
    ∃ t, exec (.badSeq queue) s = .next t ∧ t = { s with queues := t.queues } ∧ OtherQueuesKept queue s t ∧
      queueOf t queue = { queueOf s queue with state := .refusing, refuse := .badSeq }) ∧
  (∀ (s : State) (ld queue : Nat) (tail : Seq48) (b : QueueBind),
    awake s → bindOf s queue = some b → boundTo s ld b.tenant → s.pins.failing = false →
    ∃ t, exec (.resume ld queue tail) s = .next t ∧ t = { s with queues := t.queues } ∧ OtherQueuesKept queue s t ∧
      queueOf t queue =
        if ((queueOf s queue).state = .refusing ∨ (queueOf s queue).state = .stopped) ∧
           ((queueOf s queue).accHead = tail ∨ Seq48.before (queueOf s queue).accHead tail = true) ∧
           (tail = (queueOf s queue).accHead + BitVec.ofNat 48 (64 * 2 ^ b.log2n) ∨
            Seq48.before tail ((queueOf s queue).accHead + BitVec.ofNat 48 (64 * 2 ^ b.log2n)) = true)
        then { queueOf s queue with state := .running, refuse := .none, sqTail := tail }
        else { queueOf s queue with dbErr := true })

/-- R185, R190: when everything R190 lists holds, the descriptor at ACC_HEAD is accepted: ACC_HEAD advances by one and one open
entry is added, for that descriptor, its queue's tenant and its journal region. Opcodes past 0x04, set FLAGS[7:5], and a
fenced hub's changing descriptors are refused instead. VDD_ENG is raised to its floor if it stands below (R555). -/
def Obligations.AcceptanceAddsOneOpenEntry : Prop :=
  ∀ (s : State) (queue : Nat) (b : QueueBind) (d : Descriptor),
    awake s → bindOf s queue = some b → (queueOf s queue).state = .running → (queueOf s queue).unbinding = false →
    Seq48.before (queueOf s queue).accHead (queueOf s queue).sqTail →
    Seq48.before (queueOf s queue).accHead ((queueOf s queue).cqHead + BitVec.ofNat 48 (64 * 2 ^ b.log2n)) →
    acceptanceWaits s = false → (journalOf s b.region).rebuilding = false → (journalOf s b.region).replay = false →
    hasCopy (journalOf s b.region) → queuesStarted s b.region →
    readSlot s b (queueOf s queue).accHead = some d → d.seq = (queueOf s queue).accHead →
    belowLimits s b.region → railReady s →
    ∃ t, exec (.descriptorAccept queue) s = .next t ∧ OtherQueuesKept queue s t ∧
      t = { s with queues := t.queues, works := t.works, stamp := t.stamp, comp := t.comp, power := t.power,
                   outbox := t.outbox } ∧
      if 5 ≤ d.opcode then t = { s with queues := t.queues } ∧
          queueOf t queue = { queueOf s queue with state := .refusing, refuse := .badOpcode }
      else if bits d.flags 5 3 ≠ 0 then t = { s with queues := t.queues } ∧
          queueOf t queue = { queueOf s queue with state := .refusing, refuse := .reservedSet }
      else if fenced s = true ∧ fencedWork b d = true then t = { s with queues := t.queues } ∧
          queueOf t queue = { queueOf s queue with state := .refusing, refuse := .fenced }
      else queueOf t queue = { queueOf s queue with accHead := (queueOf s queue).accHead + 1 } ∧
          t.stamp = s.stamp + 1 ∧ 650 ≤ t.power.vddMv ∧ OtherWorksKept queue d.seq s t ∧
          t.works.length = s.works.length + 1 ∧
          ∃ w, t.works.getLast? = some w ∧ w.queue = queue ∧ w.seq = d.seq ∧ w.tenant = b.tenant ∧ w.region = b.region ∧
            w.shape = b.shape ∧ w.phase = .ready ∧ w.status = .ok ∧ w.desc.opcode = d.opcode ∧ w.strip = false ∧
            w.replayed = false ∧ w.redo = []

/-- R184, R188: a NOP is done without effect; DESCRIPTOR_COMPLETE ends the descriptor at CQ_TAIL of its queue: its open entry
goes, its completion log record is added to its journal with its own status, count and result, and CQ_TAIL advances by one.
The hypotheses say that no message or allocation waits for it. -/
def Obligations.NopIsDoneAndCompletionsGoInOrder : Prop :=
  (∀ (s : State) (queue : Nat) (seq : Seq48) (w : Work),
    awake s → workOf s queue seq = some w → w.desc.opcode = 0 → w.phase = .ready → awaitsReplay s w = false →
    ∃ t, exec (.nop queue seq) s = .next t ∧ t = { s with works := t.works } ∧ OtherWorksKept queue seq s t ∧
      workOf t queue seq = some { w with phase := .done }) ∧
  (∀ (s : State) (queue : Nat) (b : QueueBind) (w : Work),
    awake s → bindOf s queue = some b → workOf s queue (queueOf s queue).cqTail = some w → mayComplete s w →
    (queueOf s queue).unbinding = false → (queueOf s queue).state ≠ .stripping → s.embed.held = [] → s.store.waits = [] →
    w.follow = [] →
    ∃ t, exec (.descriptorComplete queue) s = .next t ∧ OtherQueuesKept queue s t ∧
      queueOf t queue = { queueOf s queue with cqTail := (queueOf s queue).cqTail + 1 } ∧
      (¬ (w.desc.opcode = 1 ∧ w.shape = 8) → t.works = s.works.filter (fun x => !(x.queue == queue && x.seq == w.seq))) ∧
      t.journals = s.journals.modify w.region (fun j => { j with logs := j.logs ++
        [{ queue := queue, posted := true, record := completionOf w }] }) ∧
      (completionOf w).seq = w.seq ∧ (completionOf w).status = w.status ∧ (completionOf w).count = w.count ∧
      (completionOf w).result = w.result ∧ t.pins = s.pins ∧ t.receipts = s.receipts)

/-- R213, R214, R216: a Strip of a queue gives every descriptor of the queue that it reaches its terminal state and puts the queue in
STRIPPING; descriptors of other queues keep theirs. A tenant's Strip does so for every queue of the tenant. -/
def Obligations.StripEndsDescriptorsOfItsTarget : Prop :=
  (∀ (s : State) (n queue : Nat) (b : QueueBind),
    awake s → bindOf s queue = some b → boundTo s n b.tenant → stripBusy s (.ld n) = false →
    ∃ t, exec (.stripQueue (.ld n) queue) s = .next t ∧ OtherQueuesKept queue s t ∧
      t = { s with works := t.works, units := { s.units with clusters := t.units.clusters }, queues := t.queues,
                   strips := t.strips } ∧
      (queueOf t queue).state = .stripping ∧ stripBusy t (.ld n) = true ∧
      (∀ seq w, workOf s queue seq = some w → w.strip = false → ∃ w', workOf t queue seq = some w' ∧ StripEnds w w') ∧
      (∀ q seq, q ≠ queue → workOf t q seq = workOf s q seq)) ∧
  (∀ (s : State) (n tenant : Nat),
    awake s → boundTo s n tenant → stripBusy s (.ld n) = false →
    ∃ t, exec (.stripTenant (.ld n) tenant) s = .next t ∧
      t = { s with works := t.works, units := { s.units with clusters := t.units.clusters }, queues := t.queues,
                   strips := t.strips } ∧ stripBusy t (.ld n) = true ∧
      (∀ q b, (q, b) ∈ s.comp.live.queueBinds → b.tenant = tenant → (queueOf t q).state = .stripping ∧
        ∀ seq w, workOf s q seq = some w → w.strip = false → ∃ w', workOf t q seq = some w' ∧ StripEnds w w') ∧
      (∀ q, (∀ b, (q, b) ∈ s.comp.live.queueBinds → b.tenant ≠ tenant) →
        queueOf t q = queueOf s q ∧ ∀ seq, workOf t q seq = workOf s q seq))

/-- R213, R214, R216: a cluster's Strip reaches the descriptors with a segment on the cluster and stops no queue; STRIP_DONE, once
every descriptor that a Strip reached has completed, sets DONE and puts its queues in STOPPED. -/
def Obligations.StripOfClusterAndItsEnd : Prop :=
  (∀ (s : State) (who : Sender) (cluster : Nat),
    awake s → hasAdmin s who → cluster < 32 → stripBusy s who = false →
    ∃ t, exec (.stripCluster who cluster) s = .next t ∧
      t = { s with works := t.works, units := { s.units with clusters := t.units.clusters }, strips := t.strips } ∧
      stripBusy t who = true ∧
      (∀ q seq w, workOf s q seq = some w → w.strip = false → onCluster s cluster w →
        ∃ w', workOf t q seq = some w' ∧ StripEnds w w')) ∧
  (∀ (s : State) (who : Sender) (r : Strip),
    awake s → Tbl.find s.strips (senderKey who) = some r → r.busy = true →
    (∀ w ∈ s.works, w.strip = true → w.phase ≠ .applying ∧ r.targets ≠ [] ∧ w.queue ∉ r.targets) →
    ∃ t, exec (.stripDone who) s = .next t ∧ t = { s with queues := t.queues, strips := t.strips } ∧
      Tbl.find t.strips (senderKey who) = some { r with busy := false, done := true } ∧
      (∀ q, q ∈ r.targets → (queueOf s q).state = .stripping → queueOf t q = { queueOf s q with state := .stopped }) ∧
      (∀ q, q ∉ r.targets → queueOf t q = queueOf s q))

/-! ### Segments, clusters and random sources (chapters 04 and 03) -/

/-- R156: the next segment of a descriptor that may be placed goes to a cluster that takes its shape: of the clusters of the journal's
region with fewer than DEPTH segments pending, or of all where there is none, the one with the fewest pending segments,
the lowest-numbered of equals. -/
def Obligations.SegmentGoesToLeastLoadedCluster : Prop :=
  ∀ (s : State) (queue : Nat) (seq : Seq48) (w : Work),
    awake s → workOf s queue seq = some w → w.desc.opcode = 1 → (w.phase = .ready ∨ w.phase = .waiting ∨ w.phase = .formed) →
    w.placed < segmentCount w → placing s → placedBefore s w → awaitsReplay s w = false → scanHeld s w = false →
    (∃ d, d < 32 ∧ takesShape s w.shape d = true) →
    ∃ c t, exec (.segmentPlace queue seq) s = .next t ∧ c < 32 ∧ takesShape s w.shape c = true ∧
      t = { s with works := t.works, units := { s.units with clusters := t.units.clusters } } ∧
      pendingOn (clusterOf t c) = pendingOn (clusterOf s c) + 1 ∧ (∀ d, d ≠ c → clusterOf t d = clusterOf s d) ∧
      workOf t queue seq = some { w with placed := w.placed + 1, cluster := if w.placed = 0 then c else w.cluster } ∧
      OtherWorksKept queue seq s t ∧
      (let near (d : Nat) : Prop := d < 32 ∧ takesShape s w.shape d = true ∧ (d % 16) / 4 = w.region ∧
         pendingOn (clusterOf s d) < schedDepth s
       let able (d : Nat) : Prop := d < 32 ∧ takesShape s w.shape d = true
       let first (p : Nat → Prop) : Prop := p c ∧ ∀ d, p d →
         pendingOn (clusterOf s c) < pendingOn (clusterOf s d) ∨ (pendingOn (clusterOf s c) = pendingOn (clusterOf s d) ∧ c ≤ d)
       ((∃ d, near d) → first near) ∧ ((¬ ∃ d, near d) → first able))

/-- R157, R158, R159: a cluster with no segment in flight loads the shape of the first segment that waits on it, and then holds up to
eight of that shape in flight; DWELL_EXPIRY marks in every region one cluster of another shape, the one with the fewest pending
segments, unless the region has one of the waiting shape or one so marked. -/
def Obligations.ClustersChangeShapeWhenIdle : Prop :=
  (∀ (s : State) (cluster : Nat) (g : Segment) (rest : List Segment),
    awake s → (clusterOf s cluster).placed = g :: rest → (clusterOf s cluster).inFlight = [] → clusterIn s cluster →
    coreRuns s (3 + cluster) →
    ∃ t, exec (.shapeChange cluster) s = .next t ∧ t = { s with units := { s.units with clusters := t.units.clusters } } ∧
      (∀ d, d ≠ cluster → clusterOf t d = clusterOf s d) ∧
      (clusterOf t cluster).shape = some g.shape ∧ (clusterOf t cluster).draining = false ∧
      (clusterOf t cluster).inFlight ++ (clusterOf t cluster).placed = g :: rest ∧
      0 < (clusterOf t cluster).inFlight.length ∧ (clusterOf t cluster).inFlight.length ≤ 8 ∧
      (∀ x ∈ (clusterOf t cluster).inFlight, x.shape = g.shape)) ∧
  (∀ (s : State) (shape : Nat), awake s →
    ∃ t, exec (.dwellExpiry shape) s = .next t ∧ t = { s with units := { s.units with clusters := t.units.clusters } } ∧
      (∀ c, clusterOf t c = clusterOf s c ∨ clusterOf t c = { clusterOf s c with draining := true }) ∧
      (∀ k, k < 4 →
        (∃ c, c < 32 ∧ clusterRegion c = k ∧ clusterIn s c = true ∧ (clusterOf s c).shape.isSome = true) →
        (∀ c, c < 32 → clusterRegion c = k → clusterIn s c = true →
          (clusterOf s c).shape ≠ some shape ∧ (clusterOf s c).draining = false) →
        ∃ c, c < 32 ∧ clusterRegion c = k ∧ clusterIn s c = true ∧ (clusterOf t c).draining = true))

/-- R114, R265, R268: a random source that fails its test is listed, SR_STATUS.FAIL then shows, and a block-level record 0x0403 is written or
counted; a source that passes is no longer listed. CLOVE_HALVE after 2²⁰ counts halves every counter of the cluster's sketch, rounding
down, and starts its count anew; CLOVE_CLEAR clears every counter. Other sketches keep their counters. -/
def Obligations.RandomSourcesAndClovesCount : Prop :=
  (∀ (s : State) (cluster lane : Nat), awake s → s.faults.rings.length = 4 →
    ∃ t, exec (.srSourceFail cluster lane) s = .next t ∧ (cluster, lane) ∈ t.units.srFailing ∧
      (∀ x, x ∈ s.units.srFailing → x ∈ t.units.srFailing) ∧
      (∃ r, newestFault t 1 = some r ∧ r.code = 0x0403 ∧ r.kind = .cluster ∧ r.inst = cluster) ∧
      t.works = s.works ∧ t.queues = s.queues ∧ t.store = s.store) ∧
  (∀ (s : State) (cluster lane : Nat), awake s →
    ∃ t, exec (.srSourcePass cluster lane) s = .next t ∧
      (∀ x, x ∈ t.units.srFailing ↔ x ∈ s.units.srFailing ∧ x ≠ (cluster, lane)) ∧
      t.works = s.works ∧ t.queues = s.queues ∧ t.store = s.store ∧ t.faults = s.faults) ∧
  (∀ (s : State) (cluster : Nat), awake s → 2 ^ 20 ≤ Tbl.at s.embed.counts cluster 0 →
    ∃ t, exec (.cloveHalve cluster) s = .next t ∧
      t = { s with embed := { s.embed with sketch := t.embed.sketch, counts := t.embed.counts } } ∧
      Tbl.at t.embed.counts cluster 0 = 0 ∧ (∀ c, c ≠ cluster → Tbl.at t.embed.counts c 0 = Tbl.at s.embed.counts c 0) ∧
      (∀ k, Tbl.at t.embed.sketch k 0 =
        if k / 262144 = cluster then Tbl.at s.embed.sketch k 0 / 2 else Tbl.at s.embed.sketch k 0)) ∧
  (∀ (s : State) (who : Sender), awake s →
    ∃ t, exec (.cloveClear who) s = .next t ∧ t = { s with embed := { s.embed with sketch := [] } } ∧
      (∀ k, Tbl.at t.embed.sketch k 0 = 0))

/-! ### Registers (chapters 00 and 15) -/

/-- R13, R14, R526: a 64-bit write to a register with RWL fields takes the written bits of those fields from a sender with the ADMIN
right while SECURITY.LOCK has not set; every other bit of it, and every other such register, stays. -/
def Obligations.RwlFieldsTakeWritesUntilLocked : Prop :=
  ∀ (s : State) (who : Sender) (r : CtrlReg) (data : List Byte), awake s → data.length = 8 →
    ∃ t, exec (.registerWrite who (ctrlOffset r) data) s = .next t ∧
      t = { s with ctrl := t.ctrl, embed := { s.embed with sketch := t.embed.sketch } } ∧
      (r ≠ .clove → t = { s with ctrl := t.ctrl }) ∧
      (∀ r', r' ≠ r → ctrlAt t r' = ctrlAt s r') ∧
      ∀ i, i < 64 → (ctrlAt t r).getLsbD i =
        if (hasAdmin s who = true ∧ s.boot.locked = false) ∧ (∃ f ∈ rwlFields r, f.1 ≤ i ∧ i < f.1 + f.2)
        then (leNat data).testBit i else (ctrlAt s r).getLsbD i

/-- R13, R51: a selection register holds, for each sender its own, the field of the last word written; a write that is not made of
whole aligned words changes nothing. -/
def Obligations.SelectionRegistersAreTheSenders : Prop :=
  (∀ (s : State) (who : Sender) (data : List Byte), awake s → data.length = 8 →
    ∃ t, exec (.registerWrite who 0x02500018 data) s = .next t ∧ t = { s with ldRegs := t.ldRegs } ∧
      ldRegs t (senderKey who) = { ldRegs s (senderKey who) with tableSel := leNat data % 65536 } ∧
      ∀ k, k ≠ senderKey who → ldRegs t k = ldRegs s k) ∧
  (∀ (s : State) (who : Sender) (data : List Byte), awake s → data.length = 8 →
    ∃ t, exec (.registerWrite who 0x02900030 data) s = .next t ∧ t = { s with ldRegs := t.ldRegs } ∧
      ldRegs t (senderKey who) = { ldRegs s (senderKey who) with routeSel := leNat data % 4096 } ∧
      ∀ k, k ≠ senderKey who → ldRegs t k = ldRegs s k) ∧
  (∀ (s : State) (who : Sender) (data : List Byte), awake s → data.length = 8 →
    ∃ t, exec (.registerWrite who 0x02C00038 data) s = .next t ∧ t = { s with ldRegs := t.ldRegs } ∧
      ldRegs t (senderKey who) = { ldRegs s (senderKey who) with perfSel := leNat data % 4096 } ∧
      ∀ k, k ≠ senderKey who → ldRegs t k = ldRegs s k) ∧
  (∀ (s : State) (who : Sender) (off : Nat) (data : List Byte), awake s → (off % 8 ≠ 0 ∨ data.length % 8 ≠ 0) →
    exec (.registerWrite who off data) s = .next s)

/-- R569: writing 1 to FAULT or ALERT of FAULT_SUMMARY clears it, from the management port or a device with the ADMIN right, and from
no other sender; WORST and the rings stay. -/
def Obligations.FaultSummaryClearsByAdminOnly : Prop :=
  ∀ (s : State) (who : Sender) (value : Word), awake s →
    ∃ t, exec (.faultSummaryClear who value) s = .next t ∧ t = { s with faults := t.faults } ∧
      t.faults.rings = s.faults.rings ∧ t.faults.worst = s.faults.worst ∧
      (hasAdmin s who = true →
        t.faults.fault = (s.faults.fault && !value.getLsbD 8) ∧ t.faults.alert = (s.faults.alert && !value.getLsbD 9)) ∧
      (hasAdmin s who = false → t = s)

/-! ### Device TLBs, ATS, replay and pending vectors (chapters 02, 05 and 11) -/

/-- R83, R85: TLB_INV drops every entry of a tenant of the sender from all device TLBs, keeps every other entry, and sets BUSY, with the
tenant's ATS requests under way marked to be discarded (R87); of another tenant, or while BUSY, it sets ERR and drops nothing.
TLB_INV_DONE clears BUSY once no request of the tenant that used a translation is under way.
R86: an ATS Invalidate Request drops the entries of the PASID's tenants that its range touches, and owes a completion, which is
sent once no request of a tenant of the device that used a translation is under way. -/
def Obligations.InvalidationsDropTranslations : Prop :=
  (∀ (s : State) (ld tenant : Nat), awake s → boundTo s ld tenant → (Tbl.at s.invs ld Invalidation.idle).busy = false →
    ∃ t, exec (.tlbInv ld tenant) s = .next t ∧
      t = { s with tlbs := t.tlbs, invs := t.invs, fabric := { s.fabric with outstanding := t.fabric.outstanding } } ∧
      (∀ c e, e ∈ Tbl.at t.tlbs c [] ↔ e ∈ Tbl.at s.tlbs c [] ∧ e.tenant ≠ tenant) ∧
      Tbl.at t.invs ld Invalidation.idle = { Tbl.at s.invs ld Invalidation.idle with busy := true, tenant := tenant } ∧
      (∀ k, k ≠ ld → Tbl.at t.invs k Invalidation.idle = Tbl.at s.invs k Invalidation.idle) ∧
      t.fabric.outstanding.length = s.fabric.outstanding.length ∧
      ∀ (i : Nat) (o : Outstanding), s.fabric.outstanding[i]? = some o → ∃ o' : Outstanding, t.fabric.outstanding[i]? = some o' ∧
        o' = { o with stale := o'.stale } ∧ ((∃ q n c, o.await = .ats q n c) → o.tenant = tenant → o'.stale = true) ∧
        (o.tenant ≠ tenant → o' = o)) ∧
  (∀ (s : State) (ld tenant : Nat), awake s → (boundTo s ld tenant = false ∨ (Tbl.at s.invs ld Invalidation.idle).busy = true) →
    ∃ t, exec (.tlbInv ld tenant) s = .next t ∧ t = { s with invs := t.invs } ∧
      Tbl.at t.invs ld Invalidation.idle = { Tbl.at s.invs ld Invalidation.idle with err := true } ∧
      ∀ k, k ≠ ld → Tbl.at t.invs k Invalidation.idle = Tbl.at s.invs k Invalidation.idle) ∧
  (∀ (s : State) (ld : Nat), awake s → (Tbl.at s.invs ld Invalidation.idle).busy = true →
    translatedOpen s (Tbl.at s.invs ld Invalidation.idle).tenant = false →
    ∃ t, exec (.tlbInvDone ld) s = .next t ∧ t = { s with invs := t.invs } ∧
      Tbl.at t.invs ld Invalidation.idle = { Tbl.at s.invs ld Invalidation.idle with busy := false } ∧
      ∀ k, k ≠ ld → Tbl.at t.invs k Invalidation.idle = Tbl.at s.invs k Invalidation.idle) ∧
  (∀ (s : State) (ld pasid addr size : Nat), awake s →
    ∃ t, exec (.atsInvalidateRequest ld pasid addr size) s = .next t ∧
      t = { s with tlbs := t.tlbs, invs := t.invs, fabric := { s.fabric with outstanding := t.fabric.outstanding } } ∧
      (∀ c e, e ∈ Tbl.at t.tlbs c [] ↔ e ∈ Tbl.at s.tlbs c [] ∧
        ¬ ((∃ b ∈ s.comp.live.tenantBinds, b.ld = ld ∧ b.pasid = pasid ∧ b.tenant = e.tenant) ∧
           e.base < addr + size ∧ addr < e.base + e.size)) ∧
      Tbl.at t.invs ld Invalidation.idle = { Tbl.at s.invs ld Invalidation.idle with atsDue := true } ∧
      ∀ k, k ≠ ld → Tbl.at t.invs k Invalidation.idle = Tbl.at s.invs k Invalidation.idle) ∧
  (∀ (s : State) (ld : Nat), awake s → (Tbl.at s.invs ld Invalidation.idle).atsDue = true →
    (∀ b ∈ s.comp.live.tenantBinds, b.ld = ld → translatedOpen s b.tenant = false) →
    ∃ t, exec (.atsInvalidateCompletion ld) s = .next t ∧ t = { s with invs := t.invs, outbox := t.outbox } ∧
      t.outbox = s.outbox ++ [.atsInvalidateCompletion ld] ∧
      Tbl.at t.invs ld Invalidation.idle = { Tbl.at s.invs ld Invalidation.idle with atsDue := false } ∧
      ∀ k, k ≠ ld → Tbl.at t.invs k Invalidation.idle = Tbl.at s.invs k Invalidation.idle)

/-- R78, R79, R82, R87: an ATS completion installs in the cluster's TLB the largest of 4 KiB, 2 MiB and 1 GiB that the returned range
holds, containing the requested address; one that an invalidation overtook installs nothing; one that grants no access, or
none in time, gives each descriptor that waits TRANSLATION_FAULT, a timeout with a fault record 0x0202 besides. No descriptor
waits on the request any more. -/
def Obligations.AtsAnswersInstallOrFault : Prop :=
  (∀ (s : State) (tag q c hpa k : Nat) (n : Seq48) (o : Outstanding) (write : Bool), awake s →
    txOf s tag = some o → o.await = .ats q n c → o.stale = false →
    ∃ t, exec (.atsCompletion tag (.translated hpa (4096 * 2 ^ k) write)) s = .next t ∧
      t = { s with tlbs := t.tlbs, works := t.works, fabric := { s.fabric with outstanding := t.fabric.outstanding } } ∧
      txOf t tag = none ∧ (∀ w ∈ t.works, w.desc.opcode ≠ 2 → tag ∉ w.waits) ∧
      (∀ d, d ≠ c → Tbl.at t.tlbs d [] = Tbl.at s.tlbs d []) ∧
      ∃ e ∈ Tbl.at t.tlbs c [], e.tenant = o.tenant ∧ e.write = write ∧
        e.size = (if 18 ≤ k then 2 ^ 30 else if 9 ≤ k then 2 ^ 21 else 4096) ∧
        e.base % e.size = 0 ∧ e.base ≤ o.addr ∧ o.addr < e.base + e.size ∧
        e.hpa + (o.addr - e.base) = hpa + o.addr % (4096 * 2 ^ k)) ∧
  (∀ (s : State) (tag q c : Nat) (n : Seq48) (o : Outstanding) (reply : AtsReply), awake s →
    txOf s tag = some o → o.await = .ats q n c → o.stale = true →
    ∃ t, exec (.atsCompletion tag reply) s = .next t ∧
      t = { s with works := t.works, fabric := { s.fabric with outstanding := t.fabric.outstanding } } ∧
      txOf t tag = none ∧ (∀ w ∈ t.works, w.desc.opcode ≠ 2 → tag ∉ w.waits)) ∧
  (∀ (s : State) (tag q c : Nat) (n : Seq48) (o : Outstanding), awake s →
    txOf s tag = some o → o.await = .ats q n c → o.stale = false →
    ∃ t, exec (.atsCompletion tag .noAccess) s = .next t ∧
      t = { s with works := t.works, fabric := { s.fabric with outstanding := t.fabric.outstanding } } ∧
      txOf t tag = none ∧ (∀ w ∈ t.works, w.desc.opcode ≠ 2 → tag ∉ w.waits) ∧
      ∀ (i : Nat) (w : Work), s.works[i]? = some w → w.desc.opcode ≠ 2 → tag ∈ w.waits →
        ∃ w', t.works[i]? = some w' ∧
          ∃ f, w'.fetched = w.fetched ++ [f] ∧ f.space = .tva ∧ f.addr = o.addr ∧ f.status = .translationFault) ∧
  (∀ (s : State) (tag q c : Nat) (n : Seq48) (o : Outstanding), awake s →
    txOf s tag = some o → o.await = .ats q n c → s.faults.rings.length = 4 →
    ∃ t, exec (.atsTimeout tag) s = .next t ∧
      t = { s with works := t.works, faults := t.faults, fabric := { s.fabric with outstanding := t.fabric.outstanding } } ∧
      txOf t tag = none ∧ (∀ w ∈ t.works, w.desc.opcode ≠ 2 → tag ∉ w.waits) ∧
      (∃ r, newestFault t 1 = some r ∧ r.code = 0x0202 ∧ r.kind = .cluster ∧ r.inst = c ∧ r.tenant = some o.tenant) ∧
      ∀ (i : Nat) (w : Work), s.works[i]? = some w → w.desc.opcode ≠ 2 → tag ∈ w.waits →
        ∃ w', t.works[i]? = some w' ∧
          ∃ f, w'.fetched = w.fetched ++ [f] ∧ f.space = .tva ∧ f.addr = o.addr ∧ f.status = .translationFault)

/-- R202, R204, R188: REPLAY runs every open entry of its journal again: one with a redo record set, or a shape that is not idempotent
that has begun its apply, from REDO_READY with its record, any other one from its start; entries of other journals stay.
JOURNAL_REBUILD_DONE puts the missing copies in their homes and lets the queues that refused with JOURNAL_DOWN run. A
pending vector is sent once its device's link is up. -/
def Obligations.ReplayRebuildAndPendingVectors : Prop :=
  (∀ (s : State) (k : Nat), awake s → s.journals.length = 4 → k < 4 → (journalOf s k).replay = true → hasCopy (journalOf s k) →
    ∃ t, exec (.replay k) s = .next t ∧ (journalOf t k).replay = false ∧
      (∀ j, j ≠ k → journalOf t j = journalOf s j) ∧ t.works.length = s.works.length ∧ t.queues = s.queues ∧
      t.comp = s.comp ∧ t.faults = s.faults ∧ t.outbox = s.outbox ∧
      ∀ (i : Nat) (w : Work), s.works[i]? = some w → ∃ w', t.works[i]? = some w' ∧ w'.queue = w.queue ∧ w'.seq = w.seq ∧
        w'.desc = w.desc ∧ (w.region ≠ k → w' = w) ∧
        (w.region = k → w.strip = false →
          if redoSet w = true ∨ (w.desc.opcode = 1 ∧ idempotent w.shape = false ∧ w.delivered = true)
          then w'.phase = .redoReady ∧ w'.redo = w.redo ∧ w'.status = w.status ∧ w'.replayed = true
          else w'.phase = .ready ∧ w'.redo = [] ∧ w'.status = .ok ∧ w'.placed = 0 ∧ w'.fetched = [] ∧ w'.replayed = true)) ∧
  (∀ (s : State) (k u : Nat), awake s → s.journals.length = 4 → k < 4 → (journalOf s k).rebuilding = true →
    (journalOf s k).primary = none → (journalOf s k).mirror.isSome → homeWithRoom s (journalOf s k) = some u →
    ∃ t, exec (.journalRebuildDone k) s = .next t ∧
      t = { s with journals := t.journals, queues := t.queues, outbox := t.outbox, cxl := { s.cxl with lds := t.cxl.lds } } ∧
      journalOf t k = { journalOf s k with primary := some u, rebuilding := false } ∧
      (∀ j, j ≠ k → journalOf t j = journalOf s j) ∧
      unitIn s .near u = true ∧ 128 ≤ unitFree s .near u) ∧
  (∀ (s : State) (ld vector : Nat), awake s → ldUp s ld → msiPending s ld vector → orphaned s ld vector = false →
    ∃ t, exec (.msixPendingSend ld vector) s = .next t ∧
      t = { s with outbox := s.outbox ++ [.msix ld vector], cxl := { s.cxl with lds := t.cxl.lds } } ∧
      (ldOf t ld).pendingMsi = (ldOf s ld).pendingMsi.filter (· != vector) ∧
      ∀ k, k ≠ ld → ldOf t k = ldOf s k)

/-! ### Rows of the search, embedding, copy and page shapes (chapters 03, 04, 06, 07 and 08) -/

/-- R134, R165, R187, R346: a row command whose descriptor has a segment in flight and an open write gate, and has read all that its
plan reads, carries its plan out: GATHER, POOL, COPY_CONVERT, TOPK_MERGE, PAGE_OUT, PAGE_IN (unless its CLEAR is refused), FILL,
PQ_SCAN, HAM_SCAN, APPEND and DELETE. Only bytes that the plan stores to change. -/
def Obligations.RowCommandsRunTheirPlans : Prop :=
  ∀ (s : State) (queue : Nat) (seq : Seq48) (w : Work), awake s → workOf s queue seq = some w →
    (mayRun s w 0 → Runnable s w (gatherPlan s w) → ∃ t, exec (.gather queue seq) s = .next t ∧ RanPlan s w (gatherPlan s w) t) ∧
    (mayRun s w 1 → Runnable s w (poolPlan s w) → ∃ t, exec (.pool queue seq) s = .next t ∧ RanPlan s w (poolPlan s w) t) ∧
    (mayRun s w 3 → Runnable s w (copyPlan s w) → ∃ t, exec (.copyConvert queue seq) s = .next t ∧ RanPlan s w (copyPlan s w) t) ∧
    (mayRun s w 6 → Runnable s w (topkPlan s w) → ∃ t, exec (.topkMerge queue seq) s = .next t ∧ RanPlan s w (topkPlan s w) t) ∧
    (mayRun s w 10 → Runnable s w (pageOutPlan s w) →
      ∃ t, exec (.pageOut queue seq) s = .next t ∧ RanPlan s w (pageOutPlan s w) t) ∧
    (mayRun s w 11 → Runnable s w (pageInPlan s w) →
      (bit w.desc.arg0 0 = false ∨ (w.status ≠ .permission ∧ (pageInPlan s w).status ≠ .permission ∧
        (Resolved s w (pageInPlan s w)).status ≠ .permission)) →
      ∃ t, exec (.pageIn queue seq) s = .next t ∧ RanPlan s w (pageInPlan s w) t) ∧
    (mayRun s w 13 → Runnable s w (fillPlan s w) → ∃ t, exec (.fill queue seq) s = .next t ∧ RanPlan s w (fillPlan s w) t) ∧
    (mayRun s w 4 → scanMode w.desc = 0 → scanHeld s w = false → Runnable s w (scanPlan s w) →
      ∃ t, exec (.pqScan queue seq) s = .next t ∧ RanPlan s w (scanPlan s w) t) ∧
    (mayRun s w 5 → scanMode w.desc = 0 → scanHeld s w = false → Runnable s w (scanPlan s w) →
      ∃ t, exec (.hamScan queue seq) s = .next t ∧ RanPlan s w (scanPlan s w) t) ∧
    (mayRun s w w.shape → (w.shape = 4 ∨ w.shape = 5) → scanMode w.desc = 1 → Runnable s w (appendPlan s w) →
      ∃ t, exec (.append queue seq) s = .next t ∧ RanPlan s w (appendPlan s w) t) ∧
    (mayRun s w w.shape → (w.shape = 4 ∨ w.shape = 5) → scanMode w.desc = 2 → Runnable s w (deletePlan s w) →
      ∃ t, exec (.delete queue seq) s = .next t ∧ RanPlan s w (deletePlan s w) t)

/-- R604: a FILL of a plain SA range of this hub that its tenant may write sets the byte at each address a of the range to byte
(a mod 8) of ARG0 and no other byte, and completes with OK and the bytes written as its COUNT. -/
def Obligations.FillWritesItsPattern : Prop :=
  ∀ (s : State) (queue : Nat) (seq : Seq48) (w : Work), awake s → workOf s queue seq = some w → mayRun s w 13 →
    w.status = .ok → 0 < w.desc.count → bit w.desc.flags 0 = false → w.desc.ptr0 < 2 ^ 60 → saNode w.desc.ptr0 = hubNode s →
    Memory.wf s.store.mem → localWriteStatus s w.tenant (hubNode s) (saOff w.desc.ptr0) w.desc.count = .ok →
    touchesPublished s (saOff w.desc.ptr0) w.desc.count = false → linesToWrite s (saOff w.desc.ptr0) w.desc.count = [] →
    deepPages s (saOff w.desc.ptr0) w.desc.count = [] → unanswered s queue seq = false → w.acks = [] →
    ∃ t, exec (.fill queue seq) s = .next t ∧
      (∀ i, i < w.desc.count → memByte t.store.mem (saOff w.desc.ptr0 + i) =
        BitVec.ofNat 8 (w.desc.arg0 / 256 ^ ((w.desc.ptr0 + i) % 8))) ∧
      (∀ a, a < saOff w.desc.ptr0 ∨ saOff w.desc.ptr0 + w.desc.count ≤ a → memByte t.store.mem a = memByte s.store.mem a) ∧
      (∃ w', workOf t queue seq = some w' ∧ w'.phase = .done ∧ w'.status = .ok ∧ w'.count = w.desc.count) ∧
      OtherWorksKept queue seq s t ∧ t.outbox = s.outbox ∧ t.fabric = s.fabric ∧ t.faults = s.faults

/-- R278: a SEAL raises SEALED of its index as far as SEAL_TARGET and the incomplete mutations of the index let it rise, and
completes with OK once SEALED is at or above its epoch. -/
def Obligations.SealRaisesSealedAndCompletes : Prop :=
  ∀ (s : State) (queue : Nat) (seq : Seq48) (w : Work) (x : IndexDesc), awake s → workOf s queue seq = some w →
    mayRun s w w.shape → w.status = .ok → (w.shape = 4 ∨ w.shape = 5) → scanMode w.desc = 3 → indexOf s w.desc.param = some x →
    indexStatus s w = .ok → bits w.desc.arg1 0 32 ≠ 0xFFFFFFFF →
    bits w.desc.arg1 0 32 ≤ sealedNow x (openEpochs s w.desc.param) →
    ∃ t, exec (.seal queue seq) s = .next t ∧
      indexOf t w.desc.param = some { x with sealed := sealedNow x (openEpochs s w.desc.param) } ∧
      (∀ id, id ≠ w.desc.param → indexOf t id = indexOf s id) ∧
      (∃ w', workOf t queue seq = some w' ∧ (w'.phase = .applying ∨ w'.phase = .done) ∧ w'.status = .ok ∧
        w'.result = sealedNow x (openEpochs s w.desc.param) + x.sealTarget * 2 ^ 32) ∧
      OtherWorksKept queue seq s t ∧ t.store = s.store ∧ t.queues = s.queues ∧ t.outbox = s.outbox ∧ t.fabric = s.fabric

/-! ### Streams of layers: LAYER_STREAM, KV_PUSH, KV_FETCH (chapters 08 and 12) -/

/-- R338, R339, R340: a LAYER_STREAM whose table is read ends with the layers sent as its COUNT once all are sent; before that it stages
the next layer of its window whose source is not all near, or, with none to stage, sends its next layer, once that layer lies
below SLOTS or the consumed counter allows it. -/
def Obligations.LayersAreStagedAndSentInOrder : Prop :=
  ∀ (s : State) (queue : Nat) (seq : Seq48) (w : Work) (layers : List Layer), awake s → workOf s queue seq = some w →
    mayRun s w 7 → layerBad w = false → w.status = .ok →
    (readPtr s w 0 0 (16 * w.desc.count)).needs = [] → (readPtr s w 0 0 (16 * w.desc.count)).status = .ok →
    layers = layerTable w.desc (readPtr s w 0 0 (16 * w.desc.count)).data →
    (w.desc.count ≤ w.layer → ∃ t, exec (.layerStream queue seq) s = .next t ∧ RanPlan s w { count := w.layer } t) ∧
    (w.layer < w.desc.count → boundBad s w layers = false →
      (∀ j, nextToStage s w layers = some j → Goes s w (stagePlan s w layers j) →
        ∃ t, exec (.layerStream queue seq) s = .next t ∧ RanPart s w (stagePlan s w layers j) w.layer t) ∧
      (nextToStage s w layers = none →
        (w.layer < layerSlots w.desc ∨ ((readPtr s w 3 0 8).needs = [] ∧ (readPtr s w 3 0 8).status = .ok ∧
          w.layer + 1 ≤ fieldAt (readPtr s w 3 0 8).data 0 8 + layerSlots w.desc)) →
        Goes s w (sendPlan s w layers) →
        ∃ t, exec (.layerStream queue seq) s = .next t ∧ RanPart s w (sendPlan s w layers) (w.layer + 1) t))

/-- R473: a KV_PUSH that has its pages stores its next layer once the produced counter holds the layer's number plus one, and STORED of
its key passes it; once every layer is stored, or its status has left OK, it ends with the layers stored as its COUNT, and
BOOT_GEN and POOL_PAGES as its RESULT. -/
def Obligations.KvPushStoresLayersInOrder : Prop :=
  ∀ (s : State) (queue : Nat) (seq : Seq48) (w : Work) (k : KeyEntry), awake s → workOf s queue seq = some w →
    mayRun s w 8 → pushBad w.desc = false → pushRefused s w = false → w.staged ≠ [] →
    keyOf s (pushPool w.desc) w.desc.arg0 = some k →
    ((w.desc.count ≤ w.layer ∨ w.status ≠ .ok) → ∃ t, exec (.kvPush queue seq) s = .next t ∧
      RanPlan s w { count := w.layer, result := s.comp.bootGen % 2 ^ 32 + (poolPages k % 2 ^ 32) * 2 ^ 32 } t) ∧
    (∀ (c g : Got) (p : Plan), w.layer < w.desc.count → w.status = .ok → c = readPtr s w 1 0 8 → c.needs = [] → c.status = .ok →
      w.layer + 1 ≤ fieldAt c.data 0 8 → g = readPtr s w 0 (w.layer * (k.pages * 65536)) (k.pages * 65536) → g.needs = [] →
      g.status = .ok → p = { count := w.layer, result := pushResult s k, writes := layerWrites (hubNode s) k w.layer g.data false } →
      Goes s w p →
      ∃ t, exec (.kvPush queue seq) s = .next t ∧ RanPart s w p (w.layer + 1) t ∧
        keyOf t (pushPool w.desc) w.desc.arg0 = some { k with stored := w.layer + 1 })

/-- R475: a KV_FETCH whose key's directory delivers its next layer writes that layer to the consumer; it ends with the layers
delivered as its COUNT once all are. The directory is this hub's where it is the holder, else the one that the command
shows. -/
def Obligations.KvFetchDeliversLayersInOrder : Prop :=
  ∀ (s : State) (queue : Nat) (seq : Seq48) (w : Work) (gen : Nat) (shown : Option KeyEntry), awake s →
    workOf s queue seq = some w → mayRun s w 9 → 1 ≤ w.desc.count → w.desc.count ≤ 1024 → fetchRefused s w = false →
    w.status = .ok →
    (w.desc.count ≤ w.layer → ∃ t, exec (.kvFetch queue seq gen shown) s = .next t ∧
      RanPlan s w { count := w.layer, follow := fetchFollow w.desc } t) ∧
    (∀ (g : Nat) (held : Option KeyEntry) (k : KeyEntry) (b : Got) (p : Plan), w.layer < w.desc.count →
      unanswered s queue seq = false →
      (g, held) = (if fetchHolder w.desc = hubNode s then (s.comp.bootGen, keyOf s (bits w.desc.param 0 8) w.desc.arg0)
        else (gen, shown)) →
      layerFate s w g held (fetchFirst w.desc + w.layer) = .deliver → held = some k →
      b = layerBytes s w k (fetchFirst w.desc + w.layer) → b.needs = [] → b.status = .ok →
      p = { count := w.layer,
            writes := [rowWrite w.desc 0 (w.desc.ptr0 + w.layer * (k.pages * 65536)) b.data false] } →
      Goes s w p →
      ∃ t, exec (.kvFetch queue seq gen shown) s = .next t ∧ RanPart s w p (w.layer + 1) t)

/-! ### Updates with a redo record: SCATTER_ADD, ATOMIC_BATCH, REDO_APPLY (chapters 05, 06 and 09) -/

/-- R196, R199, R254: a SCATTER_ADD whose rows are all read, whose remote owners have all answered OK and whose guards are free forms
its redo record and writes no row yet: the record holds the after-image of every readable row of this hub, and the summed
deltas in FP32 of every row of another; it takes the guards of its local rows, and is then in REDO_READY. -/
def Obligations.ScatterAddFormsItsRedoRecord : Prop :=
  ∀ (s : State) (queue : Nat) (seq : Seq48) (w : Work) (t : TableDesc) (sums here : List Summed), awake s →
    workOf s queue seq = some w → mayRun s w 2 → tableOf s w.desc.param = some t → scatterRead s w t = .ok sums →
    here = sums.filter (fun u => saNode (ownerRowSa t u.index) == hubNode s) →
    (∀ u ∈ here, permits s w.tenant (saOff (ownerRowSa t u.index)) (rowSize t) true = true ∧
      deepPages s (saOff (ownerRowSa t u.index)) (rowSize t) = [] ∧ linesToWrite s (saOff (ownerRowSa t u.index)) (rowSize t) = [] ∧
      (readSa s w (ownerRowSa t u.index) (rowSize t)).needs = []) →
    (∀ o ∈ w.owners, o.2 = 1) →
    (∀ u ∈ sums, saNode (ownerRowSa t u.index) ≠ hubNode s →
      reachable s (saNode (ownerRowSa t u.index)) = true ∧ (saNode (ownerRowSa t u.index), 1) ∈ w.owners) →
    prepOpen s w = false →
    guardBlocked s w.stamp (dedup (here.flatMap (fun u => rowLines t (saOff (ownerRowSa t u.index))))) = false →
    RedoRoom s w.region →
    ∃ x items, exec (.scatterAdd queue seq) s = .next x ∧
      (redoBytes items ≤ 4194304 → ∃ w', workOf x queue seq = some w' ∧ w'.phase = .redoReady ∧ w'.redo = items ∧
        w'.guards = dedup (here.flatMap (fun u => rowLines t (saOff (ownerRowSa t u.index))))) ∧
      (∀ u ∈ here, (readSa s w (ownerRowSa t u.index) (rowSize t)).status = .ok → u.got.status = .ok →
        ∃ base, RedoItem.bytes (saOff (ownerRowSa t u.index))
          (addDelta t (selRnd w.desc.dstFmt) base (readSa s w (ownerRowSa t u.index) (rowSize t)).data u.vals).1 ∈ items) ∧
      (∀ u ∈ sums, saNode (ownerRowSa t u.index) ≠ hubNode s → u.got.status = .ok →
        ∃ part ds, RedoItem.delta (saNode (ownerRowSa t u.index)) w.desc.param part t.mapEpoch (selRnd w.desc.dstFmt * 64) ds ∈ items ∧
          { index := u.index, elems := u.vals.map toFp32 } ∈ ds) ∧
      (∀ a, memByte x.store.mem a = memByte s.store.mem a) ∧ x.queues = s.queues

/-- R196, R199, R364, R366, R370: an ATOMIC_BATCH whose targets are checked here and by their owners, whose guards are free and whose
targets are read forms its redo record and writes nothing yet: the record begins with the results of its entries performed
in order, entries of scope FABRIC to other hubs apart, which it carries as operations; it is then in REDO_READY. -/
def Obligations.AtomicBatchFormsItsRedoRecord : Prop :=
  ∀ (s : State) (queue : Nat) (seq : Seq48) (w : Work) (es near far : List (Nat × AtomicEntry)), awake s →
    workOf s queue seq = some w → mayRun s w 12 → 1 ≤ w.desc.count → w.desc.count ≤ 1048576 → bits w.desc.param 0 2 ≠ 3 →
    (readPtr s w 0 0 (32 * w.desc.count)).needs = [] → (readPtr s w 0 0 (32 * w.desc.count)).status = .ok →
    es = (List.range (chunks 32 w.desc.count (readPtr s w 0 0 (32 * w.desc.count)).data).length).zip
      ((chunks 32 w.desc.count (readPtr s w 0 0 (32 * w.desc.count)).data).map parseAtomic) →
    (∀ e ∈ es, badAtomic e.2 = false) →
    far = es.filter (fun e => bits w.desc.param 0 2 == 2 && saNode e.2.target != hubNode s) →
    near = es.filter (fun e => !(bits w.desc.param 0 2 == 2 && saNode e.2.target != hubNode s)) →
    (∀ e ∈ es, saNode e.2.target = hubNode s → saWellFormed e.2.target = true ∧
      permits s w.tenant (saOff e.2.target) (atomicWidth e.2) true = true ∧ deepPages s (saOff e.2.target) 8 = [] ∧
      linesToWrite s (saOff e.2.target) (atomicWidth e.2) = []) →
    (∀ e ∈ es, saNode e.2.target ≠ hubNode s → hubOnly s = false ∧ reachable s (saNode e.2.target) = true ∧
      ((domainHubs s).contains (saNode e.2.target) = true → (saNode e.2.target, 1) ∈ w.owners)) →
    (∀ o ∈ w.owners, o.2 = 1) → checkOpen s w = false →
    (∀ guards, (∀ g ∈ guards, ∃ e ∈ es, g = saOff e.2.target / 128 ∨ g = farGuard (saNode e.2.target) (saOff e.2.target / 128)) →
      guardBlocked s w.stamp guards = false) →
    (∀ e ∈ near, (readSa s w e.2.target (atomicWidth e.2)).needs = [] ∧ ((readSa s w e.2.target (atomicWidth e.2)).status = .ok ∨
      (readSa s w e.2.target (atomicWidth e.2)).status = .poison)) →
    (∀ e ∈ es, ∀ v, (resolve s w false (oldWrite w.desc e.1 v)).needs = [] ∧ (resolve s w false (oldWrite w.desc e.1 v)).status = .ok) →
    RedoRoom s w.region →
    ∃ x items rest, exec (.atomicBatch queue seq) s = .next x ∧
      (redoBytes items ≤ 4194304 → ∃ w', workOf x queue seq = some w' ∧ w'.phase = .redoReady ∧ w'.redo = items) ∧
      items = (performAll (hubNode s) (fun sa n => readSa s w sa n) near).items ++ rest ∧
      (∀ e ∈ far, ∃ part slots ops, RedoItem.atomic (saNode e.2.target) part (bits w.desc.param 0 2) slots ops ∈ items ∧
        e.1 ∈ slots ∧ e.2 ∈ ops) ∧
      (∀ a, memByte x.store.mem a = memByte s.store.mem a) ∧ x.queues = s.queues

/-- R199, R254: REDO_APPLY of a descriptor in REDO_READY writes its record's items, lets its guards go, and leaves the descriptor
applying until every DELTA, ATOMIC and write is answered, or done. No byte that no item writes changes; an item of bytes
alone in its record, on plain memory, is there to be read afterwards. -/
def Obligations.RedoApplyWritesTheRecord : Prop :=
  ∀ (s : State) (queue : Nat) (seq : Seq48) (w : Work), awake s → workOf s queue seq = some w → w.phase = .redoReady →
    awaitsReplay s w = false → s.pins.failing = false → w.restored = false → s.embed.held = [] →
    ∃ t, exec (.redoApply queue seq) s = .next t ∧
      (∃ w', workOf t queue seq = some w' ∧ w'.guards = [] ∧ w'.redo = w.redo ∧ (w'.phase = .applying ∨ w'.phase = .done)) ∧
      OtherWorksKept queue seq s t ∧
      (∀ a, (∀ i ∈ w.redo, ¬ ItemWrites s i a) → memByte t.store.mem a = memByte s.store.mem a) ∧
      (∀ off d, w.redo = [.bytes off d] → Memory.wf s.store.mem → permits s w.tenant off d.length true → rangeGone s off d.length = false →
        partPoison s off d.length = false → touchesPublished s off d.length = false →
        ∀ i, (h : i < d.length) → memByte t.store.mem (off + i) = d[i]) ∧
      t.queues = s.queues ∧ t.comp = s.comp

/-! ### FENCE, tally channels, Glaze and Published regions (chapter 09) -/

/-- R353, R354: a FENCE completes once no earlier descriptor that a Strip has not reached is left without its completion log record: of
its queue for scope QUEUE, of its tenant on this hub besides for HUB, and for FABRIC once besides every message that the
tenant had sent before the acceptance is answered; until then it waits. Nothing but its own descriptor changes. -/
def Obligations.FenceCompletesOnceItsScopeIsDone : Prop :=
  ∀ (s : State) (queue : Nat) (seq : Seq48) (w : Work) (scope : Nat) (c : Instr), awake s → openOf s queue seq 2 = some w →
    bits w.desc.param 0 2 = scope →
    ((scope = 0 ∧ c = .fenceQueue queue seq) ∨ (scope = 1 ∧ c = .fenceHub queue seq) ∨ (scope = 2 ∧ c = .fenceFabric queue seq)) →
    let done : Prop :=
      (∀ x ∈ s.works, x.stamp < w.stamp → x.strip = false → x.queue ≠ w.queue ∧ (scope = 0 ∨ x.tenant ≠ w.tenant)) ∧
      (scope = 2 → (∀ tag ∈ w.waits, txOf s tag = none) ∧ ∀ r ∈ s.embed.relays, r.h.tenant ≠ w.tenant)
    (done → ∃ t, exec c s = .next t ∧ t = { s with works := t.works } ∧ EndsAs s t w .ok 0 w.result) ∧
    (¬ done → ∃ t, exec c s = .next t ∧ t = { s with works := t.works } ∧ OtherWorksKept queue seq s t ∧
      ∃ n, workOf t queue seq = some { w with phase := .waiting, result := n })

/-- R362: a WAIT_TALLY completes with OK, its RESULT the counter's BYTES, once BYTES and PACKETS have reached its targets modulo their
widths; with PERMISSION at once where the counter is not bound, not valid or another tenant's; with NODE_UNREACHABLE, naming
the source, where membership has declared the source unreachable; until then it waits. -/
def Obligations.WaitTallyCompletesAtItsTargets : Prop :=
  ∀ (s : State) (queue : Nat) (seq : Seq48) (w : Work), awake s → openOf s queue seq 3 = some w →
    let c := bits w.desc.param 0 6
    let k := Tbl.at s.order.tally c TallyCounter.zero
    let reached : Prop := (k.bytes - BitVec.ofNat 48 (bits w.desc.arg0 0 48)).toNat < 2 ^ 47 ∧
      (k.packets - BitVec.ofNat 32 (bits w.desc.arg1 0 32)).toNat < 2 ^ 31
    let quiet (t : State) : Prop := t = { s with works := t.works }
    ((∀ r, Tbl.find (tallyRecvs s) c = some r → tallyValid s r = false ∨ r.tenant ≠ w.tenant) →
      ∃ t, exec (.waitTally queue seq) s = .next t ∧ quiet t ∧ EndsAs s t w .permission (hubNode s) 0) ∧
    (∀ r, Tbl.find (tallyRecvs s) c = some r → tallyValid s r = true → r.tenant = w.tenant →
      (reached → ∃ t, exec (.waitTally queue seq) s = .next t ∧ quiet t ∧ EndsAs s t w .ok 0 k.bytes.toNat) ∧
      (¬ reached → declaredLost s r.src = true →
        ∃ t, exec (.waitTally queue seq) s = .next t ∧ quiet t ∧ EndsAs s t w .nodeUnreachable r.src 0) ∧
      (¬ reached → declaredLost s r.src = false →
        ∃ t, exec (.waitTally queue seq) s = .next t ∧ quiet t ∧ OtherWorksKept queue seq s t ∧
          workOf t queue seq = some { w with phase := .waiting }))

/-- R385, R386: a PUBLISH of an empty or absent draft ends with OK and the current version; of another draft it ends with CONFLICT and the
current version where the region is not LAST_WINS and ARG0 is another version, the draft kept; else with OK and the version
raised by one, and the flip follows it. The version itself does not change in this step. -/
def Obligations.PublishFixesItsOutcome : Prop :=
  ∀ (s : State) (queue : Nat) (seq : Seq48) (w : Work) (r : Nat) (x : PubRegion), awake s → openOf s queue seq 4 = some w →
    glazeMode w.desc = 0 → namedRegion s w.tenant w.desc.ptr0 = some (r, x) → flipPending s r = false → gateOpen s w →
    let writer := glazeWriter w.desc
    let quiet (t : State) : Prop := t = { s with works := t.works, order := { s.order with drafts := t.order.drafts } } ∧
      t.order.drafts = s.order.drafts.map (fun d =>
        if d.region = r ∧ d.tenant = w.tenant ∧ d.writer = writer then { d with renewed := s.now } else d)
    ((∀ d, draftOf s r w.tenant writer = some d → d.granules = []) →
      ∃ t, exec (.glazePublish queue seq) s = .next t ∧ quiet t ∧ EndsAs s t w .ok 0 x.version) ∧
    (∀ d, draftOf s r w.tenant writer = some d → d.granules ≠ [] →
      (x.lastWins = false → w.desc.arg0 ≠ x.version →
        ∃ t, exec (.glazePublish queue seq) s = .next t ∧ quiet t ∧ EndsAs s t w .conflict 0 x.version) ∧
      ((x.lastWins = true ∨ w.desc.arg0 = x.version) →
        ∃ t, exec (.glazePublish queue seq) s = .next t ∧ quiet t ∧
          EndsAs s t { w with follow := [.flip r w.tenant writer (x.version + 1)] } .ok 0 (x.version + 1)))

/-- R385, R389: DISCARD frees its draft and no other; REFRESH drops the cached sectors of its region and then learns the version, VERSION
learns it and drops nothing: at home from the region, from another hub by VERSION_REQ. -/
def Obligations.GlazeDiscardsRefreshesAndLearns : Prop :=
  (∀ (s : State) (queue : Nat) (seq : Seq48) (w : Work) (r : Nat) (x : PubRegion), awake s → openOf s queue seq 4 = some w →
    glazeMode w.desc = 1 → namedRegion s w.tenant w.desc.ptr0 = some (r, x) → gateOpen s w →
    ∃ t, exec (.glazeDiscard queue seq) s = .next t ∧
      t = { s with works := t.works, order := { s.order with drafts := t.order.drafts } } ∧
      (∀ d, d ∈ t.order.drafts ↔ d ∈ s.order.drafts ∧ ¬ (d.region = r ∧ d.tenant = w.tenant ∧ d.writer = glazeWriter w.desc)) ∧
      EndsAs s t w .ok 0 x.version) ∧
  (∀ (s : State) (queue : Nat) (seq : Seq48) (w : Work) (c : Instr), awake s → openOf s queue seq 4 = some w → w.phase = .ready →
    gateOpen s w →
    ((glazeMode w.desc = 2 ∧ c = .glazeRefresh queue seq) ∨ (glazeMode w.desc = 3 ∧ c = .glazeVersion queue seq)) →
    let kept (t : State) : Prop := ∀ p, p ∈ t.order.sectors ↔ p ∈ s.order.sectors ∧
      (glazeMode w.desc = 2 → ¬ (p.node = saNode w.desc.ptr0 ∧ saOff w.desc.ptr0 ≤ 128 * p.sector))
    (∀ r x, saNode w.desc.ptr0 = hubNode s → namedRegion s w.tenant w.desc.ptr0 = some (r, x) →
      ∃ t, exec c s = .next t ∧ kept t ∧ EndsAs s t w .ok 0 x.version ∧
        t = { s with works := t.works, order := { s.order with drafts := t.order.drafts, sectors := t.order.sectors } }) ∧
    (saNode w.desc.ptr0 ≠ hubNode s → saWellFormed w.desc.ptr0 → (domainHubs s).contains (saNode w.desc.ptr0) →
      reachable s (saNode w.desc.ptr0) →
      ∃ t, exec c s = .next t ∧ kept t ∧ OtherWorksKept queue seq s t ∧ workOf t queue seq = some { w with phase := .waiting } ∧
        t.outbox = s.outbox ++
          [.version (saNode w.desc.ptr0) 0x45 s.fabric.nextTag (saOff w.desc.ptr0) .ok w.tenant] ∧
        (∃ o, o ∈ t.fabric.outstanding ∧ o.tag = s.fabric.nextTag ∧ o.node = saNode w.desc.ptr0 ∧ o.await = .version queue seq) ∧
        t = { s with works := t.works, outbox := t.outbox, order := { s.order with sectors := t.order.sectors }
                     fabric := { s.fabric with outstanding := t.fabric.outstanding, nextTag := t.fabric.nextTag
                                               ports := t.fabric.ports } }))

/-- R384, R385, R387, R389: VERSION_REQ is answered with the version of the region whose FIRST_SA it names, or with PERMISSION;
VERSION_RSP ends the GLAZE that asked; VERSION_NOTICE drops the sectors of older versions of its region; a draft whose lease
expires is freed. -/
def Obligations.VersionMessagesAndLeases : Prop :=
  (∀ (s : State) (m : MsgHeader), awake s →
    ((isMember s m.src = false ∨ namedRegion s m.tenant (saOf (hubNode s) m.offset) = none) →
      ∃ t, exec (.versionReq m) s = .next t ∧ Sends s t [.version m.src 0x27 m.tag m.offset .permission 0]) ∧
    (∀ r x, isMember s m.src = true → namedRegion s m.tenant (saOf (hubNode s) m.offset) = some (r, x) →
      ∃ t, exec (.versionReq m) s = .next t ∧ t.outbox = s.outbox ++ [.version m.src 0x27 m.tag m.offset .ok x.version] ∧
        t = { s with outbox := t.outbox, order := { s.order with drafts := t.order.drafts }
                     fabric := { s.fabric with ports := t.fabric.ports } })) ∧
  (∀ (s : State) (m : MsgHeader) (status : Status) (version : Nat) (o : Outstanding) (q : Nat) (n : Seq48) (w : Work), awake s →
    txOf s m.tag = some o → o.await = .version q n → o.node = m.src → workOf s q n = some w →
    ∃ t, exec (.versionRsp m status version) s = .next t ∧ EndsAs s t w status m.src version ∧ txOf t m.tag = none ∧
      t = { s with works := t.works, order := { s.order with learned := t.order.learned }
                   fabric := { s.fabric with outstanding := t.fabric.outstanding } }) ∧
  (∀ (s : State) (m : MsgHeader) (version : Nat), awake s →
    ∃ t, exec (.versionNotice m version) s = .next t ∧
      t = { s with order := { s.order with sectors := t.order.sectors, learned := t.order.learned } } ∧
      Tbl.find t.order.learned (saOf m.src m.offset) = some version ∧
      ∀ p, p ∈ t.order.sectors ↔ p ∈ s.order.sectors ∧ ¬ (p.node = m.src ∧ p.region = m.offset ∧ p.version < version)) ∧
  (∀ (s : State) (region tenant writer : Nat), awake s →
    ∃ t, exec (.draftLeaseExpiry region tenant writer) s = .next t ∧
      t = { s with order := { s.order with drafts := t.order.drafts } } ∧
      ∀ d, d ∈ t.order.drafts ↔ d ∈ s.order.drafts ∧ ¬ (d.region = region ∧ d.tenant = tenant ∧ d.writer = writer))

/-- R360, R353: once its tally writes are answered, and no earlier credit of the queue is owed, a finished descriptor sends one
TALLY_CREDIT with its SEQ, bytes and write messages; the counter adds a credit only where SEEN is clear or its SEQ comes after
LAST_SEQ, then holds that SEQ, and acknowledges every credit; the acknowledgement closes the credit. -/
def Obligations.TallyCreditsCountOnce : Prop :=
  (∀ (s : State) (queue : Nat) (seq : Seq48) (w : Work) (ch : Nat) (b : TallySend), awake s → workOf s queue seq = some w →
    w.phase = .done → owesCredit w → tallyOpen s queue seq = false →
    (∀ x ∈ s.works, x.queue = queue → Seq48.before x.seq seq → owesCredit x = false) →
    (tallySends s).find? (fun e => e.2.queue == queue) = some (ch, b) →
    ∃ t, exec (.tallyCreditSend queue seq) s = .next t ∧
      t.outbox = s.outbox ++ [.tallyCredit b.dest ch s.fabric.nextTag seq w.tallyBytes w.tallyPkts] ∧
      workOf t queue seq = some { w with tallyBytes := 0, tallyPkts := 0 } ∧ OtherWorksKept queue seq s t ∧
      t = { s with works := t.works, outbox := t.outbox
                   fabric := { s.fabric with outstanding := t.fabric.outstanding, nextTag := t.fabric.nextTag
                                             ports := t.fabric.ports } }) ∧
  (∀ (s : State) (src channel tag : Nat) (seq : Seq48) (bytes packets id : Nat) (r : TallyRecv), awake s →
    (tallyRecvs s).find? (fun e => e.2.src == src && e.2.channel == channel && tallyValid s e.2) = some (id, r) →
    let k := Tbl.at s.order.tally id TallyCounter.zero
    ∃ t, exec (.tallyCredit src channel tag seq bytes packets) s = .next t ∧
      t.outbox = s.outbox ++ [.creditAck src tag] ∧
      (∀ c, c ≠ id → Tbl.at t.order.tally c TallyCounter.zero = Tbl.at s.order.tally c TallyCounter.zero) ∧
      Tbl.at t.order.tally id TallyCounter.zero =
        (if k.seen = false ∨ Seq48.before k.lastSeq seq then
          { bytes := k.bytes + BitVec.ofNat 48 bytes, packets := k.packets + BitVec.ofNat 32 packets, lastSeq := seq, seen := true }
        else k) ∧
      t = { s with outbox := t.outbox, order := { s.order with tally := t.order.tally }
                   fabric := { s.fabric with ports := t.fabric.ports } }) ∧
  (∀ (s : State) (src channel tag : Nat) (seq : Seq48) (bytes packets : Nat), awake s →
    (tallyRecvs s).find? (fun e => e.2.src == src && e.2.channel == channel && tallyValid s e.2) = none →
    ∃ t, exec (.tallyCredit src channel tag seq bytes packets) s = .next t ∧ Sends s t [.creditAck src tag]) ∧
  (∀ (s : State) (src tag : Nat) (o : Outstanding) (q : Nat) (n : Seq48), awake s → txOf s tag = some o →
    o.await = .credit q n → o.node = src →
    ∃ t, exec (.creditAck src tag) s = .next t ∧ txOf t tag = none ∧
      (∀ k, k ≠ tag → txOf t k = txOf s k) ∧ t = { s with fabric := { s.fabric with outstanding := t.fabric.outstanding } })

/-! ### The exchange, and messages of other endpoints (chapters 06 and 09) -/

/-- R245, R247, R248, R252: a POOL_REQ that the hub serves, under no newer map and for rows that the tenant may read, is answered with one
partial per bag, which counts the bag's rows and is poisoned where one of them cannot be read, and with the entries that the
hub does not hold under the request's map; a hub that does not serve answers BUSY. A POOL_RSP answers its request and names
the stale entries; BUSY, and a STRAGGLE of its segment, send unanswered entries on their way through Trowel. -/
def Obligations.PoolRequestsAreServedOrReadThroughTrowel : Prop :=
  (∀ (s : State) (src : Nat) (h : ExHeader) (entries : List PoolEntry) (t : TableDesc), awake s → exchServes s →
    receiveUsed s + poolReqBytes entries ≤ 67108864 → tableOf s h.table = some t → epochAhead t h.epoch = false →
    isMember s src → (∀ e ∈ entries, e.index < t.rows) →
    (∀ e ∈ entries, ∀ sa, heldRowSa s t h.epoch e.index = some sa → permits s h.tenant (saOff sa) (rowSize t) false) →
    ∃ u, exec (.poolReq src h entries) s = .next u ∧ ∃ ps,
      u = { s with outbox := u.outbox, store := { s.store with pages := u.store.pages },
                   fabric := { s.fabric with ports := u.fabric.ports } } ∧
      u.outbox = s.outbox ++ [.poolRsp src { h with epoch := t.mapEpoch, op := 0, status := .ok } ps
        (entries.filter (fun e => (heldRowSa s t h.epoch e.index).isNone))] ∧
      (∀ p ∈ ps, p.rows = (entries.filter (fun e => (heldRowSa s t h.epoch e.index).isSome && e.bag == p.bag)).length ∧
        (p.poison = true ↔ ∃ e ∈ entries, e.bag = p.bag ∧ ∃ sa, heldRowSa s t h.epoch e.index = some sa ∧
          localReadStatus s h.tenant (saOff sa) (rowSize t) ≠ .ok)) ∧
      (∀ e ∈ entries, (heldRowSa s t h.epoch e.index).isSome → ∃ p ∈ ps, p.bag = e.bag)) ∧
  (∀ (s : State) (src : Nat) (h : ExHeader) (entries : List PoolEntry), awake s → exchServes s = false →
    ∃ u, exec (.poolReq src h entries) s = .next u ∧ Sends s u [.exchange src 8 h]) ∧
  (∀ (s : State) (src : Nat) (h : ExHeader) (partials : List Partial) (stale : List PoolEntry) (w : Work), awake s →
    workOf s h.queue h.seq = some w → h.status = .ok → stale = [] →
    (∃ a ∈ w.asked, a.owner = src ∧ a.part = h.part ∧ a.answer = none) →
    ∃ u, exec (.poolRsp src h partials stale) s = .next u ∧ ∃ w', u = { s with works := u.works } ∧
      OtherWorksKept h.queue h.seq s u ∧ workOf u h.queue h.seq = some w' ∧ w'.status = w.status ∧
      w'.asked.length = w.asked.length ∧
      (∀ (i : Nat) (a : PoolAsk), w.asked[i]? = some a → ∃ a', w'.asked[i]? = some a' ∧ a'.owner = a.owner ∧ a'.part = a.part ∧
        a'.entries = a.entries ∧
        a'.answer = if a.owner = src ∧ a.part = h.part ∧ a.answer = none then some partials else a.answer)) ∧
  (∀ (s : State) (c : Instr) (queue part : Nat) (seq : Seq48) (hit : PoolAsk → Prop) (w : Work), awake s →
    ((∃ src h, c = .busy src h ∧ h.queue = queue ∧ h.seq = seq ∧ h.part = part ∧
        ∀ a, hit a ↔ a.answer = none ∧ a.owner = src ∧ a.part = part) ∨
      (c = .straggle queue seq part ∧ ∀ a, hit a ↔ a.answer = none ∧ a.part = part)) →
    workOf s queue seq = some w →
    ∃ u, exec c s = .next u ∧ ∃ w', u = { s with works := u.works } ∧ OtherWorksKept queue seq s u ∧ workOf u queue seq = some w' ∧
      (∀ a, a ∈ w'.asked ↔ a ∈ w.asked ∧ ¬ hit a) ∧
      (∀ x, x ∈ w'.trowel ↔ x ∈ w.trowel ∨ ∃ a ∈ w.asked, hit a ∧ ∃ e ∈ a.entries, x = trowelCode part e.index))

/-- R254, R256, R257, R258, R262: a PREP whose rows this hub holds is answered OK where the tenant may write them all, and PERMISSION where
it may not; PREP_RSP marks its owner. A DELTA already receipted is acknowledged again with the receipt's flags and status, and
nothing is applied; a new one is recorded with a receipt of the flags and status that the acknowledgement carries, and no byte
outside its rows changes; of a single readable row, the new bytes are the old row with the delta added. DELTA_ACK joins the
flags to its descriptor; RELEASE frees the receipts of a descriptor and no other. -/
def Obligations.UpdatesAtTheOwnerCountOnce : Prop :=
  (∀ (s : State) (src : Nat) (h : ExHeader) (indices : List Nat) (t : TableDesc), awake s → tableOf s h.table = some t →
    isMember s src → fencedPrimary s t = false → (∀ i ∈ indices, saNode (ownerRowSa t i) = hubNode s) →
    ((∀ i ∈ indices, i < t.rows ∧ permits s h.tenant (saOff (ownerRowSa t i)) (rowSize t) true) →
      ∃ u, exec (.prep src h indices) s = .next u ∧
        Sends s u [.exchange src 4 { h with op := 0, epoch := t.mapEpoch, status := .ok }]) ∧
    (∀ i ∈ indices, i < t.rows → permits s h.tenant (saOff (ownerRowSa t i)) (rowSize t) true = false →
      ∃ u, exec (.prep src h indices) s = .next u ∧ u.store = s.store ∧ u.works = s.works ∧
        u.outbox = s.outbox ++ [.exchange src 4 { h with op := 0, epoch := t.mapEpoch, status := .permission }])) ∧
  (∀ (s : State) (src : Nat) (h : ExHeader) (o : Outstanding) (w : Work), awake s → s.embed.relays = [] →
    updateTx s false src h = some o → workOf s h.queue h.seq = some w →
    ∃ u, exec (.prepRsp src h) s = .next u ∧ ∃ w', txOf u o.tag = none ∧ workOf u h.queue h.seq = some w' ∧
      OtherWorksKept h.queue h.seq s u ∧
      w'.owners = w.owners.map (fun e => if e.1 = src then (e.1, max e.2 (if h.status = .ok then 1 else 2)) else e) ∧
      u = { s with works := u.works, fabric := { s.fabric with outstanding := u.fabric.outstanding } }) ∧
  (∀ (s : State) (src : Nat) (h : ExHeader) (items : List DeltaItem) (t : TableDesc) (rc : Receipt), awake s →
    tableOf s h.table = some t → isMember s src → fencedPrimary s t = false → items ≠ [] →
    (∀ i ∈ items, i.index < t.rows ∧ saNode (ownerRowSa t i.index) = hubNode s) →
    receiptOf s h.src h.queue h.seq h.part = some rc →
    ∃ u, exec (.delta src h items) s = .next u ∧
      Sends s u [.exchange src 6 { h with op := rc.flags, epoch := t.mapEpoch, status := rc.status }]) ∧
  (∀ (s : State) (src : Nat) (h : ExHeader) (items : List DeltaItem) (t : TableDesc), awake s →
    tableOf s h.table = some t → isMember s src → fencedPrimary s t = false → items ≠ [] →
    (∀ i ∈ items, i.index < t.rows ∧ saNode (ownerRowSa t i.index) = hubNode s ∧ i.elems.length = t.rowElems) →
    receiptOf s h.src h.queue h.seq h.part = none → isReplicated t = false → s.comp.live.moves = [] →
    deltaWaits s (dedup (items.map (fun i => saOff (ownerRowSa t i.index)))) (rowSize t) = false →
    ∃ u, exec (.delta src h items) s = .next u ∧ ∃ rc, u.receipts = s.receipts ++ [rc] ∧ rc.src = h.src ∧ rc.queue = h.queue ∧
      rc.seq = h.seq ∧ rc.part = h.part ∧
      u.outbox = s.outbox ++ [.exchange src 6 { h with op := rc.flags, epoch := t.mapEpoch, status := rc.status }] ∧
      u.works = s.works ∧ u.queues = s.queues ∧
      (∀ a, (∀ i ∈ items, a < saOff (ownerRowSa t i.index) ∨ saOff (ownerRowSa t i.index) + rowSize t ≤ a) →
        memByte u.store.mem a = memByte s.store.mem a) ∧
      (∀ x, items = [x] → localReadStatus s h.tenant (saOff (ownerRowSa t x.index)) (rowSize t) = .ok →
        permits s h.tenant (saOff (ownerRowSa t x.index)) (rowSize t) true → Memory.wf s.store.mem →
        rangeGone s (saOff (ownerRowSa t x.index)) (rowSize t) = false →
        partPoison s (saOff (ownerRowSa t x.index)) (rowSize t) = false →
        touchesPublished s (saOff (ownerRowSa t x.index)) (rowSize t) = false →
        let image := (addDelta t (bits h.op 6 2) s.free (readMem s (saOff (ownerRowSa t x.index)) (rowSize t)) (x.elems.map ofFp32)).1
        image.length = rowSize t ∧ ∀ i, (hi : i < image.length) → memByte u.store.mem (saOff (ownerRowSa t x.index) + i) = image[i])) ∧
  (∀ (s : State) (src : Nat) (h : ExHeader) (o : Outstanding) (w : Work), awake s → s.embed.relays = [] →
    updateTx s true src h = some o → workOf s h.queue h.seq = some w →
    ∃ u, exec (.deltaAck src h) s = .next u ∧ ∃ w', txOf u o.tag = none ∧ workOf u h.queue h.seq = some w' ∧
      OtherWorksKept h.queue h.seq s u ∧ w'.conv = w.conv ||| h.op ∧ w'.status = worse w.status h.status ∧
      u = { s with works := u.works, fabric := { s.fabric with outstanding := u.fabric.outstanding } }) ∧
  (∀ (s : State) (src : Nat) (h : ExHeader), awake s → s.embed.held = [] →
    ∃ u, exec (.release src h) s = .next u ∧ u = { s with receipts := u.receipts } ∧
      ∀ r, r ∈ u.receipts ↔ r ∈ s.receipts ∧ ¬ (r.src = h.src ∧ r.queue = h.queue ∧ r.seq = h.seq))

/-- R68, R355, R359, R370: a member's LOAD of memory that its tenant may read, with no copy away from home, is answered with the bytes and
changes no byte; its STORE, and a TALLY_STORE, of a plain range that its tenant may write writes those bytes and no other, and
is acknowledged; its ATOMIC_CHECK is answered OK where its tenant may write every target, and nothing changes; a repeated
ATOMIC is answered from its receipt. A node that is no member gets PERMISSION, and nothing changes. -/
def Obligations.MessagesReadAndWriteThisHubsMemory : Prop :=
  (∀ (s : State) (m : MsgHeader) (len : Nat), awake s → isMember s m.src → localReadStatus s m.tenant m.offset len = .ok →
    linesToRead s m.offset len = [] →
    ∃ u, exec (.load m len none) s = .next u ∧
      u.outbox = s.outbox ++ [.loadRsp m.src m.tag .ok 0 (viewMem s m.tenant m.src m.offset len)] ∧
      u = { s with outbox := u.outbox, store := { s.store with pages := u.store.pages },
                   fabric := { s.fabric with ports := u.fabric.ports } }) ∧
  (∀ (s : State) (m : MsgHeader) (data : List Byte) (c : Instr), awake s → isMember s m.src →
    (c = .store m data ∨ c = .tallyStore m data) → Memory.wf s.store.mem →
    localWriteStatus s m.tenant m.src m.offset data.length = .ok → touchesPublished s m.offset data.length = false →
    deepPages s m.offset data.length = [] → linesToWrite s m.offset data.length = [] →
    ∃ u, exec c s = .next u ∧ u.outbox = s.outbox ++ [.storeAck m.src m.tag .ok] ∧
      (∀ i, (h : i < data.length) → memByte u.store.mem (m.offset + i) = data[i]) ∧
      (∀ a, a < m.offset ∨ m.offset + data.length ≤ a → memByte u.store.mem a = memByte s.store.mem a) ∧
      u.works = s.works ∧ u.queues = s.queues ∧ u.receipts = s.receipts ∧ u.faults = s.faults) ∧
  (∀ (s : State) (m : MsgHeader) (scope queue part : Nat) (seq : Seq48) (es : List AtomicEntry), awake s → isMember s m.src →
    ((∀ e ∈ es, permits s m.tenant (saOff e.target) (atomicWidth e) true) →
      ∃ u, exec (.atomicCheck m scope queue seq part es) s = .next u ∧ Sends s u [.atomicRsp m.src m.tag .ok []]) ∧
    (∀ rc, receiptOf s m.src queue seq part = some rc →
      ∃ u, exec (.atomic m scope queue seq part es) s = .next u ∧ Sends s u [.atomicRsp m.src m.tag rc.status rc.olds])) ∧
  (∀ (s : State) (m : MsgHeader) (scope queue part : Nat) (seq : Seq48) (es : List AtomicEntry), awake s → isMember s m.src →
    receiptOf s m.src queue seq part = none → fenced s = false → (∀ e ∈ es, badAtomic e = false) →
    (∀ e ∈ es, permits s m.tenant (saOff e.target) (atomicWidth e) true) →
    deltaWaits s (es.map (fun e => saOff e.target)) 8 = false →
    let p := performAll (hubNode s) (readTarget s m)
      ((List.range es.length).zip (es.map (fun e => { e with target := saOf (hubNode s) (saOff e.target) })))
    ∃ u, exec (.atomic m scope queue seq part es) s = .next u ∧ ∃ rc, u.receipts = s.receipts ++ [rc] ∧ rc.src = m.src ∧
      rc.queue = queue ∧ rc.seq = seq ∧ rc.part = part ∧ rc.status = p.status ∧ rc.olds = p.olds.map (·.2) ∧
      u.outbox = s.outbox ++ [.atomicRsp m.src m.tag p.status rc.olds] ∧
      (∀ a, (∀ i ∈ p.items, ¬ ItemWrites s i a) → memByte u.store.mem a = memByte s.store.mem a) ∧ u.works = s.works) ∧
  (∀ (s : State) (m : MsgHeader) (len : Nat) (data : List Byte), awake s → isMember s m.src = false →
    (∃ u, exec (.load m len none) s = .next u ∧ Sends s u [.loadRsp m.src m.tag .permission 0 (ones len)]) ∧
    (∃ u, exec (.store m data) s = .next u ∧ Sends s u [.storeAck m.src m.tag .permission]))

/-- R233, R344, R370, R419: an answer from the node that was asked ends its transaction: LOAD_RSP hands the descriptor its bytes, STORE_ACK its
status, ATOMIC_RSP to a CHECK marks the owner. IFL_TIMEOUT ends it with NODE_UNREACHABLE and a fault record 0x0203 naming the
node. An answer from any other node, or to no transaction, changes nothing. -/
def Obligations.AnswersAndTimeoutsEndTransactions : Prop :=
  (∀ (s : State) (tag : Nat) (o : Outstanding) (q : Nat) (n : Seq48) (w : Work) (status : Status) (epoch : Nat) (data : List Byte),
    awake s → txOf s tag = some o → workOf s q n = some w →
    (o.await = .load q n none →
      ∃ u, exec (.loadRsp o.node tag status epoch data) s = .next u ∧ ∃ w', txOf u tag = none ∧ workOf u q n = some w' ∧
        OtherWorksKept q n s u ∧
        w'.fetched = w.fetched ++ [{
          space := .store, addr := o.addr, status := status, node := o.node
          data := if status = .ok then exactly o.len data else ones o.len }] ∧ w'.status = w.status ∧
        u = { s with works := u.works, order := { s.order with sectors := u.order.sectors },
                     fabric := { s.fabric with outstanding := u.fabric.outstanding } }) ∧
    (o.await = .store q n →
      ∃ u, exec (.storeAck o.node tag status) s = .next u ∧ ∃ w', txOf u tag = none ∧ workOf u q n = some w' ∧
        OtherWorksKept q n s u ∧ w'.status = worse w.status status ∧
        u = { s with works := u.works, fabric := { s.fabric with outstanding := u.fabric.outstanding } }) ∧
    (o.await = .check q n → ∀ olds,
      ∃ u, exec (.atomicRsp o.node tag status olds) s = .next u ∧ ∃ w', txOf u tag = none ∧ workOf u q n = some w' ∧
        OtherWorksKept q n s u ∧
        w'.owners = w.owners.map (fun e => if e.1 = o.node then (e.1, max e.2 (if status = .ok then 1 else 2)) else e) ∧
        u = { s with works := u.works, fabric := { s.fabric with outstanding := u.fabric.outstanding } }) ∧
    (o.await = .store q n → w.desc.opcode = 1 → s.faults.rings.length = 4 →
      ∃ u, exec (.iflTimeout tag) s = .next u ∧ ∃ w' r, txOf u tag = none ∧ workOf u q n = some w' ∧
        w'.status = worse w.status .nodeUnreachable ∧ newestFault u 1 = some r ∧ r.code = 0x0203 ∧ r.node = some o.node ∧
        r.tenant = some o.tenant)) ∧
  (∀ (s : State) (src tag : Nat) (status : Status) (epoch : Nat) (data : List Byte) (olds : List Nat), awake s →
    (∀ o, txOf s tag = some o → o.node ≠ src) →
    exec (.loadRsp src tag status epoch data) s = .next s ∧ exec (.storeAck src tag status) s = .next s ∧
    exec (.atomicRsp src tag status olds) s = .next s)

/-! ### Held lines (chapter 09) -/

/-- R375, R376, R378: at the home of a Held line, a member's READ_SHARED makes it the E holder of a line without an entry and a sharer of
a shared line, with data from home; of a line that another hub holds in E, M or O it forwards the request to that holder, and
the entry becomes S or O with the requester. READ_OWN and UPGRADE grant M at once where no other hub holds a copy, else
send INV to the sharers of a shared line first. A busy line is NACKed with its ticket NEXT. A RETRY with the ticket that SERVE
names is served as its request. EVICT writes a dirty line back. INV_ACK merges dirty data and removes its sender. -/
def Obligations.HeldRequestsAreServedAtTheHome : Prop :=
  (∀ (s : State) (m : MsgHeader), awake s → (domainHubs s).contains m.src → lineStatus s m false = .ok →
    let l := m.offset / 128
    let quiet (u : State) : Prop := u = { s with
      outbox := u.outbox, fabric := { s.fabric with ports := u.fabric.ports }
      order := { s.order with directory := u.order.directory, grants := s.order.grants + 1 } } ∧
      ∀ k, k ≠ l → Tbl.find u.order.directory k = Tbl.find s.order.directory k
    (Tbl.find s.order.directory l = none → directoryFull s (lineRegion s l) = false →
      ∃ u, exec (.readShared m) s = .next u ∧ quiet u ∧
        u.outbox = s.outbox ++ [.line m.src 0x23 0 m.tag (l * 128) 2 .ok (readMem s (l * 128) 128)] ∧
        ∃ e, Tbl.find u.order.directory l = some e ∧ e.state = .exclusive ∧ e.owner = m.src ∧ e.sharers = [] ∧ e.busy = none) ∧
    (∀ e, Tbl.find s.order.directory l = some e → e.busy = none →
      ∃ u, exec (.readShared m) s = .next u ∧ quiet u ∧ ∃ e', Tbl.find u.order.directory l = some e' ∧
        e'.owner = e.owner ∧ e'.busy = none ∧ m.src ∈ e'.sharers ∧ (∀ n ∈ e.sharers, n ∈ e'.sharers) ∧
        (e.state = .shared → e'.state = .shared ∧
          u.outbox = s.outbox ++ [.line m.src 0x23 0 m.tag (l * 128) 1 .ok (readMem s (l * 128) 128)]) ∧
        (e.state = .exclusive → e'.state = .shared ∧ e.owner ∈ e'.sharers) ∧
        ((e.state = .modified ∨ e.state = .owned) → e'.state = .owned) ∧
        (e.state ≠ .shared → u.outbox = s.outbox ++ [.line e.owner 0x40 0 0 (l * 128) m.src .ok []]))) ∧
  (∀ (s : State) (m : MsgHeader), awake s → (domainHubs s).contains m.src → lineStatus s m true = .ok →
    let l := m.offset / 128
    let quiet (u : State) : Prop := u = { s with
      outbox := u.outbox, fabric := { s.fabric with ports := u.fabric.ports }
      order := { s.order with directory := u.order.directory, grants := u.order.grants } } ∧
      ∀ k, k ≠ l → Tbl.find u.order.directory k = Tbl.find s.order.directory k
    (Tbl.find s.order.directory l = none → directoryFull s (lineRegion s l) = false → ∀ c, (c = .readOwn m ∨ c = .upgrade m) →
      ∃ u, exec c s = .next u ∧ quiet u ∧
        u.outbox = s.outbox ++ [.line m.src 0x23 0 m.tag (l * 128) 3 .ok (readMem s (l * 128) 128)] ∧
        ∃ e, Tbl.find u.order.directory l = some e ∧ e.state = .modified ∧ e.owner = m.src ∧ e.busy = none) ∧
    (∀ e, Tbl.find s.order.directory l = some e → e.busy = none → e.waiting = [] → m.src ∈ holders e →
      (∀ n ∈ holders e, n = m.src) →
      ∃ u, exec (.upgrade m) s = .next u ∧ quiet u ∧ u.outbox = s.outbox ++ [.line m.src 0x24 0 m.tag (l * 128) 0 .ok []] ∧
        ∃ e', Tbl.find u.order.directory l = some e' ∧ e'.state = .modified ∧ e'.owner = m.src ∧ e'.sharers = [] ∧ e'.busy = none) ∧
    (∀ e c, Tbl.find s.order.directory l = some e → e.busy = none → e.state = .shared → (∃ n ∈ holders e, n ≠ m.src) →
      (c = .readOwn m ∨ c = .upgrade m) →
      ∃ u, exec c s = .next u ∧ quiet u ∧
        u.outbox = s.outbox ++ ((holders e).filter (· != m.src)).map (fun n => .line n 0x42 0 0 (l * 128) 0 .ok []) ∧
        ∃ e', Tbl.find u.order.directory l = some e' ∧ e'.acksDue = (holders e).filter (· != m.src) ∧ e'.busy.isSome = true ∧
          e'.sharers = e.sharers) ∧
    (∀ e c, Tbl.find s.order.directory l = some e → e.busy.isSome = true → (c = .readOwn m ∨ c = .upgrade m) →
      ∃ u, exec c s = .next u ∧ quiet u ∧ u.outbox = s.outbox ++ [.line m.src 0x25 0 m.tag (l * 128) e.next .ok []] ∧
        Tbl.find u.order.directory l = some { e with next := (e.next + 1) % 128 })) ∧
  (∀ (s : State) (m : MsgHeader) (request : LineRequest) (ticket : Nat) (e : DirEntry) (c : Instr), awake s →
    Tbl.find s.order.directory (m.offset / 128) = some e → e.busy = none →
    ((request = .readShared ∧ c = .readShared m) ∨ (request = .readOwn ∧ c = .readOwn m) ∨ (request = .upgrade ∧ c = .upgrade m)) →
    (ticket = e.serve →
      exec (.retry m request ticket) s = exec c { s with order := { s.order with
          directory := Tbl.alter s.order.directory (m.offset / 128) (fun x => { x with serve := (x.serve + 1) % 128 }) } }) ∧
    (ticket ≠ e.serve → ∃ u, exec (.retry m request ticket) s = .next u ∧
      Sends s u [.line m.src 0x25 0 m.tag (m.offset / 128 * 128) ticket .ok []])) ∧
  (∀ (s : State) (m : MsgHeader) (dirty : List Byte) (e : DirEntry), awake s → Memory.wf s.store.mem →
    Tbl.find s.order.directory (m.offset / 128) = some e → e.busy = none → e.owner = m.src → (e.state = .modified ∨ e.state = .owned) →
    dirty.length = 128 →
    ∃ u, exec (.evict m dirty) s = .next u ∧ u.outbox = s.outbox ∧ u.works = s.works ∧
      (∀ i, (h : i < dirty.length) → memByte u.store.mem (m.offset / 128 * 128 + i) = dirty[i]) ∧
      (∀ a, a < m.offset / 128 * 128 ∨ m.offset / 128 * 128 + 128 ≤ a → memByte u.store.mem a = memByte s.store.mem a) ∧
      Tbl.find u.order.directory (m.offset / 128) =
        (if e.sharers.filter (· != m.src) = [] then none
         else some { e with state := .shared, sharers := e.sharers.filter (· != m.src) })) ∧
  (∀ (s : State) (m : MsgHeader) (data : List Byte) (e : DirEntry), awake s → Memory.wf s.store.mem →
    Tbl.find s.order.directory (m.offset / 128) = some e → e.busy.isSome = true → m.src ∈ e.acksDue →
    (∃ n ∈ e.acksDue, n ≠ m.src) → data.length = 128 →
    ∃ u, exec (.invAck m data) s = .next u ∧ u.outbox = s.outbox ∧ u.works = s.works ∧
      (∀ i, (h : i < data.length) → memByte u.store.mem (m.offset / 128 * 128 + i) = data[i]) ∧
      (∀ a, a < m.offset / 128 * 128 ∨ m.offset / 128 * 128 + 128 ≤ a → memByte u.store.mem a = memByte s.store.mem a) ∧
      Tbl.find u.order.directory (m.offset / 128) = some { e with
        acksDue := e.acksDue.filter (· != m.src), sharers := e.sharers.filter (· != m.src) })

/-- R374 to R378: at a member, FWD_SHARED sends the copy's data to the requester, an M or O copy becoming O and any other S; FWD_OWN sends it
and gives the copy up; INV and RECALL drop the copy and acknowledge, with the data of a dirty one. DATA with status OK brings
the line asked for, in the state granted; GRANT makes the copy M; a NACK is retried with its ticket. -/
def Obligations.HeldMessagesAtAMember : Prop :=
  (∀ (s : State) (m : MsgHeader) (requester : Nat) (c : HeldCopy), awake s → heldCopy s m.src (m.offset / 128) = some c →
    (∃ u, exec (.fwdShared m requester) s = .next u ∧
      u.outbox = s.outbox ++ [.line requester 0x23 0 m.tag (m.offset / 128 * 128) 1 .ok c.data] ∧
      heldCopy u m.src (m.offset / 128) = some { c with state := if dirtyCopy c then .owned else .shared } ∧
      u = { s with outbox := u.outbox, fabric := { s.fabric with ports := u.fabric.ports }, order := { s.order with copies := u.order.copies } }) ∧
    (∃ u, exec (.fwdOwn m requester) s = .next u ∧
      u.outbox = s.outbox ++ [.line requester 0x23 0 m.tag (m.offset / 128 * 128) 3 .ok c.data,
        .line m.src 0x26 0 m.tag (m.offset / 128 * 128) 0 .ok []] ∧
      heldCopy u m.src (m.offset / 128) = none ∧
      u = { s with outbox := u.outbox, fabric := { s.fabric with ports := u.fabric.ports }, order := { s.order with copies := u.order.copies } }) ∧
    (∀ i, (i = .inv m ∨ i = .recall m) → ∃ u, exec i s = .next u ∧
      u.outbox = s.outbox ++ [.line m.src 0x26 0 m.tag (m.offset / 128 * 128) 0 .ok (if dirtyCopy c then c.data else [])] ∧
      heldCopy u m.src (m.offset / 128) = none ∧
      u = { s with outbox := u.outbox, fabric := { s.fabric with ports := u.fabric.ports }, order := { s.order with copies := u.order.copies } })) ∧
  (∀ (s : State) (m : MsgHeader) (x : LineMiss), awake s → missOf s (m.offset / 128) = some x → x.node = m.src →
    (∀ granted line, Tbl.find s.order.directory (m.offset / 128) = none → s.order.copies.length < 524288 → line.length = 128 →
      ∃ u, exec (.data m .ok granted line) s = .next u ∧
        heldCopy u m.src (m.offset / 128) =
          some { node := x.node, line := m.offset / 128, tenant := x.tenant, state := granted, data := line } ∧
        u = { s with order := { s.order with copies := u.order.copies, misses := u.order.misses } } ∧
        ∀ y, y ∈ u.order.misses ↔ y ∈ s.order.misses ∧ ¬ (y.node = x.node ∧ y.line = x.line)) ∧
    (∀ c, x.request = .upgrade → heldCopy s m.src (m.offset / 128) = some c →
      ∃ u, exec (.grant m) s = .next u ∧ heldCopy u m.src (m.offset / 128) = some { c with state := .modified } ∧
        u = { s with order := { s.order with copies := u.order.copies, misses := u.order.misses } } ∧
        ∀ y, y ∈ u.order.misses ↔ y ∈ s.order.misses ∧ ¬ (y.node = x.node ∧ y.line = x.line)) ∧
    (∀ ticket, ∃ u, exec (.nack m ticket) s = .next u ∧
      u.outbox = s.outbox ++ [.line m.src 0x70 x.tenant m.tag (m.offset / 128 * 128) ticket .ok []] ∧
      missOf u (m.offset / 128) = some { x with ticket := some ticket } ∧
      u = { s with outbox := u.outbox, fabric := { s.fabric with ports := u.fabric.ports }, order := { s.order with misses := u.order.misses } }))

/-! ### Ifeverlink ports (chapter 10) -/

/-- R395 to R398, R410, R424: LINK_RETRAIN from a sender with ADMIN trains a port that is down and has lanes, else nothing happens. At
LINK_TRAINING_DONE the port enters service with the lanes that trained, FSEQ 0 and full credits; a partner of another domain
keeps it down with reason 0, one with this hub's own number with reason 2, and HELLO_TIMEOUT keeps it down too. A lane that loses lock or fails its error
window leaves service with a record, and the last one takes the port down. LINK_KEY_UPDATE_DUE changes the key of the
hub's direction. -/
def Obligations.PortsTrainLoseLanesAndRekey : Prop :=
  (∀ (s : State) (who : Sender) (port : Nat), awake s → port < s.fabric.ports.length → port < 12 →
    (hasAdmin s who = true → (portOf s port).up = false → (portOf s port).training = false → (portOf s port).lanesOut ≠ 15 →
      (portOf s port).inService = true → exec (.linkRetrain who port) s = .next { s with
        outbox := s.outbox ++ [.hello port]
        fabric := { s.fabric with ports := s.fabric.ports.modify port (fun p => { p with training := true }) } }) ∧
    (hasAdmin s who = false → exec (.linkRetrain who port) s = .next s)) ∧
  (∀ (s : State) (port partner domain : Nat) (device : BitVec 64) (encrypt : Bool), awake s → port < s.fabric.ports.length →
    s.faults.rings.length = 4 → (portOf s port).training = true → (portOf s port).lanesOut = 0 →
    ∃ t, exec (.linkTrainingDone port 15 partner domain device encrypt) s = .next t ∧
      (domain = (s.boot.image.map (·.domain)).getD 0 → partner ≠ hubNode s →
        (portOf t port).up = true ∧ (portOf t port).training = false ∧ (portOf t port).lanes = 15 ∧ (portOf t port).partner = partner ∧
        (portOf t port).rxSeq = 0 ∧ (portOf t port).credits = [0, 0, 0, 0, 0, 0, 0, 0] ∧
        (portOf t port).session = (portOf s port).session + 1 ∧ (portOf t port).encrypted = (encrypt || iflEncrypt s)) ∧
      ((domain ≠ (s.boot.image.map (·.domain)).getD 0 ∨ partner = hubNode s) →
        (portOf t port).up = false ∧ (portOf t port).training = false ∧
        ∃ r, newestFault t 1 = some r ∧ r.code = 0x0303 ∧ r.kind = .ifl ∧ r.inst = port ∧ r.node = some partner)) ∧
  (∀ (s : State) (port reason : Nat), awake s → port < s.fabric.ports.length → s.faults.rings.length = 4 →
    (portOf s port).training = true →
    ∃ t, exec (.helloTimeout port reason) s = .next t ∧ (portOf t port).up = false ∧ (portOf t port).training = false ∧
      ∃ r, newestFault t 1 = some r ∧ r.code = 0x0303 ∧ r.kind = .ifl ∧ r.inst = port ∧ r.node = none) ∧
  (∀ (s : State) (port lane : Nat) (c : Instr), awake s → port < s.fabric.ports.length → s.faults.rings.length = 4 →
    (portOf s port).up = true → lane < 4 → bit (portOf s port).lanesOut lane = false → bit (portOf s port).lanes lane = true →
    (c = .laneLockLoss port lane ∨ c = .laneErrorWindow port lane) →
    ∃ t, exec c s = .next t ∧ (portOf t port).lanesOut = (portOf s port).lanesOut + 2 ^ lane ∧
      (portOf t port).lanes = (portOf s port).lanes - 2 ^ lane ∧
      ((portOf t port).up = true ↔ (portOf s port).lanes ≠ 2 ^ lane) ∧
      ∃ r, newestFault t 1 = some r ∧ r.code = 0x0302 ∧ r.kind = .ifl ∧ r.inst = port) ∧
  (∀ (s : State) (port : Nat), awake s → port < s.fabric.ports.length → (portOf s port).up = true →
    (portOf s port).encrypted = true → securityFailed s = false →
    exec (.linkKeyUpdateDue port) s = .next { s with
      outbox := s.outbox ++ [.keyUpdate port]
      fabric := { s.fabric with ports := s.fabric.ports.modify port (fun p => { p with txKeys := p.txKeys + 1 }) } })

/-- R400, R401, R406, R409, R413, R415: a CONTROL_FLIT frees the replay buffer up to the FSEQ it acknowledges and carries the credits; with
RETRY every flit left goes out again; on an encrypted port a failed tag counts and asks for a retry. A data flit for another
node goes on by the active port with one hop less, and with no hop left it is dropped with a record. BARRIER is
answered once it has come on all VCs; after BARRIER_ACK flits to the destination use the new port. LINK_FATE sends the flits
again that the other end did not get; LINK_FATE_TIMEOUT discards them. -/
def Obligations.FlitsAreAcknowledgedForwardedAndMoved : Prop :=
  (∀ (s : State) (port ackSeq : Nat) (retry : Bool) (credits : List Nat) (tagOk : Bool), awake s → port < s.fabric.ports.length →
    (portOf s port).up = true → ((portOf s port).encrypted = false ∨ tagOk = true) → (portOf s port).tries < 7 →
    ∃ t, exec (.controlFlit port ackSeq retry (portOf s port).lanes credits tagOk) s = .next t ∧
      (portOf t port).replay = afterAck (portOf s port).replay ackSeq ∧ (portOf t port).credits = credits ∧
      (∀ q, q ≠ port → portOf t q = portOf s q) ∧
      t.outbox = s.outbox ++ (if retry then (afterAck (portOf s port).replay ackSeq).map (fun e => .resend port e.1) else []) ∧
      t = { s with outbox := t.outbox, fabric := { s.fabric with ports := t.fabric.ports } }) ∧
  (∀ (s : State) (port ackSeq lanes : Nat) (retry : Bool) (credits : List Nat), awake s → port < s.fabric.ports.length →
    (portOf s port).up = true → (portOf s port).encrypted = true → (portOf s port).tagRun = [] →
    ∃ t, exec (.controlFlit port ackSeq retry lanes credits false) s = .next t ∧
      portOf t port = { portOf s port with tagFail := min 0xFFFF ((portOf s port).tagFail + 1), tagRun := [s.now] } ∧
      ∃ seq, t.outbox = s.outbox ++ [.control port seq true]) ∧
  (∀ (s : State) (port src dst vc hops kind : Nat) (payload : List Byte), awake s → port < s.fabric.ports.length →
    s.faults.rings.length = 4 → dst ≠ hubNode s →
    (∀ p, activePort s dst = some p → ∃ t, exec (.flitForward port src dst vc (hops + 1) kind payload) s = .next t ∧
      t.outbox = s.outbox ++ [.flit p src dst vc hops kind payload] ∧
      t = { s with outbox := t.outbox, fabric := { s.fabric with ports := t.fabric.ports } }) ∧
    (∃ t, exec (.flitForward port src dst vc 0 kind payload) s = .next t ∧ t.outbox = s.outbox ∧
      ∃ r, newestFault t 1 = some r ∧ r.code = 0x0205 ∧ r.kind = .ifl ∧ r.inst = port ∧ r.node = some src)) ∧
  (∀ (s : State) (src vc : Nat), awake s →
    ∃ t, exec (.barrier src vc) s = .next t ∧
      ((∀ v ∈ channels, v ∈ Tbl.at s.fabric.barriers src [] ∨ v = vc) →
        t.outbox = s.outbox ++ [.barrierAck src] ∧ Tbl.find t.fabric.barriers src = none) ∧
      ((∃ v ∈ channels, v ∉ Tbl.at s.fabric.barriers src [] ∧ v ≠ vc) →
        t.outbox = s.outbox ∧ ∀ v, v ∈ Tbl.at t.fabric.barriers src [] ↔ v ∈ Tbl.at s.fabric.barriers src [] ∨ v = vc)) ∧
  (∀ (s : State) (src : Nat), awake s → exec (.barrierAck src) s = .next { s with
    fabric := { s.fabric with changing := s.fabric.changing.filter (fun c => c.dest != src) } }) ∧
  (∀ (s : State) (port fseq : Nat), awake s → port < s.fabric.ports.length → (portOf s port).up = false →
    (∃ t, exec (.linkFate port fseq) s = .next t ∧
      t = { s with outbox := t.outbox, fabric := { s.fabric with ports := t.fabric.ports, changing := t.fabric.changing } } ∧
      (∀ c, c ∈ t.fabric.changing ↔ c ∈ s.fabric.changing ∧ c.port ≠ port) ∧
      ∃ seqs, t.outbox = s.outbox ++ (List.zip ((afterAck (portOf s port).replay fseq).filterMap (fun e => activePort s e.2)) seqs).map
          (fun x => .resend x.1 x.2) ∧
        seqs.length = ((afterAck (portOf s port).replay fseq).filterMap (fun e => activePort s e.2)).length) ∧
    (∃ t, exec (.linkFateTimeout port) s = .next t ∧
      portOf t port = { portOf s port with replay := [], tries := 0 } ∧ (∀ q, q ≠ port → portOf t q = portOf s q) ∧
      (∀ c, c ∈ t.fabric.changing ↔ c ∈ s.fabric.changing ∧ c.port ≠ port) ∧
      t = { s with fabric := { s.fabric with ports := t.fabric.ports, changing := t.fabric.changing } }))

/-! ### Composition changes and the domain (chapters 10 and 12) -/

/-- R450, R451, R453, R454, R459: at the acting composition hub, alone in its domain, a composition command that holds a status is
answered with it and changes nothing. Else it takes the next change number, has its effect, enters the log and the
composition record, and is answered OK, whether the fabric manager sent it or a hub forwarded it. A command is kept until the
scheduler core runs (R541); a hub without the role forwards it to the composition hub that it sees, and a fenced hub
answers NODE_UNREACHABLE (R452). The statement takes states in which no other hub is to answer, and changes that
make this hub copy no shard. The commands are those of which `asComp` makes a change: BIND_TENANT, UNBIND_TENANT, SET_HDM_MAP,
BIND_QUEUE, UNBIND_QUEUE, SET_QUOTA, PUT_TABLE, DROP_TABLE, MOVE_SHARD, REFRESH_REPLICA, PUT_INDEX, DROP_INDEX, SET_ROUTE,
SET_KV_POOL, KV_ATTACH and KV_DETACH. -/
def Obligations.CompositionCommandsTakeEffectInOrder : Prop :=
  (∀ (s : State) (c : Instr) (cmd : CompCmd) (out : Status → Out), awake s → coreRuns s schedulerCore = true → s.comp.acting = true →
    s.comp.waits = [] → seenHubs s = [] → (∀ m ∈ s.comp.live.moves, m.oldNode ≠ hubNode s) → Asks s c cmd out →
    (compStatus s cmd ≠ .ok → ∃ t, exec c s = .next t ∧ Sends s t [out (compStatus s cmd)]) ∧
    (compStatus s cmd = .ok → waitsForRings s cmd = false → CopiesNothing s cmd →
      ∃ t, exec c s = .next t ∧ CompEffect s t.comp.live cmd ∧
        t.comp.log = takeLast 65536 (s.comp.log ++ [(s.comp.live.lastSeq + 1, cmd)]) ∧
        t.comp.record.map (·.2) = some t.comp.live ∧ t.comp.waits = [] ∧ t.outbox.getLast? = some (out .ok))) ∧
  (∀ (s : State) (c : Instr) (cmd : CompCmd), awake s → asComp c = some cmd →
    (coreRuns s schedulerCore = false →
      exec c s = .next { s with comp := { s.comp with held := s.comp.held ++ [.command .fm cmd] } }) ∧
    (coreRuns s schedulerCore = true → s.comp.acting = false →
      (fenced s = true → exec c s = .next { s with outbox := s.outbox ++ [.fmAnswer .nodeUnreachable []] }) ∧
      (fenced s = false → ∀ h, compHubOf s = some h → h ≠ hubNode s → ∃ t, exec c s = .next t ∧
        t = { s with
          outbox := s.outbox ++ [.forward h s.comp.forwardTag cmd]
          fabric := { s.fabric with ports := t.fabric.ports }
          comp := { s.comp with
            forwards := s.comp.forwards ++ [(s.comp.forwardTag, .fm)], forwardTag := (s.comp.forwardTag + 1) % 65536 } })))

/-- R421, R453 to R457, R463: a hub applies the change that follows its last one and answers OK; one it has applied is refused
with CONFLICT and a record, and for a later one it asks for the changes it has missed. The last answer to a change answers
its command, and a forwarded command's answer goes to the fabric manager. CATCH_UP is answered with the missed changes,
or with the whole composition when the log no longer has them all; SNAPSHOT takes it over. SEQ_QUERY is answered with the last change
and those above the asker's; after the last SEQ_REPORT the hub acts. FLIP_REQUEST of a move's holder, GRACE_ADVANCE of a flipped move
and REPLICA_STALE become changes. -/
def Obligations.ChangesReachEveryHubInOrder : Prop :=
  (∀ (s : State) (src seq : Nat) (cmd : CompCmd), awake s → fenced s = false → (domainHubs s).contains src = true →
    coreRuns s schedulerCore = true → s.faults.rings.length = 4 →
    (seq ≤ s.comp.live.lastSeq → ∃ t, exec (.change src seq cmd) s = .next t ∧ t.outbox = s.outbox ++ [.changeAnswer src seq .conflict] ∧
      t.comp = { s.comp with refused := true, refusedSeq := seq } ∧ ∃ r, newestFault t (faultClass 0x0703).1 = some r ∧ r.code = 0x0703) ∧
    (seq = s.comp.live.lastSeq + 1 → src ≠ hubNode s → waitsForRings s cmd = false → CopiesNothing s cmd →
      (∀ m ∈ s.comp.live.moves, m.oldNode ≠ hubNode s) → ∃ t, exec (.change src seq cmd) s = .next t ∧
      CompEffect s t.comp.live cmd ∧ t.comp.log = takeLast 65536 (s.comp.log ++ [(seq, cmd)]) ∧
      t.outbox.getLast? = some (.changeAnswer src seq .ok)) ∧
    (s.comp.live.lastSeq + 1 < seq → ∃ t, exec (.change src seq cmd) s = .next t ∧
      t = { s with
        outbox := s.outbox ++ [.catchUp src s.comp.live.lastSeq], fabric := { s.fabric with ports := t.fabric.ports }
        comp := { s.comp with catchTo := max s.comp.catchTo seq } })) ∧
  (∀ (s : State) (src seq : Nat) (st : Status) (w : ChangeWait), awake s → s.comp.waits = [w] → w.changeSeq = seq → src ∈ w.missing →
    w.reply = some .fm →
    ((∀ n ∈ w.missing, n = src) → exec (.changeAnswer src seq st) s = .next { s with
      comp := { s.comp with waits := [] }, outbox := s.outbox ++ [.fmAnswer (worse w.status st) []] }) ∧
    ((∃ n ∈ w.missing, n ≠ src) → exec (.changeAnswer src seq st) s = .next { s with comp := { s.comp with
      waits := [{ w with missing := w.missing.filter (· != src), status := worse w.status st }] } })) ∧
  (∀ (s : State) (src tag : Nat) (st : Status), awake s → s.comp.forwards.find? (fun f => f.1 == tag) = some (tag, .fm) →
    exec (.forwardAnswer src tag st) s = .next { s with
      outbox := s.outbox ++ [.fmAnswer st []]
      comp := { s.comp with forwards := s.comp.forwards.filter (fun x => x.1 != tag) } }) ∧
  (∀ (s : State) (src seq : Nat), awake s → (domainHubs s).contains src = true →
    (∃ t, exec (.seqQuery src seq) s = .next t ∧
      Sends s t [.seqReport src s.comp.live.lastSeq (s.comp.log.filter (fun e => decide (seq < e.1)))]) ∧
    (s.comp.acting = true → ∃ t, exec (.catchUp src seq) s = .next t ∧
      let missed := s.comp.log.filter (fun e => decide (seq < e.1))
      Sends s t (if missed.length = s.comp.live.lastSeq - seq then missed.map (fun e => .change src e.1 e.2)
        else [.snapshot src s.comp.live.lastSeq s.comp.live])) ∧
    (∀ comp : Composition, fenced s = false → s.comp.live.lastSeq < seq → comp.tenantBinds = s.comp.live.tenantBinds →
      comp.queueBinds = s.comp.live.queueBinds → comp.indexes = [] → s.embed.held = [] → ∃ t, exec (.snapshot src seq comp) s = .next t ∧
      t.comp.live = { comp with routes := s.comp.live.routes, lastSeq := seq } ∧ t.comp.record.map (·.2) = some t.comp.live)) ∧
  (∀ (s : State) (src seq : Nat), awake s → s.comp.gathering = [src] → s.comp.live.moves = [] →
    exec (.seqReport src seq []) s = .next { s with comp := { s.comp with gathering := [], acting := true } }) ∧
  (∀ (s : State) (src : Nat) (c : Instr) (cmd : CompCmd), awake s → coreRuns s schedulerCore = true → s.comp.acting = true →
    s.comp.waits = [] → seenHubs s = [] → (domainHubs s).contains src = true → (∀ m ∈ s.comp.live.moves, m.oldNode ≠ hubNode s) →
    compStatus s cmd = .ok →
    ((∃ i sh m t, c = .flipRequest src i sh t.mapEpoch ∧ cmd = .flip i sh t.mapEpoch ∧ tableOf s i = some t ∧ m ∈ s.comp.live.moves ∧
        m.table = i ∧ m.shard = sh ∧ m.oldNode = src ∧ m.step < 4) ∨
      (∃ i m, c = .graceAdvance i ∧ cmd = .grace i ∧ m ∈ s.comp.live.moves ∧ m.table = i ∧ 4 ≤ m.step) ∨
      (∃ i e t, c = .replicaStale src i e t.mapEpoch ∧ cmd = .replicaState i e 2 ∧ tableOf s i = some t)) →
    ∃ t, exec c s = .next t ∧ CompEffect s t.comp.live cmd ∧
      t.comp.log = takeLast 65536 (s.comp.log ++ [(s.comp.live.lastSeq + 1, cmd)]))

/-! ### Membership, Skims and tiers (chapters 03, 08, 10 and 13) -/

/-- R416 to R418: HEARTBEAT_INTERVAL sends a HEARTBEAT to every other member, starts a new interval, and makes a member seen that was heard
in three intervals in a row and lists this hub. A HEARTBEAT counts its sender as heard, with what it says of this hub and
of AUTHORITY; one with another identity than the HELLO recorded only raises a record. MEMBER_UNREACHABLE takes a member that does not count as seen out of the seen
members. -/
def Obligations.MembershipFollowsHeartbeats : Prop :=
  (∀ (s : State), awake s → ∃ t, exec .heartbeatInterval s = .next t ∧ t.fabric.heard = [] ∧
    (∀ n, n ∈ t.fabric.seen ↔ n ∈ s.fabric.seen ∨ (n ∈ domainMembers s ∧ n ≠ hubNode s ∧ n ∈ s.fabric.heard ∧ n ∈ s.fabric.listing ∧
      2 ≤ Tbl.at s.fabric.streak n 0)) ∧
    (∀ n ∈ domainMembers s, n ≠ hubNode s → (∃ ps v a, .heartbeat n ps v a ∈ t.outbox) ∧
      Tbl.at t.fabric.streak n 0 = if n ∈ s.fabric.heard then min 3 (Tbl.at s.fabric.streak n 0 + 1) else 0)) ∧
  (∀ (s : State) (src votes : Nat) (seen : List Nat) (authority : Bool) (device : BitVec 64), awake s → isMember s src = true → src ≠ hubNode s →
    (strangeIdentity s src device = false → ∃ t, exec (.heartbeat src seen votes authority device) s = .next t ∧
      (∀ n, n ∈ t.fabric.heard ↔ n = src ∨ n ∈ s.fabric.heard) ∧
      (src ∈ t.fabric.listing ↔ ∃ i, positionOf s (hubNode s) = some i ∧ i ∈ seen) ∧
      (src ∈ t.fabric.authorities ↔ authority = true) ∧ t.fabric.seen = s.fabric.seen ∧
      (∀ n, n ≠ src → (n ∈ t.fabric.listing ↔ n ∈ s.fabric.listing) ∧ (n ∈ t.fabric.authorities ↔ n ∈ s.fabric.authorities))) ∧
    (strangeIdentity s src device = true → s.faults.rings.length = 4 → ∃ t, exec (.heartbeat src seen votes authority device) s = .next t ∧
      t = { s with faults := t.faults } ∧ ∃ r, newestFault t 3 = some r ∧ r.code = 0x0602 ∧ r.node = some src)) ∧
  (∀ (s : State) (node : Nat), awake s → s.fabric.seen.contains node = true →
    ((Tbl.at s.fabric.streak node 0 ≠ 3 ∨ node ∉ s.fabric.listing) → ∃ t, exec (.memberUnreachable node) s = .next t ∧
      ∀ n, n ∈ t.fabric.seen ↔ n ∈ s.fabric.seen ∧ n ≠ node) ∧
    (Tbl.at s.fabric.streak node 0 = 3 → node ∈ s.fabric.listing → exec (.memberUnreachable node) s = .next s))

/-- R83, R501 to R505: after SKIM_CONTEXT no device TLB, row cache, far cache or performance counter holds anything of the tenant. SKIM_MEMORY
of a tenant that is bound, owns an object or is being scrubbed answers CONFLICT; else no page map entry is the tenant's,
its media keys are destroyed, and its scrub begins. SKIM_DONE ends the scrub, units that left service excepted, and background erasure frees
deep pages. -/
def Obligations.SkimsLeaveNothingOfTheTenant : Prop :=
  (∀ (s : State) (tenant : Nat), awake s → ∃ t, exec (.skimContext tenant) s = .next t ∧
    t.outbox.getLast? = some (.fmAnswer .ok []) ∧ t.sec.skimTenant = tenant ∧
    (∀ e ∈ t.tlbs, ∀ x ∈ e.2, x.tenant ≠ tenant) ∧ (∀ r ∈ t.embed.rowCache, r.owner ≠ tenant) ∧
    (∀ c ∈ t.order.copies, c.tenant ≠ tenant) ∧ (∀ c ∈ t.order.sectors, c.tenant ≠ tenant) ∧
    (∀ e ∈ t.sec.perf, e.1 / 8 ≠ tenant) ∧ t.store = s.store ∧ t.comp = s.comp ∧ t.works = s.works) ∧
  (∀ (s : State) (tenant : Nat), awake s →
    (skimStatus s tenant ≠ .ok → exec (.skimMemory tenant) s = .next { s with
      sec := { s.sec with skimTenant := tenant }, outbox := s.outbox ++ [.fmAnswer .conflict []] }) ∧
    (skimStatus s tenant = .ok → (∀ e ∈ s.store.pages, e.2.owner = tenant → ∀ h ∈ s.store.held, h.1 ≠ e.1) →
      ∃ t, exec (.skimMemory tenant) s = .next t ∧ t.outbox.getLast? = some (.fmAnswer .ok []) ∧
      (∀ k p, Tbl.find t.store.pages k = some p → p.owner ≠ tenant) ∧ tenant ∉ t.sec.mediaKeys ∧ tenant ∈ t.sec.destroyed ∧
      tenant ∈ t.sec.skims ∧ t.sec.skimDone = false)) ∧
  (∀ (s : State) (tenant : Nat), awake s → tenant ∈ s.sec.skims → exec (.skimDone tenant) s = .next { s with
    store := { s.store with scrubs := s.store.scrubs.filter (fun x => x.lost || x.tenant != tenant) }
    sec := { s.sec with skims := s.sec.skims.filter (· != tenant), skimDone := true } }) ∧
  (∀ (s : State) (tenant pages : Nat), awake s → ∃ t, exec (.backgroundErasure tenant pages) s = .next t ∧
    t = { s with store := { s.store with erasing := t.store.erasing } } ∧
    Tbl.at t.store.erasing tenant [] = (Tbl.at s.store.erasing tenant []).drop pages ∧
    ∀ k, k ≠ tenant → Tbl.at t.store.erasing k [] = Tbl.at s.store.erasing k [])

/-- R311, R319 to R321, R323, R325: TIER_EVICTION does nothing while the tier is not short, and then moves a candidate down or drops a DISCARD
page; PROMOTION moves a NEAR_PREF page up while the near tier has its target free. MOVE_FLIP and DEEP_PROMOTION_DONE put the page in
its new place, where it reads RESIDENT or PROMOTED, and leave every byte of memory as it was; PROMOTED_RETURN moves a PROMOTED page back. -/
def Obligations.PagesMoveBetweenTiers : Prop :=
  (∀ (s : State) (tier : Tier), awake s → s.store.waits = [] →
    (tierShort s tier = false → exec (.tierEviction tier) s = .next s) ∧
    (∀ page p, tierShort s tier = true → tier ≠ .deep → evictable s tier = [(page, p)] → evictedEnough s tier = false →
      (quotaOf s p.owner tier).floor < pooledStaying s p.owner tier →
      (p.discard = true → s.store.held = [] → ∃ t, exec (.tierEviction tier) s = .next t ∧ Tbl.find t.store.pages page = none) ∧
      (∀ d u, p.discard = false → evictTo s tier = some d → placeUnit s d = some u → isMoving s page = false →
        ∃ t, exec (.tierEviction tier) s = .next t ∧ MoveBegins s t page d false))) ∧
  (∀ (s : State), awake s →
    (tierAtHigh s .near = false → exec .promotion s = .next s) ∧
    (∀ page p u, tierAtHigh s .near = true → promotable s = [(page, p)] → poolLow s * tierTotal s .near ≤ (tierFree s .near - 1) * 1024 →
      0 < tierFree s .near → isMoving s page = false → placeUnit s .near = some u →
      ∃ t, exec .promotion s = .next t ∧ MoveBegins s t page .near false)) ∧
  (∀ (s : State) (page : Nat) (m : Move) (p : Page) (c : Instr), awake s → moveOf s page = some m → s.store.held = [] → s.store.waits = [] → s.embed.held = [] →
    Tbl.find s.store.pages page = some p →
    ((c = .moveFlip page ∧ m.promotion = false) ∨ (c = .deepPromotionDone page ∧ m.promotion = true)) →
    ∃ t, exec c s = .next t ∧ t = { s with store := { s.store with pages := t.store.pages, moves := t.store.moves } } ∧
      ∃ q, Tbl.find t.store.pages page = some q ∧ q.tier = m.tier ∧ q.unit = m.unit ∧ q.index = m.index ∧ q.owner = p.owner ∧
      q.phase = (if m.promotion then .promoted else .resident) ∧ (∀ k, k ≠ page → Tbl.find t.store.pages k = Tbl.find s.store.pages k) ∧
      ∀ x, x ∈ t.store.moves ↔ x ∈ s.store.moves ∧ x.page ≠ page) ∧
  (∀ (s : State) (page : Nat) (p : Page) (u : Nat), awake s → Tbl.find s.store.pages page = some p → p.phase = .promoted →
    moveRoom s .deep = true → isMoving s page = false → placeUnit s .deep = some u →
    ∃ t, exec (.promotedReturn page) s = .next t ∧ MoveBegins s t page .deep false)

/-! ### Fabric manager and mailbox commands of the CXL ports (chapter 11) -/

/-- R428, R441, R442: each Get command of the fabric manager answers with what the port or its sixteen logical devices hold, for ports 0 to 3;
a Set command that the ranges and the image's envelope permit sets the named devices or the port and no other, and is answered OK, and
any other is refused and changes nothing. DevLoad of GET_QOS_STATUS is a free value of 0 to 3. -/
def Obligations.FabricManagerReadsAndSetsDevices : Prop :=
  (∀ (s : State) (port : Nat), awake s →
    exec .fmIdentify s = .next { s with outbox := s.outbox ++ [.fmAnswer .ok [Config.standardAnswer 0]] } ∧
    (∀ c data, ((c = .getLdInfo port ∧ data = [16, Config.standardAnswer 1]) ∨
        (c = .getLdAllocations port ∧ data = (List.range 16).map (fun i => (ldOf s (i + 16 * port)).capacity)) ∨
        (c = .getQosControl port ∧ data = [Tbl.at s.cxl.qos port 0]) ∨
        (c = .getQosAllocatedBw port ∧ data = (List.range 16).map (fun i => (ldOf s (i + 16 * port)).qosShare)) ∨
        (c = .getQosBwLimit port ∧ data = (List.range 16).map (fun i => (ldOf s (i + 16 * port)).qosLimit))) →
      exec c s = .next { s with outbox := s.outbox ++ [if port < 4 then .fmAnswer .ok data else .fmRefused] }) ∧
    (∃ v, v < 4 ∧ exec (.getQosStatus port) s = .next { s with
      free := s.free + 1, outbox := s.outbox ++ [if port < 4 then .fmAnswer .ok [v] else .fmRefused] })) ∧
  (∀ (s : State) (port start : Nat) (values : List Nat) (c : Instr) (opcode : Nat) (held : LogicalDevice → Nat), awake s →
    ((c = .setLdAllocations port start values ∧ opcode = 0x5402 ∧ held = LogicalDevice.capacity) ∨
      (c = .setQosAllocatedBw port start values ∧ opcode = 0x5407 ∧ held = LogicalDevice.qosShare) ∨
      (c = .setQosBwLimit port start values ∧ opcode = 0x5409 ∧ held = LogicalDevice.qosLimit)) →
    let good := port < 4 ∧ start + values.length ≤ 16 ∧ (opcode = 0x5402 → ∀ v ∈ values, v % 2 ^ 28 = 0) ∧
      setPermitted s opcode ((List.range values.length).map (fun i => 16 * port + start + i)) values = true
    (good → ∃ t, exec c s = .next t ∧
      t = { s with outbox := s.outbox ++ [.fmAnswer .ok []], cxl := { s.cxl with lds := t.cxl.lds } } ∧
      (∀ i, (h : i < values.length) → held (ldOf t (16 * port + start + i)) = values[i]) ∧
      ∀ l, (l < 16 * port + start ∨ 16 * port + start + values.length ≤ l) → ldOf t l = ldOf s l) ∧
    (¬ good → exec c s = .next { s with outbox := s.outbox ++ [.fmRefused] })) ∧
  (∀ (s : State) (port value : Nat), awake s →
    (port < 4 → setPermitted s 0x5404 [] [value] = true → ∃ t, exec (.setQosControl port value) s = .next t ∧
      t = { s with outbox := s.outbox ++ [.fmAnswer .ok []], cxl := { s.cxl with qos := t.cxl.qos } } ∧
      Tbl.at t.cxl.qos port 0 = value ∧ ∀ p, p ≠ port → Tbl.at t.cxl.qos p 0 = Tbl.at s.cxl.qos p 0) ∧
    ((4 ≤ port ∨ setPermitted s 0x5404 [] [value] = false) →
      exec (.setQosControl port value) s = .next { s with outbox := s.outbox ++ [.fmRefused] }))

/-- R434 to R436, R438, R439, R443: each command of a device's mailbox that asks for something answers Success with what the hub holds and changes
nothing; the Set and Clear commands change what they name; a DPA outside the committed decoders is Invalid Input. INJECT_POISON marks
one 64-byte unit where the image permits it and no Saffron tenant is bound, and else answers Unsupported. A DOE request of a device whose
port is ready is answered. The codes are those of CXL 2.0 (a PRESUMED log entry). -/
def Obligations.DeviceMailboxAnswers : Prop :=
  (∀ (s : State) (ld : Nat), awake s → beforeFirmware s = false →
    (∀ c code data, ((c = .getEventInterruptPolicy ld ∧ code = 0 ∧ data = (ldOf s ld).policy) ∨
        (c = .getFwInfo ld ∧ code = 0 ∧ data = [1, 1, 0, s.boot.fwMajor, s.boot.fwMinor]) ∨
        (c = .getTimestamp ld ∧ code = 0 ∧ data = [ldTime s ld]) ∨
        (c = .getSupportedLogs ld ∧ code = 0 ∧ data = [1, 4 * mailboxOpcodes.length]) ∨
        (c = .getLog ld false ∧ code = 2 ∧ data = []) ∨
        (c = .getLog ld true ∧ code = 0 ∧ data = (mailboxOpcodes.map (fun o => [o, Config.standardAnswer (65536 + o)])).flatten) ∨
        (c = .identifyMemoryDevice ld ∧ code = 0 ∧ data = [(ldOf s ld).capacity, (ldOf s ld).capacity, 0, 0, 1024]) ∨
        (c = .getAlertConfiguration ld ∧ code = 0 ∧ data = (ldOf s ld).thresholds) ∨
        (c = .getScanMediaResults ld ∧ code = 0 ∧ data = (ldOf s ld).scanned) ∨
        (c = .getHubInfo ld ∧ code = 0 ∧ data = (hubInfo s ld).map (·.toNat)) ∨
        (∃ log l, c = .getEventRecords ld log ∧ (ldOf s ld).logs[log]? = some l ∧ code = 0 ∧
          data = [flag (l.overflow != 0), l.overflow, l.records.length] ++ (l.records.map eventData).flatten) ∨
        (∃ dpa len, c = .getPoisonList ld dpa len ∧ dpaKnown s ld dpa = true ∧ code = 0 ∧
          data = [flag (decide (1024 < (poisonList s ld dpa len).length)), min 1024 (poisonList s ld dpa len).length]
            ++ (((poisonList s ld dpa len).take 1024).map (fun x => [x.1, x.2])).flatten) ∨
        (∃ dpa len, (c = .getPoisonList ld dpa len ∨ c = .getScanMediaCapabilities ld dpa len ∨ c = .scanMedia ld dpa len) ∧
          dpaKnown s ld dpa = false ∧ code = 2 ∧ data = [])) →
      exec c s = .next { s with outbox := s.outbox ++ [.cxlCommand ld code data] }) ∧
    (∃ v, v ≤ 100 ∧ exec (.getHealthInfo ld) s = .next { s with
      free := s.free + 1, outbox := s.outbox ++ [.cxlCommand ld 0 [flag (degraded s), flag (calOverridden s), v]] }) ∧
    (∀ dpa len, dpaKnown s ld dpa = true → ∃ v, exec (.getScanMediaCapabilities ld dpa len) s = .next { s with
      free := s.free + 1, outbox := s.outbox ++ [.cxlCommand ld 0 [v]] }) ∧
    (∀ c code, ((∃ p, c = .setEventInterruptPolicy ld p ∧ p.length = 4 ∧ (∀ x ∈ p, x < 256 ∧ bits x 0 2 ≠ 3) ∧ code = 0) ∨ (∃ v, c = .setTimestamp ld v ∧ code = 0) ∨
        (∃ th, c = .setAlertConfiguration ld th ∧ code = 0) ∨ (∃ dpa len, c = .scanMedia ld dpa len ∧ dpaKnown s ld dpa = true ∧ code = 1) ∨
        (∃ log hs l, c = .clearEventRecords ld log true hs ∧ (ldOf s ld).logs[log]? = some l ∧ code = 0)) →
      ∃ t, exec c s = .next t ∧ t = { s with outbox := s.outbox ++ [.cxlCommand ld code []], cxl := { s.cxl with lds := t.cxl.lds } } ∧
        (∀ l, l ≠ ld → ldOf t l = ldOf s l) ∧
        (∀ p, c = .setEventInterruptPolicy ld p → ldOf t ld = { ldOf s ld with policy := p }) ∧
        (∀ v, c = .setTimestamp ld v → ldOf t ld = { ldOf s ld with timestamp := v, stampAt := s.now }) ∧
        (∀ th, c = .setAlertConfiguration ld th → ldOf t ld = { ldOf s ld with thresholds := th }) ∧
        (∀ dpa len, c = .scanMedia ld dpa len → ldOf t ld = { ldOf s ld with scanned := (poisonList s ld dpa len).map (·.1) }) ∧
        (∀ log hs, c = .clearEventRecords ld log true hs →
          ldOf t ld = { ldOf s ld with logs := (ldOf s ld).logs.modify log (fun l => { l with overflow := 0, records := [] }) }))) ∧
  (∀ (s : State) (ld dpa d sa : Nat), awake s → beforeFirmware s = false → dpaHit s ld dpa = some (d, sa) → saNode sa = hubNode s →
    (((s.boot.image.map (·.injectOk)).getD false = false ∨ saffronBound s = true) →
      exec (.injectPoison ld dpa) s = .next { s with outbox := s.outbox ++ [.cxlCommand ld 3 []] }) ∧
    ((s.boot.image.map (·.injectOk)).getD false = true → saffronBound s = false → (hdmOf s ld d).valid = true →
      permits s (hdmOf s ld d).tenant (saOff sa / 64 * 64) 64 true = true → rangeGone s (saOff sa / 64 * 64) 64 = false →
      ∃ t, exec (.injectPoison ld dpa) s = .next t ∧
        t = { s with
          outbox := s.outbox ++ [.cxlCommand ld 0 []], store := { s.store with poison := t.store.poison }
          embed := { s.embed with rowCache := t.embed.rowCache } } ∧
        ∀ u, u ∈ t.store.poison ↔ u ∈ s.store.poison ∨ u = saOff sa / 64) ∧
    (∀ data : List Byte, data.length = 64 → Memory.wf s.store.mem → (hdmOf s ld d).valid = true →
      permits s (hdmOf s ld d).tenant (saOff sa / 64 * 64) 64 true = true → awaitsUnit s (saOff sa / 64 * 64) = false →
      localWriteStatus s (hdmOf s ld d).tenant (hubNode s) (saOff sa / 64 * 64) 64 = .ok →
      touchesPublished s (saOff sa / 64 * 64) 64 = false → deepPages s (saOff sa / 64 * 64) 64 = [] →
      linesToWrite s (saOff sa / 64 * 64) 64 = [] →
      ∃ t, exec (.clearPoison ld dpa data) s = .next t ∧ t.outbox = s.outbox ++ [.cxlCommand ld 0 []] ∧
        (∀ i, (h : i < data.length) → memByte t.store.mem (saOff sa / 64 * 64 + i) = data[i]) ∧
        ∀ a, (a < saOff sa / 64 * 64 ∨ saOff sa / 64 * 64 + 64 ≤ a) → memByte t.store.mem a = memByte s.store.mem a)) ∧
  (∀ (s : State) (ld : Nat), awake s → ldUp s ld = true →
    exec (.doeDiscovery ld) s = .next { s with outbox := s.outbox ++ [.doe ld 0 [0, 1, 2, 3]] } ∧
    exec (.cdatTableAccess ld) s = .next { s with outbox := s.outbox ++ [.doe ld 2 ([(ldOf s ld).capacity, 520, 480] ++
      (if bit s.ctrl.cxl.toNat (ld / 16) then [29600, 29600] else [59300, 59300]))] } ∧
    exec (.compliance ld) s = .next { s with outbox := s.outbox ++ [.doe ld 3 [Config.standardAnswer 2]] })

/-! ### Mailbox messages and readback (chapters 08, 12, 13, 14) -/

/-- R549, R547: a message to a busy mailbox is ignored and sets ERR; one whose serving core does not run waits with WAIT_FW, in the order of
arrival. R443, R568, R575: a read of Readback Space gives every byte whose content a rule states, and a read of fault records gives the
records of the level from the first number on; a read out of range is refused. READ_RBS and READ_FAULTS are refused with Invalid
Input, whose code is PRESUMED (a log entry); bytes that no rule states are free. -/
def Obligations.MailboxMessagesWaitAndReadbackReads : Prop :=
  (∀ (s : State) (c : Instr) (who : Sender) (tag : Nat) (msg : Message), awake s → asMessage c = some (who, tag, msg) →
    ((mailboxOf s who).busy = true → ∃ t, exec c s = .next t ∧ t = { s with mailbox := t.mailbox } ∧
      mailboxOf t who = { mailboxOf s who with err := true } ∧
      ∀ k, k ≠ senderKey who → Tbl.find t.mailbox k = Tbl.find s.mailbox k) ∧
    ((mailboxOf s who).busy = false → coreRuns s (servingCore (messageId msg)) = false → ∃ t, exec c s = .next t ∧
      t = { s with mailbox := t.mailbox, power := { s.power with waiting := s.power.waiting ++ [(who, tag, msg)] } } ∧
      mailboxOf t who = { mailboxOf s who with busy := true, tag := tag, waitFw := true } ∧
      ∀ k, k ≠ senderKey who → Tbl.find t.mailbox k = Tbl.find s.mailbox k)) ∧
  (∀ (s : State) (ld address len : Nat) (freeze : Bool), awake s → beforeFirmware s = false →
    (rbsReadOk s (.ld ld) address len 4096 freeze = true → ∃ data : List Byte, data.length = len ∧
      (∀ i b, i < len → rbsByte s (.ld ld) (address + i) = some b → data[i]? = some b) ∧
      exec (.readRbs ld address len freeze) s = .next { s with
        free := s.free + len, outbox := s.outbox ++ [.cxlCommand ld 0 (data.map (·.toNat))] }) ∧
    (rbsReadOk s (.ld ld) address len 4096 freeze = false →
      exec (.readRbs ld address len freeze) s = .next { s with outbox := s.outbox ++ [.cxlCommand ld 2 []] })) ∧
  (∀ (s : State) (ld level count first : Nat), awake s → beforeFirmware s = false →
    (level < 4 → 1 ≤ count → count ≤ 64 → exec (.readFaults ld level count first) s = .next { s with
      outbox := s.outbox ++ [.cxlCommand ld 0 ((leBytes 2 (faultsFrom s level first count).length ++ zeros 6 ++
        shownFaults s (.ld ld) (faultsFrom s level first count)).map (·.toNat))] }) ∧
    ((4 ≤ level ∨ count = 0 ∨ 64 < count) →
      exec (.readFaults ld level count first) s = .next { s with outbox := s.outbox ++ [.cxlCommand ld 2 []] })) ∧
  (∀ (s : State) (tag address len : Nat) (freeze : Bool), awake s → (mailboxOf s .mgmt).busy = false →
    rbsReadOk s .mgmt address len 4072 freeze = true → ∃ (t : State) (data : List Byte),
      exec (.rbsRead tag address len freeze) s = .next t ∧ data.length = len ∧
      (∀ i b, i < len → rbsByte s .mgmt (address + i) = some b → data[i]? = some b) ∧
      Responds s t .mgmt 0x0C00 tag .ok (zeros 7 ++ data) ∧
      t = { s with free := s.free + len, mailbox := t.mailbox, outbox := t.outbox }) ∧
  (∀ (s : State) (tag level count first : Nat), awake s → (mailboxOf s .mgmt).busy = false →
    level < 4 → 1 ≤ count → count ≤ 63 → ∃ t, exec (.faultRead tag level count first) s = .next t ∧
      OnlyResponds s t .mgmt 0x0C01 tag .ok (zeros 7 ++ shownFaults s .mgmt (faultsFrom s level first count)))

/-- R312 to R315: ALLOC_PAGES places COUNT pages of the tenant at consecutive addresses in the tier that FLAGS allow, their bytes zero, and
answers with the first SA; without permission, with fields out of range or without room it allocates nothing and answers why, or waits
for eviction where only room is wanting. FREE_PAGES takes the named pages of the tenant back. EVICTION_WAIT_EXPIRY ends a wait that still
finds no room with QUOTA_EXCEEDED. No other page, byte or register changes. -/
def Obligations.PageMessagesPlaceAndFreePages : Prop :=
  (∀ (s : State) (who : Sender) (tag tenant count flags format cls pub : Nat), awake s →
    Taken s (.allocPages who tag tenant count flags format cls pub) →
    (mayActFor s who tenant = false → ∃ t, exec (.allocPages who tag tenant count flags format cls pub) s = .next t ∧
      OnlyResponds s t who 0x0800 tag .permission (zeros 15)) ∧
    (mayActFor s who tenant = true → (count = 0 ∨ 512 < count ∨ 2 < cls) →
      ∃ t, exec (.allocPages who tag tenant count flags format cls pub) s = .next t ∧
        OnlyResponds s t who 0x0800 tag .formatUnsupported (zeros 15)) ∧
    (mayActFor s who tenant = true → 1 ≤ count → count ≤ 512 → cls ≤ 2 →
      let tier := chooseTier s (bits flags 0 2) count
      (withinCeiling s tenant tier count = false → ∃ t, exec (.allocPages who tag tenant count flags format cls pub) s = .next t ∧
        OnlyResponds s t who 0x0800 tag .quotaExceeded (zeros 15)) ∧
      (withinCeiling s tenant tier count = true → tierAvailable s tier < count →
        ∃ t, exec (.allocPages who tag tenant count flags format cls pub) s = .next t ∧
          t = { s with mailbox := t.mailbox, store := { s.store with
                ticket := s.store.ticket + 1
                waits := s.store.waits ++
                  [{ ticket := s.store.ticket, ask := .pages who tag tenant count flags format cls pub }] } } ∧
          mailboxOf t who = { mailboxOf s who with busy := true, tag := tag }) ∧
      (withinCeiling s tenant tier count = true → count ≤ tierAvailable s tier → Memory.wf s.store.mem →
        ∃ t base, exec (.allocPages who tag tenant count flags format cls pub) s = .next t ∧
          Responds s t who 0x0800 tag .ok (zeros 7 ++ leBytes 8 (saOf (hubNode s) (base * Config.pageBytes))) ∧
          (pagesFree s base count = true ∨ base = firstGap count 0 s.store.pages) ∧
          t = { s with
            mailbox := t.mailbox, outbox := t.outbox, free := t.free
            store := { s.store with pages := t.store.pages, mem := t.store.mem, poison := t.store.poison }
            order := { s.order with regions := t.order.regions } } ∧
          (∀ i, i < count → ∃ p, Tbl.find t.store.pages (base + i) = some p ∧ p.owner = tenant ∧ p.share = none ∧ p.tier = tier ∧
            p.phase = .resident ∧ p.cls = pageClass cls ∧ p.want = bits flags 0 2 ∧ p.format = bits format 0 4 ∧
            p.pooled = bit flags 2 ∧ p.lastAccess = nowMs s ∧ p.forms = []) ∧
          (∀ k, (k < base ∨ base + count ≤ k) → Tbl.find t.store.pages k = Tbl.find s.store.pages k) ∧
          (∀ a, memByte t.store.mem a =
            if base * Config.pageBytes ≤ a ∧ a < (base + count) * Config.pageBytes then 0 else memByte s.store.mem a) ∧
          (∀ k, Tbl.find t.order.regions k = if cls = 2 ∧ k = base then
            some { pages := count, version := 1, lastWins := bit pub 0 } else Tbl.find s.order.regions k)))) ∧
  (∀ (s : State) (who : Sender) (tag tenant count firstSa : Nat), awake s → Taken s (.freePages who tag tenant count firstSa) →
    s.store.waits = [] → Memory.wf s.store.mem → (∀ h ∈ s.store.held, h.1 < pageOf (saOff firstSa) ∨ pageOf (saOff firstSa) + count ≤ h.1) →
    mayActFor s who tenant = true → 1 ≤ count → count ≤ 512 → saWellFormed firstSa = true → saNode firstSa = hubNode s →
    saOff firstSa % Config.pageBytes = 0 →
    (∀ i, i < count → ∃ p, Tbl.find s.store.pages (pageOf (saOff firstSa) + i) = some p ∧ p.owner = tenant) →
    ∃ t, exec (.freePages who tag tenant count firstSa) s = .next t ∧
      Responds s t who 0x0801 tag .ok (zeros 15) ∧
      t = { s with
        mailbox := t.mailbox, outbox := t.outbox, embed := { s.embed with rowCache := t.embed.rowCache }
        store := { s.store with
          pages := t.store.pages, mem := t.store.mem, poison := t.store.poison, moves := t.store.moves }
        order := { s.order with directory := t.order.directory, regions := t.order.regions, drafts := t.order.drafts } } ∧
      (∀ k, Tbl.find t.store.pages k = if pageOf (saOff firstSa) ≤ k ∧ k < pageOf (saOff firstSa) + count then none else
        Tbl.find s.store.pages k) ∧
      (∀ a, memByte t.store.mem a =
        if saOff firstSa ≤ a ∧ a < saOff firstSa + count * Config.pageBytes then 0 else memByte s.store.mem a)) ∧
  (∀ (s : State) (ticket : Nat) (w : AllocWait) (who : Sender) (tag tenant count flags format cls pub : Nat), awake s →
    s.store.waits.find? (fun x => x.ticket == ticket) = some w → w.ask = .pages who tag tenant count flags format cls pub →
    mayActFor s who tenant = true → 1 ≤ count → count ≤ 512 → cls ≤ 2 →
    allocStatus s tenant count (bits flags 0 2) = .quotaExceeded →
    ∃ t, exec (.evictionWaitExpiry ticket) s = .next t ∧ Responds s t who 0x0800 tag .quotaExceeded (zeros 15) ∧
      t = { s with mailbox := t.mailbox, outbox := t.outbox, store := { s.store with waits := t.store.waits } } ∧
      ∀ x, x ∈ t.store.waits ↔ x ∈ s.store.waits ∧ x.ticket ≠ ticket)

/-- R380, R486, R493, R509, R510, R515: what LINE_SALVAGE, BIND_CONTENT, UNBIND_CONTENT, DEBUG_UNLOCK, DEBUG_PATHS_OPEN,
IMAGE_WRITE and DIR_SET do once their core takes them: the lost lines end, a binding with a handle not in use stands or goes, a token
that checks opens TRACE at once and FULL after its scrub, the bytes of the slot that is not in use are written, and the directory copy with
the lower DIR_SEQ. A signed object that fails a check leaves record 0x0601 and nothing else. -/
def Obligations.SecurityMessagesBindUnlockAndWrite : Prop :=
  (∀ (s : State) (ld tag tenant lines firstSa : Nat), awake s → Taken s (.lineSalvage (.ld ld) tag tenant lines firstSa) →
    boundTo s ld tenant = true → saWellFormed firstSa = true → saNode firstSa = hubNode s → lines ≠ 0 →
    (∀ i ∈ pagesOf (saOff firstSa) (128 * lines), ∃ p, Tbl.find s.store.pages i = some p ∧ p.owner = tenant) →
    ∃ t n, exec (.lineSalvage (.ld ld) tag tenant lines firstSa) s = .next t ∧
      Responds s t (.ld ld) 0x0900 tag .ok (zeros 7 ++ leBytes 4 n) ∧
      t = { s with mailbox := t.mailbox, outbox := t.outbox, order := { s.order with directory := t.order.directory } } ∧
      t.order.directory.length + n = s.order.directory.length ∧
      ∀ e, e ∈ t.order.directory ↔ e ∈ s.order.directory ∧
        ¬ (e.2.lost = true ∧ saOff firstSa / 128 ≤ e.1 ∧ e.1 < saOff firstSa / 128 + lines)) ∧
  (∀ (s : State) (who : Sender) (tag tenant pages firstSa : Nat) (r : BindingRecord), awake s →
    Taken s (.bindContent who tag tenant pages firstSa r) →
    (failedCheck s 5 r.object = none → pages ≠ 0 → r.namesHub = true → r.unwrapOk = true → saWellFormed firstSa = true →
      saNode firstSa = hubNode s → saOff firstSa % Config.pageBytes = 0 →
      (∀ i, i < pages → ∃ p, Tbl.find s.store.pages (pageOf (saOff firstSa) + i) = some p ∧ p.owner = tenant) →
      rangeBound s (pageOf (saOff firstSa)) pages = false → s.sec.ranges.length < 1024 →
      ∃ t h, exec (.bindContent who tag tenant pages firstSa r) s = .next t ∧
        Responds s t who 0x0A00 tag .ok (zeros 1 ++ leBytes 2 h) ∧
        t = { s with
          mailbox := t.mailbox, outbox := t.outbox, free := s.free + 1
          sec := { s.sec with ranges := s.sec.ranges ++ [{
            handle := h, tenant := tenant, first := pageOf (saOff firstSa), pages := pages, hash := r.hash
            consumers := r.consumers }] } }) ∧
    (∀ check, failedCheck s 5 r.object = some check → s.faults.rings.length = 4 →
      ∃ t f, exec (.bindContent who tag tenant pages firstSa r) s = .next t ∧
        Responds s t who 0x0A00 tag .permission (zeros 3) ∧
        t = { s with mailbox := t.mailbox, outbox := t.outbox, faults := t.faults } ∧
        newestFault t (faultClass 0x0601).1 = some f ∧ f.code = 0x0601 ∧
        (f.merged = 0 → f.addr = 5 ∧ f.arg = check))) ∧
  (∀ (s : State) (who : Sender) (tag tenant handle : Nat), awake s → Taken s (.unbindContent who tag tenant handle) →
    ((∃ r ∈ s.sec.ranges, r.handle = handle ∧ r.tenant = tenant) →
      ∃ t, exec (.unbindContent who tag tenant handle) s = .next t ∧ Responds s t who 0x0A01 tag .ok [] ∧
        t = { s with mailbox := t.mailbox, outbox := t.outbox, sec := { s.sec with ranges := t.sec.ranges } } ∧
        ∀ r, r ∈ t.sec.ranges ↔ r ∈ s.sec.ranges ∧ r.handle ≠ handle) ∧
    ((¬ ∃ r ∈ s.sec.ranges, r.handle = handle ∧ r.tenant = tenant) →
      ∃ t, exec (.unbindContent who tag tenant handle) s = .next t ∧ OnlyResponds s t who 0x0A01 tag .permission [])) ∧
  (∀ (s : State) (who : Sender) (tag : Nat) (k : DebugToken), awake s → Taken s (.debugUnlock who tag k) →
    failedCheck s 3 k.object = none → s.order.copies = [] →
    (tokenFits s k = true → k.level = 1 ∨ k.level = 2 →
      ∃ t n, exec (.debugUnlock who tag k) s = .next t ∧ Responds s t who 0x0A02 tag .ok [] ∧
        (k.level = 1 → t = { s with
          mailbox := t.mailbox, outbox := t.outbox, free := s.free + 1
          sec := { s.sec with nonce := n, debug := 1, opening := false } }) ∧
        (k.level = 2 → t = { s with
          mailbox := t.mailbox, outbox := t.outbox, free := s.free + 1
          embed := { s.embed with rowCache := [] }, order := { s.order with copies := [], sectors := [] }
          sec := { s.sec with nonce := n, opening := true } })) ∧
    (tokenFits s k = false → ∃ t n, exec (.debugUnlock who tag k) s = .next t ∧ Responds s t who 0x0A02 tag .permission [] ∧
      t = { s with mailbox := t.mailbox, outbox := t.outbox, free := s.free + 1, sec := { s.sec with nonce := n } })) ∧
  (∀ s : State, awake s →
    (s.sec.opening = true → exec .debugPathsOpen s = .next { s with sec := { s.sec with opening := false, debug := 2 } }) ∧
    (s.sec.opening = false → exec .debugPathsOpen s = .next s)) ∧
  (∀ (s : State) (who : Sender) (tag slot offset len sa : Nat), awake s → Taken s (.imageWrite who tag slot offset len sa) →
    hasAdmin s who = true → slot < 2 → offset % 4096 = 0 → len % 4096 = 0 → len ≠ 0 → len ≤ 1048576 →
    (slot ≠ s.boot.slotUsed → offset + len ≤ 31 * 1048576 → saWellFormed sa = true → saNode sa = hubNode s →
      (∀ p ∈ pagesOf (saOff sa) len, Tbl.has s.store.pages p = true) → rangeGone s (saOff sa) len = false →
      rangePoison s (saOff sa) len = false →
      ∃ t, exec (.imageWrite who tag slot offset len sa) s = .next t ∧
        t = { s with mailbox := t.mailbox, outbox := t.outbox, boot := { s.boot with slots := t.boot.slots } } ∧
        (∀ i, i < len → Tbl.find t.boot.slots (slotKey slot (offset + i)) = some (memByte s.store.mem (saOff sa + i))) ∧
        ∀ k, (k < slotKey slot offset ∨ slotKey slot (offset + len) ≤ k) → Tbl.find t.boot.slots k = Tbl.find s.boot.slots k) ∧
    (slot = s.boot.slotUsed → ∃ t, exec (.imageWrite who tag slot offset len sa) s = .next t ∧
      OnlyResponds s t who 0x0B00 tag .permission []) ∧
    (slot ≠ s.boot.slotUsed → 31 * 1048576 < offset + len → ∃ t, exec (.imageWrite who tag slot offset len sa) s = .next t ∧
      OnlyResponds s t who 0x0B00 tag .quotaExceeded [])) ∧
  (∀ (s : State) (who : Sender) (tag active : Nat), awake s → Taken s (.dirSet who tag active) →
    (hasAdmin s who = true → s.boot.dir0.valid = true → s.boot.dir1.valid = true →
      ∃ t, exec (.dirSet who tag active) s = .next t ∧
        (s.boot.dir0.seq ≤ s.boot.dir1.seq → t = { s with mailbox := t.mailbox, outbox := t.outbox, boot := { s.boot with
          dir0 := { valid := true, seq := s.boot.dir1.seq + 1, active := if active = 1 then 1 else 0 } } }) ∧
        (s.boot.dir1.seq < s.boot.dir0.seq → t = { s with mailbox := t.mailbox, outbox := t.outbox, boot := { s.boot with
          dir1 := { valid := true, seq := s.boot.dir0.seq + 1, active := if active = 1 then 1 else 0 } } })) ∧
    (hasAdmin s who = false → ∃ t, exec (.dirSet who tag active) s = .next t ∧
      OnlyResponds s t who 0x0B01 tag .permission []))

/-! ### SPDM and JTAG (chapter 13) -/

/-- R435, R487 to R491, R498, R508, R545: each SPDM request that reaches the running security core is answered, with what R490 and
R491 make of the requester's connection, within the session limits; a restarting core answers Busy, a failed one Unspecified. A signature
of the LMS key spends one leaf, under a reservation that stands beyond it, or repeats the first one of its transcript. The JTAG instructions are
answered, those that drive pins only before the first release of HUB_RESET_N and with no Saffron tenant. Codes are those of SPDM
1.2 (a PRESUMED log entry); digests, certificates, signatures and the hashes of measurement blocks 1 to 5 and 7 are free. -/
def Obligations.SecurityCoreAnswersSpdmAndJtag : Prop :=
  (∀ (s : State) (who : Sender), awake s → spdmCarried s who = true → (coreAt s securityCore).run = .running →
    let p := peerOf s who
    (∀ c code data p', ((c = .getVersion who ∧ code = 0x04 ∧ data = [0x12] ∧ p' = { p with negotiated := false, transcript := none }) ∨
        (c = .getCapabilities who ∧ code = 0x61 ∧ data = [25590] ∧ p' = p) ∨
        (c = .negotiateAlgorithms who true ∧ code = 0x63 ∧ data = [1, 2, 3, 4, 5] ∧ p' = { p with negotiated := true }) ∨
        (c = .negotiateAlgorithms who false ∧ code = 0x63 ∧ data = [] ∧ p' = { p with negotiated := false }) ∨
        (∃ slot, 3 ≤ slot ∧ c = .getCertificate who slot ∧ code = 0x7F ∧ data = [1] ∧ p' = p) ∨
        (∃ slot x, 2 ≤ slot ∧ c = .challenge who slot x ∧ code = 0x7F ∧ data = [1] ∧ p' = p) ∨
        (∃ m, p.negotiated = false ∧ c = .keyExchange who m ∧ code = 0x7F ∧ data = [4] ∧ p' = p) ∨
        (∃ m, p.negotiated = true ∧ sessionLimit who ≤ p.sessions + p.handshakes ∧ c = .keyExchange who m ∧ code = 0x7F ∧
          data = [3] ∧ p' = p) ∨
        (∃ ok, p.handshakes = 0 ∧ c = .finish who ok ∧ code = 0x7F ∧ data = [4] ∧ p' = p) ∨
        (p.handshakes ≠ 0 ∧ c = .finish who true ∧ code = 0x65 ∧ data = [] ∧
          p' = { p with handshakes := p.handshakes - 1, sessions := p.sessions + 1 }) ∨
        (p.handshakes ≠ 0 ∧ c = .finish who false ∧ code = 0x7F ∧ data = [5] ∧ p' = { p with handshakes := p.handshakes - 1 }) ∨
        (p.sessions = 0 ∧ (c = .keyUpdate who none ∨ c = .spdmHeartbeat who ∨ c = .endSession who) ∧ code = 0x7F ∧ data = [4] ∧
          p' = p) ∨
        (p.sessions ≠ 0 ∧ c = .keyUpdate who none ∧ code = 0x69 ∧ data = [] ∧ p' = { p with keyUpdates := p.keyUpdates + 1 }) ∨
        (p.sessions ≠ 0 ∧ c = .spdmHeartbeat who ∧ code = 0x68 ∧ data = [] ∧ p' = p) ∨
        (p.sessions ≠ 0 ∧ c = .endSession who ∧ code = 0x6C ∧ data = [] ∧ p' = { p with sessions := p.sessions - 1 }) ∨
        (p.transcript = none ∧ c = .getLmsSignature who ∧ code = 0x7F ∧ data = [4] ∧ p' = p)) →
      ∃ t, exec c s = .next t ∧ SpdmAnswers s t who code data p') ∧
    (∃ t a b c, exec (.getDigests who) s = .next t ∧ SpdmAnswers s t who 0x01 [0, a, 1, b, 2, c] p) ∧
    (∀ slot, slot < 3 → ∃ t x, exec (.getCertificate who slot) s = .next t ∧ SpdmAnswers s t who 0x02 [slot, x] p) ∧
    (∀ slot x, slot < 2 → ∃ t sig, exec (.challenge who slot x) s = .next t ∧
      SpdmAnswers s t who 0x03 [slot, x, sig] { p with transcript := some x }) ∧
    (∀ m, p.negotiated = true → p.sessions + p.handshakes < sessionLimit who → ∃ t x, exec (.keyExchange who m) s = .next t ∧
      SpdmAnswers s t who 0x64 [flag (mutualAsked s m), x] { p with handshakes := p.handshakes + 1 }) ∧
    (∀ signed x, ∃ t hs h7 sig, exec (.getMeasurements who signed x) s = .next t ∧ hs.length = 5 ∧
      SpdmAnswers s t who 0x60 ((([1, 2, 3, 4, 5].zip hs).map (fun e => [e.1, 1, e.2])).flatten
          ++ (6 :: (imageBlock s).length :: imageBlock s) ++ [7, 1, h7] ++ (8 :: (fuseState s).length :: fuseState s)
          ++ [9, 1, s.sec.debug] ++ (10 :: (boundHashes s).length :: boundHashes s)
          ++ (11 :: (saffronTenants s).length :: saffronTenants s) ++ (if signed then [x, sig] else []))
        (if signed then { p with transcript := some x } else p)) ∧
    (∀ x, p.transcript = some x →
      (∀ leaf, s.sec.lmsSigned.find? (fun e => e.1 == x) = some (x, leaf) → ∃ sig, exec (.getLmsSignature who) s = .next { s with
        outbox := s.outbox ++ [.spdm who 0x7E [leaf, sig]] }) ∧
      (s.sec.lmsSigned.find? (fun e => e.1 == x) = none → s.sec.nextLeaf < 2 ^ 40 →
        ∃ t sig r, exec (.getLmsSignature who) s = .next t ∧ s.sec.nextLeaf < r ∧ s.sec.nextLeaf / 2 ^ 30 ≤ t.sec.fuseBlocks ∧
          t = { s with
            outbox := s.outbox ++ [.spdm who 0x7E [s.sec.nextLeaf, sig]]
            sec := { s.sec with
              nextLeaf := s.sec.nextLeaf + 1, reserved := some r, fuseBlocks := t.sec.fuseBlocks, exhausted := t.sec.exhausted
              lmsSigned := s.sec.lmsSigned ++ [(x, s.sec.nextLeaf)] } }) ∧
      (s.sec.lmsSigned.find? (fun e => e.1 == x) = none → 2 ^ 40 ≤ s.sec.nextLeaf →
        exec (.getLmsSignature who) s = .next { s with
          outbox := s.outbox ++ [.spdm who 0x7F [5]], sec := { s.sec with exhausted := true } }))) ∧
  (∀ (s : State) (c : Instr) (who : Sender), awake s → asSpdm c = some who →
    (spdmCarried s who = true → (coreAt s securityCore).run = .restarting →
      exec c s = .next { s with outbox := s.outbox ++ [.spdm who 0x7F [3]] }) ∧
    (spdmCarried s who = true → (coreAt s securityCore).run = .failed →
      exec c s = .next { s with outbox := s.outbox ++ [.spdm who 0x7F [5]] }) ∧
    (spdmCarried s who = false ∨ (coreAt s securityCore).run = .notLoaded → exec c s = .next s)) ∧
  (∀ (s : State) (who : Sender) (port : Nat), awake s → coreRuns s securityCore = true → port < s.fabric.ports.length →
    (portOf s port).up = true → (portOf s port).encrypted = true → ∃ t, exec (.keyUpdate who (some port)) s = .next t ∧
      t = { s with outbox := s.outbox ++ [.spdm who 0x69 [port]], fabric := { s.fabric with ports := t.fabric.ports } } ∧
      portOf t port = { portOf s port with rxKeys := (portOf s port).rxKeys + 1 } ∧
      ∀ q, q ≠ port → portOf t q = portOf s q) ∧
  (∀ (s : State) (c : Instr) (code : Nat) (taken : Bool), s.pins.pwrGood = true →
    ((c = .bypass ∧ code = 0 ∧ taken = true) ∨ (c = .idcode ∧ code = 1 ∧ taken = true) ∨
      (c = .samplePreload ∧ code = 2 ∧ taken = !s.sec.saffronOn) ∨
      ((c = .extest ∧ code = 3 ∨ c = .clamp ∧ code = 4 ∨ c = .highz ∧ code = 5) ∧
        taken = (!s.pins.released && !s.sec.saffronOn))) →
    exec c s = .next { s with
      outbox := s.outbox ++ [.jtag code taken], sec := { s.sec with jtag := if taken then code else s.sec.jtag } })

/-! ### CXL.mem, decoders, and events of the CXL ports (chapter 11) -/

/-- R89 to R93, R431 to R433, R605: a CXL.mem read through a valid local decoder whose tenant may read gives the bytes, and a write stores them and no
others, each completing to its host; an HPA outside every decoder reads as poison and all ones and writes nothing; a request of a
proxy window goes to the node of its target. MEM_HOLD_EXPIRY ends a request that waits, with record 0x0204.
HDM_DECODER_COMMIT commits a decoder where its rules hold, leaves it uncommitted where not, and never changes a locked one. -/
def Obligations.CxlMemRequestsAndDecoders : Prop :=
  (∀ (s : State) (ld tag hpa d sa len : Nat), awake s → linkTakes s ld = true → beforeFirmware s = false →
    hpaHit s ld hpa = some (d, sa) → (hdmOf s ld d).valid = true → saNode sa = hubNode s → cxlRequest s ld tag = none →
    awaitsUnit s (saOff sa) = false → localReadStatus s (hdmOf s ld d).tenant (saOff sa) len = .ok →
    linesToRead s (saOff sa) len = [] →
    ∃ t, exec (.cxlMemRead ld tag hpa len .clean) s = .next t ∧
      t = { s with
        outbox := s.outbox ++
          [.cxlReadData ld tag false (viewMem s (hdmOf s ld d).tenant (hubNode s) (saOff sa) len)]
        store := { s.store with pages := t.store.pages } }) ∧
  (∀ (s : State) (ld tag hpa d sa : Nat) (data : List Byte), awake s → linkTakes s ld = true → beforeFirmware s = false →
    hpaHit s ld hpa = some (d, sa) → (hdmOf s ld d).valid = true → saNode sa = hubNode s → cxlRequest s ld tag = none →
    Memory.wf s.store.mem → awaitsUnit s (saOff sa) = false →
    localWriteStatus s (hdmOf s ld d).tenant (hubNode s) (saOff sa) data.length = .ok →
    touchesPublished s (saOff sa) data.length = false → deepPages s (saOff sa) data.length = [] →
    linesToWrite s (saOff sa) data.length = [] →
    ∃ t, exec (.cxlMemWrite ld tag hpa data false .clean) s = .next t ∧ t.outbox = s.outbox ++ [.cxlWriteDone ld tag] ∧
      (∀ i, (h : i < data.length) → memByte t.store.mem (saOff sa + i) = data[i]) ∧
      (∀ a, a < saOff sa ∨ saOff sa + data.length ≤ a → memByte t.store.mem a = memByte s.store.mem a) ∧
      t.cxl = s.cxl ∧ t.works = s.works ∧ t.queues = s.queues ∧ t.comp = s.comp ∧ t.faults = s.faults) ∧
  (∀ (s : State) (ld tag hpa len : Nat) (data : List Byte) (poison : Bool) (cell : CellEvent), awake s → linkTakes s ld = true →
    beforeFirmware s = false → hpaHit s ld hpa = none → cxlRequest s ld tag = none →
    exec (.cxlMemRead ld tag hpa len cell) s = .next { s with outbox := s.outbox ++ [.cxlReadData ld tag true (ones len)] } ∧
    exec (.cxlMemWrite ld tag hpa data poison cell) s = .next { s with outbox := s.outbox ++ [.cxlWriteDone ld tag] }) ∧
  (∀ (s : State) (ld tag hpa d sa len : Nat) (data : List Byte) (cell : CellEvent), awake s → linkTakes s ld = true →
    beforeFirmware s = false → hpaHit s ld hpa = some (d, sa) → (hdmOf s ld d).valid = true → saNode sa ≠ hubNode s →
    reachable s (saNode sa) = true →
    (∃ t, exec (.cxlMemRead ld tag hpa len cell) s = .next t ∧
      t.outbox = s.outbox ++ [.load (saNode sa) (hdmOf s ld d).tenant s.fabric.nextTag (saOff sa) len none] ∧
      t.store = s.store ∧ t.works = s.works ∧ t.faults = s.faults) ∧
    (∃ t, exec (.cxlMemWrite ld tag hpa data false cell) s = .next t ∧
      t.outbox = s.outbox ++ [.store (saNode sa) (hdmOf s ld d).tenant s.fabric.nextTag (saOff sa) data] ∧
      t.store = s.store ∧ t.works = s.works ∧ t.faults = s.faults)) ∧
  (∀ (s : State) (ld tag : Nat), awake s →
    (∀ r, cxlRequest s ld tag = some r → r.dropped = false → s.faults.rings.length = 4 →
      ∃ t f os, exec (.memHoldExpiry ld tag) s = .next t ∧
        t.outbox = s.outbox ++ (if r.write then .cxlWriteDone ld tag else .cxlReadData ld tag true (ones r.len)) :: os ∧
        cxlRequest t ld tag = none ∧ (∀ h, h ∈ t.store.held ↔ h ∈ s.store.held ∧ isRequest ld tag h.2 = false) ∧
        newestFault t 1 = some f ∧ f.code = 0x0204 ∧ f.inst = ld / 16 ∧
        (ldOf t ld).heldEnded = min 0xFFFF ((ldOf s ld).heldEnded + 1) ∧
        t = { s with
          outbox := t.outbox, faults := t.faults, store := { s.store with held := t.store.held }
          cxl := { s.cxl with requests := t.cxl.requests, lds := t.cxl.lds } }) ∧
    (cxlRequest s ld tag = none → exec (.memHoldExpiry ld tag) s = .next s)) ∧
  (∀ (s : State) (ld decoder : Nat) (x : DecoderSetup), awake s →
    (∀ old, Tbl.find (decodersOf s ld) decoder = some old → old.locked = true →
      exec (.hdmDecoderCommit ld decoder x) s = .next { s with outbox := s.outbox ++ [.decoder ld decoder true] }) ∧
    ((∀ old, Tbl.find (decodersOf s ld) decoder = some old → old.locked = false) →
      ∃ t, exec (.hdmDecoderCommit ld decoder x) s = .next t ∧
        let s' := modLd s ld (fun d => { d with decoders := Tbl.del d.decoders decoder })
        let good := x.commit && commitHolds s' ld decoder x
        t = { s with outbox := s.outbox ++ [.decoder ld decoder good], cxl := { s.cxl with lds := t.cxl.lds } } ∧
        Tbl.find (decodersOf t ld) decoder = (if good then some {
          dpaBase := nextDpa s' ld decoder x.skip, base := x.base, size := x.size, ways := x.ways, gran := x.gran
          position := x.position, skip := x.skip, locked := x.lock } else none) ∧
        (∀ k, k ≠ decoder → Tbl.find (decodersOf t ld) k = Tbl.find (decodersOf s ld) k) ∧
        ∀ l, l ≠ ld → ldOf t l = ldOf s l))

/-- R437, R445 to R447: a link that is lost or reset carries nothing more, its keys go and the responses of its requests are dropped; a reset
takes its decoders back. FUNCTION_LEVEL_RESET drops the pending vectors of a device and the TLB entries of its tenants, CXL_RESET also
its decoders. What a link holds ends with HOST_HOLD_EXPIRY. A completion or a timeout of CXL.io hands the read to its
descriptor. A failed IDE stream answers the reads in flight with poison and stays broken until reset and new keys. -/
def Obligations.CxlPortEventsTakeEffect : Prop :=
  (∀ (s : State) (link : Nat), awake s → link < s.cxl.links.length →
    ((cxlLink s link).up = false → exec (.cxlLinkDown link) s = .next s) ∧
    ((cxlLink s link).up = true → ∃ t, exec (.cxlLinkDown link) s = .next t ∧ LinkFrame s t ∧
      cxlLink t link = { cxlLink s link with up := false, width := 0, rate := 0, ide := false, keyed := false } ∧
      (∀ k, k ≠ link → cxlLink t k = cxlLink s k) ∧ (∀ ld, decodersOf t ld = decodersOf s ld) ∧
      t.cxl.requests = s.cxl.requests.map (fun r => if r.ld ∈ linkLds s link then { r with dropped := true } else r)) ∧
    ∃ t, exec (.hotReset link) s = .next t ∧ LinkFrame s t ∧ WasReset s t link ∧
      (∀ k, k ≠ link → cxlLink t k = cxlLink s k) ∧
      ∀ ld, decodersOf t ld = if ld ∈ linkLds s link then [] else decodersOf s ld) ∧
  (∀ (s : State) (port : Nat),
    (s.pins.pwrGood = true → s.pins.hubResetN = false → exec (.perstN port) s = .next { s with pins := { s.pins with
      perst := if port ∈ s.pins.perst then s.pins.perst else s.pins.perst ++ [port] } }) ∧
    (awake s → 2 * port + 1 < s.cxl.links.length → ∃ t, exec (.perstN port) s = .next t ∧ LinkFrame s t ∧
      WasReset s t (2 * port) ∧ WasReset s t (2 * port + 1) ∧
      (∀ k, k ≠ 2 * port → k ≠ 2 * port + 1 → cxlLink t k = cxlLink s k) ∧
      ∀ ld, decodersOf t ld = if ld ∈ linkLds s (2 * port) ∨ ld ∈ linkLds s (2 * port + 1) then [] else decodersOf s ld)) ∧
  (∀ (s : State) (ld : Nat) (c : Instr), awake s → (c = .functionLevelReset ld ∨ c = .cxlReset ld) →
    ∃ t, exec c s = .next t ∧
      t = { s with
        works := t.works, tlbs := t.tlbs, fabric := { s.fabric with outstanding := t.fabric.outstanding }
        cxl := { s.cxl with held := t.cxl.held, lds := t.cxl.lds } } ∧
      ldOf t ld = { ldOf s ld with
        pendingMsi := [], decoders := if c = .cxlReset ld then [] else (ldOf s ld).decoders } ∧
      (∀ l, l ≠ ld → ldOf t l = ldOf s l) ∧ (∀ h, h ∈ t.cxl.held ↔ h ∈ s.cxl.held ∧ ioLd h.2 ≠ ld) ∧
      ∀ k e, e ∈ Tbl.at t.tlbs k [] ↔ e ∈ Tbl.at s.tlbs k [] ∧ boundTo s ld e.tenant = false) ∧
  (∀ (s : State) (link : Nat), awake s → link < s.cxl.links.length →
    ((cxlLink s link).up = true → exec (.hostHoldExpiry link) s = .next s) ∧
    ((cxlLink s link).up = false → ∃ t, exec (.hostHoldExpiry link) s = .next t ∧
      t = { s with
        works := t.works, fabric := { s.fabric with outstanding := t.fabric.outstanding }
        cxl := { s.cxl with held := t.cxl.held, links := t.cxl.links } } ∧
      (∀ h, h ∈ t.cxl.held ↔ h ∈ s.cxl.held ∧ h.1 ≠ link) ∧
      cxlLink t link = { cxlLink s link with holding := false, expired := true } ∧
      (∀ k, k ≠ link → cxlLink t k = cxlLink s k) ∧
      ∀ q n w, workOf s q n = some w → ∃ w', workOf t q n = some w' ∧ w'.desc = w.desc ∧
        ((∃ ld hpa d, (link, HeldIo.write q n ld hpa d) ∈ s.cxl.held) → worse w'.status .nodeUnreachable = w'.status))) ∧
  (∀ (s : State) (tag : Nat) (c : Instr) (st : Status) (data : Nat → List Byte), awake s →
    ((∃ b, c = .cxlIoCompletion tag (.data b) ∧ st = .ok ∧ data = fun n => exactly n b) ∨
      (c = .cxlIoCompletion tag .unsupportedOrAbort ∧ st = .permission ∧ data = ones) ∨
      (c = .cxlIoCompletion tag .poisoned ∧ st = .poison ∧ data = ones) ∨
      (c = .cxlIoTimeout tag ∧ st = .nodeUnreachable ∧ data = ones)) →
    (txOf s tag = none → exec c s = .next s) ∧
    (∀ o q n ld w, txOf s tag = some o → o.await = .hostRead q n ld → workOf s q n = some w → ∃ t, exec c s = .next t ∧
      txOf t tag = none ∧ OtherWorksKept q n s t ∧
      workOf t q n = some { w with
        fetched := w.fetched ++ [{ space := .host ld, addr := o.addr, status := st, node := hubNode s, data := data o.len }]
        phase := if w.phase = .waiting then .ready else w.phase } ∧
      t = { s with works := t.works, fabric := { s.fabric with outstanding := t.fabric.outstanding } })) ∧
  (∀ (s : State) (link : Nat), awake s → link < s.cxl.links.length →
    (((cxlLink s link).up = false ∨ (cxlLink s link).ide = false) → exec (.ideIntegrityFailure link) s = .next s) ∧
    ((cxlLink s link).up = true → (cxlLink s link).ide = true → s.faults.rings.length = 4 →
      (s.cxl.requests.map (fun r => (r.ld, r.tag))).Nodup → ∃ t f, exec (.ideIntegrityFailure link) s = .next t ∧
      t = { s with
        outbox := t.outbox, faults := t.faults
        cxl := { s.cxl with lds := t.cxl.lds, links := t.cxl.links, requests := t.cxl.requests } } ∧
      cxlLink t link = { cxlLink s link with ide := false, keyed := false, broken := true, resetSince := false } ∧
      (∀ k, k ≠ link → cxlLink t k = cxlLink s k) ∧ newestFault t 3 = some f ∧ f.code = 0x0306 ∧ f.inst = link / 2 ∧
      (∀ r, r ∈ t.cxl.requests ↔ r ∈ s.cxl.requests ∧ (r.ld ∈ linkLds s link → r.write = true)) ∧
      ∀ r ∈ s.cxl.requests, r.ld ∈ linkLds s link → r.write = false → r.dropped = false →
        .cxlReadData r.ld r.tag true (ones r.len) ∈ t.outbox) ∧
    ((coreRuns s securityCore = false ∨ (cxlLink s link).up = false ∨
        ((cxlLink s link).broken = true ∧ (cxlLink s link).resetSince = false)) →
      ∀ on, exec (.cxlIdeKm link on) s = .next s) ∧
    (coreRuns s securityCore = true → (cxlLink s link).up = true →
      ((cxlLink s link).broken = false ∨ (cxlLink s link).resetSince = true) →
      (∃ t, exec (.cxlIdeKm link false) s = .next t ∧ t = { s with cxl := { s.cxl with links := t.cxl.links } } ∧
        cxlLink t link = { cxlLink s link with keyed := true } ∧ ∀ k, k ≠ link → cxlLink t k = cxlLink s k) ∧
      ((cxlLink s link).keyed = false → exec (.cxlIdeKm link true) s = .next s) ∧
      ((cxlLink s link).keyed = true → ∃ t, exec (.cxlIdeKm link true) s = .next t ∧
        t = { s with cxl := { s.cxl with links := t.cxl.links } } ∧
        cxlLink t link = { cxlLink s link with ide := true, broken := false, resetSince := false } ∧
        ∀ k, k ≠ link → cxlLink t k = cxlLink s k)))

/-! ### Units that fail (chapter 01) -/

/-- R25, R37 to R43, R331, R427, R602: a die-to-die link loses its module, or goes down with its last one, and a record names it; a retired
cell stays retired, and takes its block, its port, its lane or the pages of its bank; an unresponsive block, a region, an E-die or a port
leaves service, the pages on lost memory read LOST and the others are as before, and a stopped cluster's work is to run again; an X-die
takes every port along. What is out of service already is not taken out again. -/
def Obligations.FailedUnitsLeaveService : Prop :=
  (∀ (s : State) (link : Nat), awake s → s.faults.rings.length = 4 →
    (∀ n, s.units.d2d[link]? = some (n + 1) → ∃ t f, exec (.d2dLaneFault link) s = .next t ∧
      t = { s with
        outbox := t.outbox, faults := t.faults, units := { s.units with d2d := s.units.d2d.set link n }
        cxl := { s.cxl with lds := t.cxl.lds } } ∧
      newestFault t (faultClass f.code).1 = some f ∧ f.code = (if n = 0 then 0x0307 else 0x0301) ∧ f.kind = .d2d ∧ f.inst = link) ∧
    ((s.units.d2d[link]?).getD 0 = 0 → exec (.d2dLaneFault link) s = .next s)) ∧
  (∀ (s : State) (channel : Nat) (pages : List Nat), awake s → (s.store.pages.map (·.1)).Nodup →
    ∃ t, exec (.flashDieFailure channel pages) s = .next t ∧
      t = { s with
        faults := t.faults, store := { s.store with pages := t.store.pages, moves := t.store.moves }
        comp := { s.comp with keys := t.comp.keys }
        units := { s.units with flash := s.units.flash.modify channel (fun f => { f with fit := { f.fit with luns := f.fit.luns - 1 } }) } } ∧
      ∀ k p, Tbl.find s.store.pages k = some p → Tbl.find t.store.pages k =
        some (if k ∈ pages ∧ p.tier = .deep ∧ p.unit = channel then { p with phase := .lost } else p)) ∧
  (∀ (s : State) (kind : UnitKind) (unit cell cause : Nat), awake s → (s.store.pages.map (·.1)).Nodup →
    ((hasCell kind unit cell = false ∨ (kind, unit, cell) ∈ s.units.retired) → s.boot.readyN = true →
      exec (.cellRetired kind unit cell cause) s = .next s) ∧
    (hasCell kind unit cell = true → (kind, unit, cell) ∉ s.units.retired → s.store.held = [] →
      ∃ t, exec (.cellRetired kind unit cell cause) s = .next t ∧
        t.units.retired = s.units.retired ++ [(kind, unit, cell)] ∧
        (kind = .flash → 2 ≤ cell → t.store = s.store ∧
          t.units.flash = s.units.flash.modify unit (fun f => { f with lanesUp := f.lanesUp - 1 })) ∧
        (kind = .cluster → clusterIn t unit = false) ∧ (kind = .flash → cell < 2 → unitIn t .deep unit = false) ∧
        (kind = .cxl → (t.units.cxlPorts[unit]?).getD false = false) ∧
        (∀ tier, (kind = .hbm ∧ tier = .near ∨ kind = .ddr ∧ tier = .far) → ∀ k p, Tbl.find s.store.pages k = some p →
          Tbl.find t.store.pages k = some (if onBank tier unit cell (k, p) then { p with phase := .lost } else p)))) ∧
  (∀ (s : State) (kind : UnitKind) (unit : Nat), awake s → (s.store.pages.map (·.1)).Nodup →
    (blockIn s kind unit = false → s.boot.readyN = true → exec (.blockUnresponsive kind unit) s = .next s) ∧
    (kind = .cluster → clusterIn s unit = true → ∃ t, exec (.blockUnresponsive kind unit) s = .next t ∧
      clusterIn t unit = false ∧ (∀ c, c ≠ unit → clusterIn t c = clusterIn s c) ∧ t.store = s.store ∧
      t.works = s.works.map (fun w => if onStopped s (· == unit) w then rerun w else w)) ∧
    (∀ tier, kindTier kind = some tier → unitIn s tier unit = true → s.store.held = [] →
      ∃ t, exec (.blockUnresponsive kind unit) s = .next t ∧ unitIn t tier unit = false ∧ t.store.mem = s.store.mem ∧
        ∀ k p, Tbl.find s.store.pages k = some p → isMoving s k = false → Tbl.find t.store.pages k =
          some (if p.tier = tier ∧ p.unit = unit then { p with phase := .lost } else p))) ∧
  (∀ (s : State) (k : Nat), awake s → (s.store.pages.map (·.1)).Nodup →
    ((4 ≤ k ∨ k ∈ s.units.regionsOut) → s.boot.readyN = true → exec (.regionIsolated k) s = .next s) ∧
    (k < 4 → k ∉ s.units.regionsOut → s.store.held = [] → ∃ t, exec (.regionIsolated k) s = .next t ∧
      t.units.regionsOut = s.units.regionsOut ++ [k] ∧ t.units.d2d = (s.units.d2d.set (2 * k) 0).set (2 * k + 1) 0 ∧
      (∀ tier u, tierRegion tier u = k → unitIn t tier u = false) ∧ (∀ c, clusterRegion c = k → clusterIn t c = false) ∧
      t.store.mem = s.store.mem ∧
      ∀ i p, Tbl.find s.store.pages i = some p → isMoving s i = false → Tbl.find t.store.pages i =
        some (if tierRegion p.tier p.unit = k then { p with phase := .lost } else p))) ∧
  (∀ (s : State) (die : Nat), awake s →
    ((2 ≤ die ∨ die ∈ s.units.eDiesOut) → s.boot.readyN = true → exec (.eDieFailure die) s = .next s) ∧
    (die < 2 → die ∉ s.units.eDiesOut → ∃ t, exec (.eDieFailure die) s = .next t ∧
      t.units.eDiesOut = s.units.eDiesOut ++ [die] ∧ (∀ c, clusterDie c = die → clusterIn t c = false) ∧
      (∀ c, clusterDie c ≠ die → clusterIn t c = clusterIn s c) ∧
      (∀ n ∈ [8 + die, 10, die, 2 + die, 4 + die, 6 + die], (t.units.d2d[n]?).getD 0 = 0) ∧ t.store = s.store)) ∧
  (∀ s : State, awake s → exec .xDieFailure s = .next { s with
    units := { s.units with xDieOut := true, cxlPorts := List.replicate 4 false }
    fabric := { s.fabric with ports := s.fabric.ports.map (fun p => { p with up := false, training := false, inService := false }) }
    cxl := { s.cxl with links := s.cxl.links.map (fun l =>
      { l with up := false, width := 0, rate := 0, ide := false, keyed := false }) }
    boot := { s.boot with fnReady := 0, readyN := false }, flush := { s.flush with area := none } }) ∧
  (∀ (s : State) (kind : UnitKind) (port cause : Nat), awake s →
    (portBlockIn s kind port = false → s.boot.readyN = true → exec (.portFailed kind port cause) s = .next s) ∧
    (portBlockIn s kind port = true → (kind = .ifl → port < s.fabric.ports.length) → ∃ t, exec (.portFailed kind port cause) s = .next t ∧ portBlockIn t kind port = false ∧
      (kind = .cxl → t.units.cxlPorts = s.units.cxlPorts.set port false ∧
        (2 * port + 1 < s.cxl.links.length → (cxlLink t (2 * port)).up = false ∧ (cxlLink t (2 * port + 1)).up = false)) ∧
      (kind = .ifl → (portOf t port).up = false ∧ (portOf t port).inService = false) ∧
      t.store = s.store ∧ t.works = s.works ∧ t.comp = s.comp))

/-! ### Start-up (chapter 14) -/

/-- R485, R527 to R530: a lease gives the hub its address, and the manifest is asked for, or the files that are missing; blocks are taken in
order; a step that fails ends the attempt with its FW_STATE error and a record of the object's TYPE, and the next attempt waits twice as
long as the one before, up to 64 s; the manifest and the files are accepted in CLASS order when they match and pass R483, and the cores of
an accepted file run; where SVN_AUTO is set, each fused minimum rises to the SVN verified once every function is ready. A command
that comes in another phase of the fetch does nothing. -/
def Obligations.FirmwareFetchFollowsItsSteps : Prop :=
  (∀ (s : State) (address : Nat), awake s → s.boot.readyN = true →
    (s.boot.fwPhase ≠ 1 → exec (.dhcpLease address) s = .next s) ∧
    (s.boot.fwPhase = 1 → ∃ t, exec (.dhcpLease address) s = .next t ∧
      t = { s with outbox := t.outbox, boot := { s.boot with address := some address, fwPhase := t.boot.fwPhase, blocks := 0, fnReady := t.boot.fnReady } } ∧
      readyBit t 6 = true ∧ (∀ i, i ≠ 6 → readyBit t i = readyBit s i) ∧
      t.boot.fwPhase = (if 4 ∈ s.boot.fwAccepted then 4 else if 0 ∈ s.boot.fwAccepted then 3 else 2) ∧
      t.outbox = s.outbox ++ (if 4 ∈ s.boot.fwAccepted then [] else [.fetch t.boot.fwPhase]))) ∧
  (∀ (s : State) (c : Instr) (phases : List Nat) (error : Nat), awake s → s.faults.rings.length = 4 →
    (c, phases, error) ∈ [(Instr.noLease, [1], 1), (.tftpTimeout, [2, 3], 3), (.tftpError, [2, 3], 2)] →
    (s.boot.fwPhase ∉ phases → exec c s = .next s) ∧
    (s.boot.fwPhase ∈ phases → ∃ t f, exec c s = .next t ∧
      t = { s with
        faults := t.faults
        boot := { s.boot with fwPhase := 5, fwError := error, fwAttempts := min 0xFFFF (s.boot.fwAttempts + 1), blocks := 0 } } ∧
      newestFault t 3 = some f ∧ f.code = 0x0601 ∧ (f.merged = 0 → f.addr = 2))) ∧
  (∀ (s : State) (block : Nat), awake s →
    (¬ (transferring s = true ∧ block % 65536 = (s.boot.blocks + 1) % 65536) → exec (.tftpBlock block) s = .next s) ∧
    (transferring s = true → block % 65536 = (s.boot.blocks + 1) % 65536 → exec (.tftpBlock block) s = .next { s with
      outbox := s.outbox ++ [.fetch s.boot.fwPhase], boot := { s.boot with blocks := s.boot.blocks + 1 } })) ∧
  (∀ (s : State) (cls : Nat) (file : FwFile), awake s → s.boot.readyN = true → s.faults.rings.length = 4 →
    ((transferring s = false ∨ cls ≠ s.boot.fwAccepted.length) → exec (.fwFileAccept cls file) s = .next s) ∧
    (transferring s = true → cls = s.boot.fwAccepted.length → cls ≤ 4 →
      (cls ≠ 0 ∧ (file.sizeOk = false ∨ file.hashOk = false) ∨ (failedCheck s (fileType cls) file.object).isSome →
        ∃ t f, exec (.fwFileAccept cls file) s = .next t ∧
          t = { s with
            faults := t.faults
            boot := { s.boot with fwPhase := 5, fwError := t.boot.fwError, fwAttempts := min 0xFFFF (s.boot.fwAttempts + 1), blocks := 0 } } ∧
          t.boot.fwError = (if cls ≠ 0 ∧ (file.sizeOk = false ∨ file.hashOk = false) then 4
            else if failedCheck s (fileType cls) file.object = some 5 then 6 else 5) ∧
          newestFault t 3 = some f ∧ f.code = 0x0601 ∧ (f.merged = 0 → f.addr = if cls = 1 then 4 else 2)) ∧
      (cls = 0 → failedCheck s 2 file.object = none → ∃ t, exec (.fwFileAccept cls file) s = .next t ∧
        t = { s with
          outbox := s.outbox ++ [.fetch 3]
          boot := { s.boot with
            fwAccepted := [0], fwPhase := 3, blocks := 0, fwMajor := file.major, fwMinor := file.minor, verified := t.boot.verified } }) ∧
      (cls ≠ 0 → file.sizeOk = true → file.hashOk = true → failedCheck s (fileType cls) file.object = none →
        ∃ t, exec (.fwFileAccept cls file) s = .next t ∧ t.boot.fwAccepted = s.boot.fwAccepted ++ [cls] ∧
          t.boot.fwPhase = (if cls = 4 then 4 else s.boot.fwPhase) ∧
          ∀ i ∈ classCores cls, i < s.power.cores.length → coreRuns t i = true))) ∧
  (∀ s : State, awake s →
    (s.boot.fwPhase ≠ 5 → exec .fetchBackoff s = .next s) ∧
    (s.boot.fwPhase = 5 → ∃ t, exec .fetchBackoff s = .next t ∧
      t = { s with
        outbox := t.outbox
        boot := { s.boot with backoffS := min 64 (2 * s.boot.backoffS), fwPhase := fetchPhase s, blocks := 0 } } ∧
      t.outbox = s.outbox ++ (if fetchPhase s = 4 then [] else [.fetch (fetchPhase s)]))) ∧
  (∀ s : State, awake s →
    let due := (s.boot.image.any (·.svnAuto)) = true ∧ ∀ i, i < 128 → namesInService s i = true → readyBit s i = true
    (¬ due → exec .svnAutoRaise s = .next s) ∧
    (due → ∃ t, exec .svnAutoRaise s = .next t ∧ t = { s with sec := { s.sec with svnMin := t.sec.svnMin } } ∧
      (∀ typ, Tbl.at s.sec.svnMin typ 0 ≤ Tbl.at t.sec.svnMin typ 0) ∧
      (∀ typ svn, (typ, svn) ∈ s.boot.verified → svn ≤ Tbl.at t.sec.svnMin typ 0) ∧
      ∀ typ, Tbl.at t.sec.svnMin typ 0 = Tbl.at s.sec.svnMin typ 0 ∨ (typ, Tbl.at t.sec.svnMin typ 0) ∈ s.boot.verified))

/-- R513, R518 to R522, R531 to R532, R208, R212, R458: power-up samples the straps, finds the board and counts BOOT_GEN; a slot is checked in the
order of the boot directory, a valid image is loaded, and a hub without one says so after the second slot; a unit that completes training
sets its READY_VEC bit, and one that does not stays out of service; an intact flush is restored once its journals are ready. A command
that does not come in turn does nothing. -/
def Obligations.StartUpChecksSlotsAndUnits : Prop :=
  (∀ (s : State) (straps : Nat) (board : Board),
    (s.pins.pwrGood = true → exec (.pwrGoodRise straps board) s = .next s) ∧
    (s.pins.pwrGood = false → ∃ t, exec (.pwrGoodRise straps board) s = .next t ∧
      t = { s with
        now := 0, free := t.free, outbox := t.outbox, faults := t.faults, journals := t.journals, sec := t.sec
        pins := { s.pins with pwrGood := true, slotLive := straps % 16, slotId := straps % 16, released := s.pins.resetPin }
        units := { Units.fitted board with xDieOut := s.units.xDieOut }, boot := { s.boot with active := bootActive s.boot }
        flush := { s.flush with broken := false, last := if s.flush.area = none ∧ s.flush.broken = true then 2 else 0 }
        comp := { s.comp with bootGen := s.comp.bootGen + 1 }, fabric := { s.fabric with ports := t.fabric.ports } } ∧
      t.sec.nextLeaf = (leafAtStart s.sec).nextLeaf ∧ t.sec.svnMin = s.sec.svnMin ∧ t.sec.ownerSet = s.sec.ownerSet)) ∧
  (∀ (s : State) (slotB : Bool) (read : SlotRead), awake s →
    ((s.boot.state ≠ 0 ∨ flag slotB ≠ nextSlot s) → exec (.slotCheck slotB read) s = .next s) ∧
    (s.boot.state = 0 → flag slotB = nextSlot s →
      ((slotResult s read).1 ≠ 1 → s.faults.rings.length = 4 → ∃ t f, exec (.slotCheck slotB read) s = .next t ∧
        t = { s with faults := t.faults, boot := t.boot } ∧
        t.boot = { s.boot with
          resultA := if slotB then s.boot.resultA else (slotResult s read).1, resultB := if slotB then (slotResult s read).1 else s.boot.resultB
          state := if flag slotB = s.boot.active then 0 else 2, readyN := if flag slotB = s.boot.active then s.boot.readyN else false } ∧
        newestFault t 3 = some f ∧ f.code = 0x0601 ∧ (f.merged = 0 → f.addr = 1 ∧ f.arg = (slotResult s read).2)) ∧
      (∀ o i, read = .object o i → (slotResult s read).1 = 1 → ∃ t, exec (.slotCheck slotB read) s = .next t ∧
        t.boot.state = 1 ∧ t.boot.image = some i ∧ t.boot.slotUsed = flag slotB ∧ t.boot.active = s.boot.active))) ∧
  (∀ (s : State) (unit : ReadyUnit) (k : UnitKind) (tier : Tier) (u bit : Nat), awake s →
    (unit, k, tier, bit) ∈ [(ReadyUnit.hbm u, UnitKind.hbm, Tier.near, 16 + u), (.ddr u, .ddr, .far, 24 + u), (.flash u, .flash, .deep, 36 + u)] →
    u < tierUnits tier → unitIn s tier u = true →
    (∃ t, exec (.unitReady unit) s = .next t ∧ readyBit t bit = true) ∧
    (readyBit s bit = false → ∃ t, exec (.unitTrainTimeout k u) s = .next t ∧ unitIn t tier u = false)) ∧
  (∀ (s : State) (k : Nat), awake s →
    (∀ w r, 8 > k → s.boot.state = 1 → namesInService s (8 + k) = true → (cxlLink s k).up = false → w ∈ [1, 2, 4, 8, 16] → w ≤ builtWidth s k → r ≤ 2 →
      k < s.cxl.links.length → ∃ t, exec (.unitReady (.cxl k w r)) s = .next t ∧ readyBit t (8 + k) = true) ∧
    (readyBit s 4 = true → ∃ t, exec (.unitReady .clusters) s = .next t ∧
      ∀ c, c < 32 → clusterIn s c = true → coreRuns s (3 + c) = true → readyBit t (68 + c) = true) ∧
    (k < 4 → copiesReady s k = true → ∃ t, exec (.unitReady (.journal k)) s = .next t ∧ readyBit t (112 + k) = true) ∧
    (s.boot.state = 1 → s.boot.address ≠ none → ∃ t, exec (.unitReady .mgmtAddress) s = .next t ∧ readyBit t 6 = true) ∧
    (portBlockIn s .cxl k = true → readyBit s (8 + 2 * k) = false → readyBit s (9 + 2 * k) = false →
      ∃ t, exec (.unitTrainTimeout .cxl k) s = .next t ∧ portBlockIn t .cxl k = false)) ∧
  (∀ s : State, awake s →
    ((s.flush.area = none ∨ restoreDue s = false) → exec .flushRestore s = .next s) ∧
    (∀ f, s.flush.area = some f → restoreDue s = true → ∃ t, exec .flushRestore s = .next t ∧
      t.flush = { s.flush with area := none, last := 1 } ∧
      t.works = (f.works.filter (fun w => keptQueue s f w.queue)).map (fun w => { w with restored := true })))

/-! ### Firmware cores, power and calibration (chapters 13 to 15) -/

/-- R506, R507, R536 to R539, R544, R545, R554 to R556, R559, R599: a watchdog, a trap or an ECC error restarts a core that runs, the third restart within
60 s fails it, and so does a restart that does not end; a restart keeps every queue, journal and page. The package loop lowers
VDD_ENG, then the admission fractions, and raises them in the other order; a hot region admits less; the setpoint stays between its
floor and VMAX; the power guard halves the fractions. Windows publish their counts, a calibration override and a sensor that goes are
recorded. (The 50 mV step of the package loop is the model's: see the assumption log.) -/
def Obligations.CoresRestartAndLoopsAct : Prop :=
  (∀ (s : State) (c : Instr) (core cause : Nat), awake s → (c, cause) ∈ [(Instr.watchdogExpiry core, 1), (.coreTrap core, 2), (.coreEccError core, 3)] →
    (((coreAt s core).run = .notLoaded ∨ (coreAt s core).run = .failed) → s.boot.readyN = true → exec c s = .next s) ∧
    (core < s.power.cores.length → (coreAt s core).run ≠ .notLoaded → (coreAt s core).run ≠ .failed → ∃ t, exec c s = .next t ∧
      (coreAt t core).run = (if 2 ≤ ((coreAt s core).recent.filter (fun x => decide (s.now < x + 60000000000))).length then .failed else .restarting) ∧
      (coreAt t core).restarts = min 0xFFFF ((coreAt s core).restarts + 1) ∧ (coreAt t core).cause = cause ∧
      (∀ i, i ≠ core → coreAt t i = coreAt s i) ∧ t.queues = s.queues ∧ t.journals = s.journals ∧ t.store = s.store ∧ t.comp = s.comp)) ∧
  (∀ (s : State) (core : Nat), awake s →
    ((coreAt s core).run ≠ .restarting → exec (.coreRestartTimeout core) s = .next s ∧ exec (.coreRestartDone core) s = .next s) ∧
    ((coreAt s core).run = .restarting → core < s.power.cores.length →
      (∃ t, exec (.coreRestartTimeout core) s = .next t ∧ (coreAt t core).run = .failed ∧ t.queues = s.queues ∧ t.journals = s.journals ∧
        t.store = s.store) ∧
      ∃ t, exec (.coreRestartDone core) s = .next t ∧ (coreAt t core).run = .running)) ∧
  (∀ (s : State) (watts : Nat) (below : Bool), awake s → ∃ t, exec (.packagePowerCap watts below) s = .next t ∧ t = { s with power := t.power } ∧
    let beyond := coreRuns s powerCore = true ∧ limitW s < watts
    let under := coreRuns s powerCore = true ∧ watts ≤ limitW s ∧ below = true ∧ watts * 100 ≤ limitW s * 95
    let low := ∃ a ∈ s.power.fractions, a < 64
    t.power.target =
      (if beyond ∧ vddFloor s < s.power.target then min (vMax s) (max (vddFloor s) (s.power.target - 50))
       else if under ∧ ¬ low then min (vMax s) (max (vddFloor s) (s.power.target + 10)) else s.power.target) ∧
    t.power.fractions =
      (if beyond ∧ s.power.target ≤ vddFloor s then s.power.fractions.map (fun a => min 64 (max 1 (a - 4)))
       else if under ∧ low then s.power.fractions.map (fun a => min 64 (max 1 (a + 4))) else s.power.fractions)) ∧
  (∀ (s : State) (region : Nat) (temps : List Nat), awake s →
    (hottestOf s region temps = none → exec (.regionThermal region temps) s = .next s) ∧
    (∀ deg n, hottestOf s region temps = some (deg, n) → ∃ t, exec (.regionThermal region temps) s = .next t ∧ t = { s with power := t.power } ∧
      t.power.hottest = s.power.hottest.set region deg ∧ t.power.sensor = s.power.sensor.set region n ∧
      t.power.fractions = (if coreRuns s powerCore = true ∧ tjTarget s < deg then s.power.fractions.modify region (fun a => min 64 (max 1 (a - 1)))
        else if coreRuns s powerCore = true ∧ deg + 3 ≤ tjTarget s then s.power.fractions.modify region (fun a => min 64 (max 1 (a + 1)))
        else s.power.fractions) ∧
      t.power.target = (if coreRuns s powerCore = true ∧ tjTarget s + 5 < deg then min (vMax s) (max (vddFloor s) (s.power.target - 10))
        else s.power.target))) ∧
  (∀ (s : State) (watts : Nat), awake s →
    (∃ t, exec .railTracking s = .next t ∧
      if coreRuns s powerCore then
        t = { s with power := t.power, outbox := s.outbox ++ [.avs t.power.target] } ∧ t.power.vddMv = t.power.target ∧
          t.power.target = min (vMax s) (max (vddFloor s) s.power.target)
      else t = s) ∧
    ∃ t, exec (.powerGuard watts) s = .next t ∧ t = { s with power := t.power } ∧
      t.power.fractions = (if s.power.guard = true ∧ limitW s * 105 < watts * 100 then s.power.fractions.map (fun a => min 64 (max 1 (a / 2))) else s.power.fractions)) ∧
  (∀ (s : State) (watts : Nat) (rails : List (Nat × Nat)) (counts : List (Nat × List Nat)), awake s →
    exec (.powerTelemetryWindow watts rails) s = .next { s with
      sec := { s.sec with power := watts / (if s.sec.saffronOn then 8 else 4), coarse := s.sec.saffronOn }
      power := { s.power with
        rails := rails.map (fun r => (r.1, r.2 / (if s.sec.saffronOn then 8 else 4))), shownPwr := pwrState s
        shownTherm := [thermState s 0, thermState s 1, thermState s 2, thermState s 3] } } ∧
    ∃ t, exec (.perfWindow counts) s = .next t ∧
      t = { s with sec := { s.sec with perf := t.sec.perf, window := (s.now / 1000000 - 1) % 2 ^ 32 } } ∧
      ((counts.map (·.1)).Nodup → ∀ c l, (c, l) ∈ counts → ∀ i, i < 8 →
        Tbl.at t.sec.perf (8 * c + i) 0 = min 255 (256 * (l[i]?).getD 0 / perfScale i))) ∧
  (∀ (s : State) (drifts : List (Nat × Nat × Int)) (cause sensor : Nat), awake s → s.faults.rings.length = 4 →
    (∃ t, exec (.calTrack drifts) s = .next t ∧ t = { s with boot := { s.boot with drift := t.boot.drift } } ∧
      ((drifts.map (fun d => (d.1, d.2.1))).Nodup → ∀ item inst d, (item, inst, d) ∈ drifts → (∀ x ∈ drifts, x.2.1 < 256) →
        Tbl.at t.boot.drift (calKey item inst) 0 = d)) ∧
    ((hasCal s = false ∨ s.boot.calRaised = true) → exec (.calOverride cause) s = .next s) ∧
    (hasCal s = true → s.boot.calRaised = false → ∃ t f, exec (.calOverride cause) s = .next t ∧
      t = { s with
        outbox := t.outbox, faults := t.faults, power := t.power, cxl := { s.cxl with lds := t.cxl.lds }
        boot := { s.boot with calRaised := true, calCause := cause, calCount := min 0xFFFF (s.boot.calCount + 1) } } ∧
      newestFault t (faultClass 0x0504).1 = some f ∧ f.code = 0x0504 ∧ (f.merged = 0 → f.arg = cause)) ∧
    (∃ t, exec .calOverrideClear s = .next t ∧
      t = { s with outbox := t.outbox, cxl := { s.cxl with lds := t.cxl.lds }, boot := { s.boot with calRaised := false } }) ∧
    ((48 ≤ sensor ∨ sensor ∈ s.units.sensorsOut) → exec (.sensorOut sensor) s = .next s) ∧
    (sensor < 48 → sensor ∉ s.units.sensorsOut → ∃ t f, exec (.sensorOut sensor) s = .next t ∧
      t = { s with
        outbox := t.outbox, faults := t.faults, power := t.power, cxl := { s.cxl with lds := t.cxl.lds }
        units := { s.units with sensorsOut := s.units.sensorsOut ++ [sensor] } } ∧
      newestFault t (faultClass 0x0503).1 = some f ∧ f.code = 0x0503 ∧ f.kind = .sensor ∧ f.inst = sensor))

/-! ### Resets and power loss (chapters 05, 07 and 14) -/

/-- R209 to R211, R329, R488, R503, R513, R521, R524, R557, R589, R590, R600: PWR_FAIL_N and THERMTRIP stop the hub, run every open entry again from its
journal, and flush; the flush ends with what it may restore, and a reset that waited follows. A warm reset clears all READY_VEC bits but
the first three at its fall and keeps queues and memory; its rise samples the straps. The fall of PWR_GOOD leaves the deep RESIDENT pages
with their bytes, the boot flash and the fuses. A pin that has the level already changes nothing. -/
def Obligations.ResetsAndPowerLossKeepWhatTheyMay : Prop :=
  (∀ s : State,
    (s.pins.pwrGood = false → exec .pwrGoodFall s = .next s) ∧
    (s.pins.pwrGood = true → (s.store.pages.map (·.1)).Nodup → ∃ t, exec .pwrGoodFall s = .next t ∧ t.pins.pwrGood = false ∧ t.works = [] ∧
      t.queues = State.reset.queues ∧ t.ctrl = State.reset.ctrl ∧ t.comp.live = State.reset.comp.live ∧
      (∀ k p, Tbl.find t.store.pages k = some p ↔ Tbl.find s.store.pages k = some p ∧ p.tier = .deep ∧ p.phase = .resident) ∧
      (∀ a, memByte t.store.mem a = if (Tbl.find t.store.pages (a / Config.pageBytes)).isSome then memByte s.store.mem a else 0) ∧
      t.boot = { State.reset.boot with dir0 := s.boot.dir0, dir1 := s.boot.dir1, slots := s.boot.slots } ∧
      t.flush.area = s.flush.area ∧ t.comp.record = s.comp.record ∧ t.comp.bootGen = s.comp.bootGen ∧ t.sec.svnMin = s.sec.svnMin ∧
      t.sec.ownerSet = s.sec.ownerSet ∧ t.sec.revoked = s.sec.revoked ∧ t.sec.nextLeaf = s.sec.nextLeaf)) ∧
  (∀ s : State,
    exec .pwrFailNRise s = .next { s with pins := { s.pins with pwrFailN := true } } ∧
    (s.pins.pwrFailN = false → exec .pwrFailNFall s = .next s) ∧
    ((s.pins.pwrGood = false ∨ s.units.xDieOut = true ∨ s.pins.thermtrip = true) → ∀ sensor, exec (.thermtrip sensor) s = .next s) ∧
    (s.pins.pwrGood = true → s.units.xDieOut = false → s.pins.failing = false →
      ∀ (c : Instr) (pins : Pins), (c = .pwrFailNFall ∧ s.pins.pwrFailN = true ∧ pins = { s.pins with pwrFailN := false, pwrFailSeen := true, failing := true }) ∨
        ((∃ sensor, c = .thermtrip sensor) ∧ s.pins.thermtrip = false ∧ pins = { s.pins with thermtrip := true, failing := true }) →
      ∃ t, exec c s = .next t ∧ t.pins = pins ∧ t.boot = { s.boot with readyN := false } ∧
        t.flush = { s.flush with running := true, done := false } ∧ t.works = s.works.map rerun ∧ t.queues = s.queues ∧ t.store = s.store ∧
        t.journals = s.journals.map (fun j => { j with replay := hasCopy j }) ∧
        ∀ x ∈ t.units.clusters, x.inFlight = [] ∧ x.placed = [] ∧ x.shape = none)) ∧
  (∀ s : State,
    (s.flush.running = false → exec .flushDone s = .next s) ∧
    (s.flush.running = true → ∃ t, exec .flushDone s = .next t ∧ t.pins.resetLatched = false ∧
      (s.pins.resetLatched = true → t.pins.hubResetN = s.pins.resetPin) ∧
      (s.pins.resetLatched = false → t = { s with flush := t.flush } ∧ t.flush.running = false ∧ t.flush.done = true ∧
        t.flush.area = (if s.flush.area ≠ none ∧ s.flush.fresh = false then s.flush.area
          else if 28 ≤ ((List.range 32).filter (fun u => unitIn s .deep u)).length then
            (if s.boot.applied then some (flushContent s) else s.flush.area)
          else none)))) ∧
  (∀ s : State,
    (s.pins.resetPin = false → exec .hubResetNFall s = .next s) ∧
    (s.pins.resetPin = true →
      ((s.pins.pwrGood = false ∨ s.units.xDieOut = true ∨ s.pins.released = false) →
        exec .hubResetNFall s = .next { s with pins := { s.pins with resetPin := false, hubResetN := false } }) ∧
      (s.pins.pwrGood = true → s.units.xDieOut = false → s.pins.released = true →
        (s.flush.running = true → exec .hubResetNFall s = .next { s with pins := { s.pins with resetPin := false, resetLatched := true } }) ∧
        (s.flush.running = false → ∃ t, exec .hubResetNFall s = .next t ∧
          t.pins = { s.pins with resetPin := false, hubResetN := false, resetLatched := false } ∧
          t.works = s.works.map rerun ∧ t.queues = s.queues ∧ t.store.mem = s.store.mem ∧ t.boot.readyN = false ∧
          (∀ i, readyBit t i = (decide (i < 3) && readyBit s i)) ∧ t.comp.record = s.comp.record ∧ t.ctrl = s.ctrl)))) ∧
  (∀ (s : State) (straps : Nat),
    (s.pins.resetPin = true → exec (.hubResetNRise straps) s = .next s) ∧
    (s.pins.resetPin = false →
      ((s.pins.pwrGood = false ∨ s.units.xDieOut = true) →
        exec (.hubResetNRise straps) s = .next { s with pins := { s.pins with resetPin := true, hubResetN := true, slotLive := straps % 16 } }) ∧
      (s.pins.pwrGood = true → s.units.xDieOut = false →
        (s.pins.released = false → exec (.hubResetNRise straps) s = .next { s with
          now := 0
          pins := { s.pins with
            resetPin := true, hubResetN := true, released := true, slotLive := straps % 16, slotId := straps % 16, perst := [] } }) ∧
        (s.pins.released = true → s.flush.running = true → exec (.hubResetNRise straps) s = .next { s with
          pins := { s.pins with resetPin := true, resetLatched := true, slotLive := straps % 16 } }) ∧
        (s.pins.released = true → s.flush.running = false → ∃ t, exec (.hubResetNRise straps) s = .next t ∧
          t.pins = { s.pins with
            resetPin := true, hubResetN := true, failing := false, resetLatched := false, slotLive := straps % 16, slotId := straps % 16, perst := [] }))))

/-! ### What every step keeps -/

/-- Whatever the command and whatever the state, a step keeps memory in its canonical form, so that equal memories are equal data, keeps
one ring of fault records for each of the four levels (R566), and keeps every admission fraction from 1/64 to 64/64 (R556). -/
def Obligations.EveryStepKeepsSane : Prop :=
  ∀ s t : State, Sane s → step s = .next t → Sane t

/-- The state after reset meets what every step keeps, and nothing waits in it: an empty queue of commands, no descriptor, no byte of
memory listed (the reset values that the spec does not state are the model's: see the assumption log). -/
def Obligations.ResetIsSane : Prop :=
  Sane State.reset ∧ State.reset.pending = [] ∧ State.reset.works = [] ∧ State.reset.store.mem = [] ∧ State.reset.queues = [] ∧
    State.reset.outbox = []
end

