-- ==== Sys2Proof/Laws/State.lean ====
section
/-! SUPPORT. What each update of the state leaves unchanged: one lemma per field and per update, and what the update
writes. -/

namespace Sys2Proof.Machine

open Sys2Proof

/-! ### emit -/

@[simp] theorem emit_pending (s : State) (o : Out) : (emit s o).pending = s.pending := rfl
@[simp] theorem emit_now (s : State) (o : Out) : (emit s o).now = s.now := rfl
@[simp] theorem emit_free (s : State) (o : Out) : (emit s o).free = s.free := rfl
@[simp] theorem emit_outbox (s : State) (o : Out) : (emit s o).outbox = s.outbox ++ [o] := rfl
@[simp] theorem emit_pins (s : State) (o : Out) : (emit s o).pins = s.pins := rfl
@[simp] theorem emit_faults (s : State) (o : Out) : (emit s o).faults = s.faults := rfl
@[simp] theorem emit_units (s : State) (o : Out) : (emit s o).units = s.units := rfl
@[simp] theorem emit_boot (s : State) (o : Out) : (emit s o).boot = s.boot := rfl
@[simp] theorem emit_ctrl (s : State) (o : Out) : (emit s o).ctrl = s.ctrl := rfl
@[simp] theorem emit_ldRegs (s : State) (o : Out) : (emit s o).ldRegs = s.ldRegs := rfl
@[simp] theorem emit_mailbox (s : State) (o : Out) : (emit s o).mailbox = s.mailbox := rfl
@[simp] theorem emit_calSel (s : State) (o : Out) : (emit s o).calSel = s.calSel := rfl
@[simp] theorem emit_queues (s : State) (o : Out) : (emit s o).queues = s.queues := rfl
@[simp] theorem emit_works (s : State) (o : Out) : (emit s o).works = s.works := rfl
@[simp] theorem emit_stamp (s : State) (o : Out) : (emit s o).stamp = s.stamp := rfl
@[simp] theorem emit_journals (s : State) (o : Out) : (emit s o).journals = s.journals := rfl
@[simp] theorem emit_receipts (s : State) (o : Out) : (emit s o).receipts = s.receipts := rfl
@[simp] theorem emit_strips (s : State) (o : Out) : (emit s o).strips = s.strips := rfl
@[simp] theorem emit_flush (s : State) (o : Out) : (emit s o).flush = s.flush := rfl
@[simp] theorem emit_tlbs (s : State) (o : Out) : (emit s o).tlbs = s.tlbs := rfl
@[simp] theorem emit_invs (s : State) (o : Out) : (emit s o).invs = s.invs := rfl
@[simp] theorem emit_store (s : State) (o : Out) : (emit s o).store = s.store := rfl
@[simp] theorem emit_order (s : State) (o : Out) : (emit s o).order = s.order := rfl
@[simp] theorem emit_embed (s : State) (o : Out) : (emit s o).embed = s.embed := rfl
@[simp] theorem emit_fabric (s : State) (o : Out) : (emit s o).fabric = s.fabric := rfl
@[simp] theorem emit_cxl (s : State) (o : Out) : (emit s o).cxl = s.cxl := rfl
@[simp] theorem emit_comp (s : State) (o : Out) : (emit s o).comp = s.comp := rfl
@[simp] theorem emit_sec (s : State) (o : Out) : (emit s o).sec = s.sec := rfl
@[simp] theorem emit_power (s : State) (o : Out) : (emit s o).power = s.power := rfl

/-! ### emitAll -/

@[simp] theorem emitAll_pending (s : State) (os : List Out) : (emitAll s os).pending = s.pending := rfl
@[simp] theorem emitAll_now (s : State) (os : List Out) : (emitAll s os).now = s.now := rfl
@[simp] theorem emitAll_free (s : State) (os : List Out) : (emitAll s os).free = s.free := rfl
@[simp] theorem emitAll_outbox (s : State) (os : List Out) : (emitAll s os).outbox = s.outbox ++ os := rfl
@[simp] theorem emitAll_pins (s : State) (os : List Out) : (emitAll s os).pins = s.pins := rfl
@[simp] theorem emitAll_faults (s : State) (os : List Out) : (emitAll s os).faults = s.faults := rfl
@[simp] theorem emitAll_units (s : State) (os : List Out) : (emitAll s os).units = s.units := rfl
@[simp] theorem emitAll_boot (s : State) (os : List Out) : (emitAll s os).boot = s.boot := rfl
@[simp] theorem emitAll_ctrl (s : State) (os : List Out) : (emitAll s os).ctrl = s.ctrl := rfl
@[simp] theorem emitAll_ldRegs (s : State) (os : List Out) : (emitAll s os).ldRegs = s.ldRegs := rfl
@[simp] theorem emitAll_mailbox (s : State) (os : List Out) : (emitAll s os).mailbox = s.mailbox := rfl
@[simp] theorem emitAll_calSel (s : State) (os : List Out) : (emitAll s os).calSel = s.calSel := rfl
@[simp] theorem emitAll_queues (s : State) (os : List Out) : (emitAll s os).queues = s.queues := rfl
@[simp] theorem emitAll_works (s : State) (os : List Out) : (emitAll s os).works = s.works := rfl
@[simp] theorem emitAll_stamp (s : State) (os : List Out) : (emitAll s os).stamp = s.stamp := rfl
@[simp] theorem emitAll_journals (s : State) (os : List Out) : (emitAll s os).journals = s.journals := rfl
@[simp] theorem emitAll_receipts (s : State) (os : List Out) : (emitAll s os).receipts = s.receipts := rfl
@[simp] theorem emitAll_strips (s : State) (os : List Out) : (emitAll s os).strips = s.strips := rfl
@[simp] theorem emitAll_flush (s : State) (os : List Out) : (emitAll s os).flush = s.flush := rfl
@[simp] theorem emitAll_tlbs (s : State) (os : List Out) : (emitAll s os).tlbs = s.tlbs := rfl
@[simp] theorem emitAll_invs (s : State) (os : List Out) : (emitAll s os).invs = s.invs := rfl
@[simp] theorem emitAll_store (s : State) (os : List Out) : (emitAll s os).store = s.store := rfl
@[simp] theorem emitAll_order (s : State) (os : List Out) : (emitAll s os).order = s.order := rfl
@[simp] theorem emitAll_embed (s : State) (os : List Out) : (emitAll s os).embed = s.embed := rfl
@[simp] theorem emitAll_fabric (s : State) (os : List Out) : (emitAll s os).fabric = s.fabric := rfl
@[simp] theorem emitAll_cxl (s : State) (os : List Out) : (emitAll s os).cxl = s.cxl := rfl
@[simp] theorem emitAll_comp (s : State) (os : List Out) : (emitAll s os).comp = s.comp := rfl
@[simp] theorem emitAll_sec (s : State) (os : List Out) : (emitAll s os).sec = s.sec := rfl
@[simp] theorem emitAll_power (s : State) (os : List Out) : (emitAll s os).power = s.power := rfl

/-! ### spend -/

@[simp] theorem spend_pending (s : State) (n : Nat) : (spend s n).pending = s.pending := rfl
@[simp] theorem spend_now (s : State) (n : Nat) : (spend s n).now = s.now := rfl
@[simp] theorem spend_free (s : State) (n : Nat) : (spend s n).free = s.free + n := rfl
@[simp] theorem spend_outbox (s : State) (n : Nat) : (spend s n).outbox = s.outbox := rfl
@[simp] theorem spend_pins (s : State) (n : Nat) : (spend s n).pins = s.pins := rfl
@[simp] theorem spend_faults (s : State) (n : Nat) : (spend s n).faults = s.faults := rfl
@[simp] theorem spend_units (s : State) (n : Nat) : (spend s n).units = s.units := rfl
@[simp] theorem spend_boot (s : State) (n : Nat) : (spend s n).boot = s.boot := rfl
@[simp] theorem spend_ctrl (s : State) (n : Nat) : (spend s n).ctrl = s.ctrl := rfl
@[simp] theorem spend_ldRegs (s : State) (n : Nat) : (spend s n).ldRegs = s.ldRegs := rfl
@[simp] theorem spend_mailbox (s : State) (n : Nat) : (spend s n).mailbox = s.mailbox := rfl
@[simp] theorem spend_calSel (s : State) (n : Nat) : (spend s n).calSel = s.calSel := rfl
@[simp] theorem spend_queues (s : State) (n : Nat) : (spend s n).queues = s.queues := rfl
@[simp] theorem spend_works (s : State) (n : Nat) : (spend s n).works = s.works := rfl
@[simp] theorem spend_stamp (s : State) (n : Nat) : (spend s n).stamp = s.stamp := rfl
@[simp] theorem spend_journals (s : State) (n : Nat) : (spend s n).journals = s.journals := rfl
@[simp] theorem spend_receipts (s : State) (n : Nat) : (spend s n).receipts = s.receipts := rfl
@[simp] theorem spend_strips (s : State) (n : Nat) : (spend s n).strips = s.strips := rfl
@[simp] theorem spend_flush (s : State) (n : Nat) : (spend s n).flush = s.flush := rfl
@[simp] theorem spend_tlbs (s : State) (n : Nat) : (spend s n).tlbs = s.tlbs := rfl
@[simp] theorem spend_invs (s : State) (n : Nat) : (spend s n).invs = s.invs := rfl
@[simp] theorem spend_store (s : State) (n : Nat) : (spend s n).store = s.store := rfl
@[simp] theorem spend_order (s : State) (n : Nat) : (spend s n).order = s.order := rfl
@[simp] theorem spend_embed (s : State) (n : Nat) : (spend s n).embed = s.embed := rfl
@[simp] theorem spend_fabric (s : State) (n : Nat) : (spend s n).fabric = s.fabric := rfl
@[simp] theorem spend_cxl (s : State) (n : Nat) : (spend s n).cxl = s.cxl := rfl
@[simp] theorem spend_comp (s : State) (n : Nat) : (spend s n).comp = s.comp := rfl
@[simp] theorem spend_sec (s : State) (n : Nat) : (spend s n).sec = s.sec := rfl
@[simp] theorem spend_power (s : State) (n : Nat) : (spend s n).power = s.power := rfl

/-! ### logPoint -/

@[simp] theorem logPoint_pending (s : State) (core level point arg : Nat) : (logPoint s core level point arg).pending = s.pending := rfl
@[simp] theorem logPoint_now (s : State) (core level point arg : Nat) : (logPoint s core level point arg).now = s.now := rfl
@[simp] theorem logPoint_free (s : State) (core level point arg : Nat) : (logPoint s core level point arg).free = s.free := rfl
@[simp] theorem logPoint_outbox (s : State) (core level point arg : Nat) : (logPoint s core level point arg).outbox = s.outbox := rfl
@[simp] theorem logPoint_pins (s : State) (core level point arg : Nat) : (logPoint s core level point arg).pins = s.pins := rfl
@[simp] theorem logPoint_faults (s : State) (core level point arg : Nat) : (logPoint s core level point arg).faults = s.faults := rfl
@[simp] theorem logPoint_units (s : State) (core level point arg : Nat) : (logPoint s core level point arg).units = s.units := rfl
@[simp] theorem logPoint_boot (s : State) (core level point arg : Nat) : (logPoint s core level point arg).boot = s.boot := rfl
@[simp] theorem logPoint_ctrl (s : State) (core level point arg : Nat) : (logPoint s core level point arg).ctrl = s.ctrl := rfl
@[simp] theorem logPoint_ldRegs (s : State) (core level point arg : Nat) : (logPoint s core level point arg).ldRegs = s.ldRegs := rfl
@[simp] theorem logPoint_mailbox (s : State) (core level point arg : Nat) : (logPoint s core level point arg).mailbox = s.mailbox := rfl
@[simp] theorem logPoint_calSel (s : State) (core level point arg : Nat) : (logPoint s core level point arg).calSel = s.calSel := rfl
@[simp] theorem logPoint_queues (s : State) (core level point arg : Nat) : (logPoint s core level point arg).queues = s.queues := rfl
@[simp] theorem logPoint_works (s : State) (core level point arg : Nat) : (logPoint s core level point arg).works = s.works := rfl
@[simp] theorem logPoint_stamp (s : State) (core level point arg : Nat) : (logPoint s core level point arg).stamp = s.stamp := rfl
@[simp] theorem logPoint_journals (s : State) (core level point arg : Nat) : (logPoint s core level point arg).journals = s.journals := rfl
@[simp] theorem logPoint_receipts (s : State) (core level point arg : Nat) : (logPoint s core level point arg).receipts = s.receipts := rfl
@[simp] theorem logPoint_strips (s : State) (core level point arg : Nat) : (logPoint s core level point arg).strips = s.strips := rfl
@[simp] theorem logPoint_flush (s : State) (core level point arg : Nat) : (logPoint s core level point arg).flush = s.flush := rfl
@[simp] theorem logPoint_tlbs (s : State) (core level point arg : Nat) : (logPoint s core level point arg).tlbs = s.tlbs := rfl
@[simp] theorem logPoint_invs (s : State) (core level point arg : Nat) : (logPoint s core level point arg).invs = s.invs := rfl
@[simp] theorem logPoint_store (s : State) (core level point arg : Nat) : (logPoint s core level point arg).store = s.store := rfl
@[simp] theorem logPoint_order (s : State) (core level point arg : Nat) : (logPoint s core level point arg).order = s.order := rfl
@[simp] theorem logPoint_embed (s : State) (core level point arg : Nat) : (logPoint s core level point arg).embed = s.embed := rfl
@[simp] theorem logPoint_fabric (s : State) (core level point arg : Nat) : (logPoint s core level point arg).fabric = s.fabric := rfl
@[simp] theorem logPoint_cxl (s : State) (core level point arg : Nat) : (logPoint s core level point arg).cxl = s.cxl := rfl
@[simp] theorem logPoint_comp (s : State) (core level point arg : Nat) : (logPoint s core level point arg).comp = s.comp := rfl
@[simp] theorem logPoint_sec (s : State) (core level point arg : Nat) : (logPoint s core level point arg).sec = s.sec := rfl

/-! ### modPage -/

@[simp] theorem modPage_pending (s : State) (page : Nat) (f : Page → Page) : (modPage s page f).pending = s.pending := rfl
@[simp] theorem modPage_now (s : State) (page : Nat) (f : Page → Page) : (modPage s page f).now = s.now := rfl
@[simp] theorem modPage_free (s : State) (page : Nat) (f : Page → Page) : (modPage s page f).free = s.free := rfl
@[simp] theorem modPage_outbox (s : State) (page : Nat) (f : Page → Page) : (modPage s page f).outbox = s.outbox := rfl
@[simp] theorem modPage_pins (s : State) (page : Nat) (f : Page → Page) : (modPage s page f).pins = s.pins := rfl
@[simp] theorem modPage_faults (s : State) (page : Nat) (f : Page → Page) : (modPage s page f).faults = s.faults := rfl
@[simp] theorem modPage_units (s : State) (page : Nat) (f : Page → Page) : (modPage s page f).units = s.units := rfl
@[simp] theorem modPage_boot (s : State) (page : Nat) (f : Page → Page) : (modPage s page f).boot = s.boot := rfl
@[simp] theorem modPage_ctrl (s : State) (page : Nat) (f : Page → Page) : (modPage s page f).ctrl = s.ctrl := rfl
@[simp] theorem modPage_ldRegs (s : State) (page : Nat) (f : Page → Page) : (modPage s page f).ldRegs = s.ldRegs := rfl
@[simp] theorem modPage_mailbox (s : State) (page : Nat) (f : Page → Page) : (modPage s page f).mailbox = s.mailbox := rfl
@[simp] theorem modPage_calSel (s : State) (page : Nat) (f : Page → Page) : (modPage s page f).calSel = s.calSel := rfl
@[simp] theorem modPage_queues (s : State) (page : Nat) (f : Page → Page) : (modPage s page f).queues = s.queues := rfl
@[simp] theorem modPage_works (s : State) (page : Nat) (f : Page → Page) : (modPage s page f).works = s.works := rfl
@[simp] theorem modPage_stamp (s : State) (page : Nat) (f : Page → Page) : (modPage s page f).stamp = s.stamp := rfl
@[simp] theorem modPage_journals (s : State) (page : Nat) (f : Page → Page) : (modPage s page f).journals = s.journals := rfl
@[simp] theorem modPage_receipts (s : State) (page : Nat) (f : Page → Page) : (modPage s page f).receipts = s.receipts := rfl
@[simp] theorem modPage_strips (s : State) (page : Nat) (f : Page → Page) : (modPage s page f).strips = s.strips := rfl
@[simp] theorem modPage_flush (s : State) (page : Nat) (f : Page → Page) : (modPage s page f).flush = s.flush := rfl
@[simp] theorem modPage_tlbs (s : State) (page : Nat) (f : Page → Page) : (modPage s page f).tlbs = s.tlbs := rfl
@[simp] theorem modPage_invs (s : State) (page : Nat) (f : Page → Page) : (modPage s page f).invs = s.invs := rfl
@[simp] theorem modPage_store (s : State) (page : Nat) (f : Page → Page) : (modPage s page f).store = { s.store with pages := Tbl.alter s.store.pages page f } := rfl
@[simp] theorem modPage_order (s : State) (page : Nat) (f : Page → Page) : (modPage s page f).order = s.order := rfl
@[simp] theorem modPage_embed (s : State) (page : Nat) (f : Page → Page) : (modPage s page f).embed = s.embed := rfl
@[simp] theorem modPage_fabric (s : State) (page : Nat) (f : Page → Page) : (modPage s page f).fabric = s.fabric := rfl
@[simp] theorem modPage_cxl (s : State) (page : Nat) (f : Page → Page) : (modPage s page f).cxl = s.cxl := rfl
@[simp] theorem modPage_comp (s : State) (page : Nat) (f : Page → Page) : (modPage s page f).comp = s.comp := rfl
@[simp] theorem modPage_sec (s : State) (page : Nat) (f : Page → Page) : (modPage s page f).sec = s.sec := rfl
@[simp] theorem modPage_power (s : State) (page : Nat) (f : Page → Page) : (modPage s page f).power = s.power := rfl

/-! ### modQueue -/

@[simp] theorem modQueue_pending (s : State) (q : Nat) (f : Queue → Queue) : (modQueue s q f).pending = s.pending := rfl
@[simp] theorem modQueue_now (s : State) (q : Nat) (f : Queue → Queue) : (modQueue s q f).now = s.now := rfl
@[simp] theorem modQueue_free (s : State) (q : Nat) (f : Queue → Queue) : (modQueue s q f).free = s.free := rfl
@[simp] theorem modQueue_outbox (s : State) (q : Nat) (f : Queue → Queue) : (modQueue s q f).outbox = s.outbox := rfl
@[simp] theorem modQueue_pins (s : State) (q : Nat) (f : Queue → Queue) : (modQueue s q f).pins = s.pins := rfl
@[simp] theorem modQueue_faults (s : State) (q : Nat) (f : Queue → Queue) : (modQueue s q f).faults = s.faults := rfl
@[simp] theorem modQueue_units (s : State) (q : Nat) (f : Queue → Queue) : (modQueue s q f).units = s.units := rfl
@[simp] theorem modQueue_boot (s : State) (q : Nat) (f : Queue → Queue) : (modQueue s q f).boot = s.boot := rfl
@[simp] theorem modQueue_ctrl (s : State) (q : Nat) (f : Queue → Queue) : (modQueue s q f).ctrl = s.ctrl := rfl
@[simp] theorem modQueue_ldRegs (s : State) (q : Nat) (f : Queue → Queue) : (modQueue s q f).ldRegs = s.ldRegs := rfl
@[simp] theorem modQueue_mailbox (s : State) (q : Nat) (f : Queue → Queue) : (modQueue s q f).mailbox = s.mailbox := rfl
@[simp] theorem modQueue_calSel (s : State) (q : Nat) (f : Queue → Queue) : (modQueue s q f).calSel = s.calSel := rfl
@[simp] theorem modQueue_queues (s : State) (q : Nat) (f : Queue → Queue) : (modQueue s q f).queues = Tbl.change s.queues q Queue.unbound f := rfl
@[simp] theorem modQueue_works (s : State) (q : Nat) (f : Queue → Queue) : (modQueue s q f).works = s.works := rfl
@[simp] theorem modQueue_stamp (s : State) (q : Nat) (f : Queue → Queue) : (modQueue s q f).stamp = s.stamp := rfl
@[simp] theorem modQueue_journals (s : State) (q : Nat) (f : Queue → Queue) : (modQueue s q f).journals = s.journals := rfl
@[simp] theorem modQueue_receipts (s : State) (q : Nat) (f : Queue → Queue) : (modQueue s q f).receipts = s.receipts := rfl
@[simp] theorem modQueue_strips (s : State) (q : Nat) (f : Queue → Queue) : (modQueue s q f).strips = s.strips := rfl
@[simp] theorem modQueue_flush (s : State) (q : Nat) (f : Queue → Queue) : (modQueue s q f).flush = s.flush := rfl
@[simp] theorem modQueue_tlbs (s : State) (q : Nat) (f : Queue → Queue) : (modQueue s q f).tlbs = s.tlbs := rfl
@[simp] theorem modQueue_invs (s : State) (q : Nat) (f : Queue → Queue) : (modQueue s q f).invs = s.invs := rfl
@[simp] theorem modQueue_store (s : State) (q : Nat) (f : Queue → Queue) : (modQueue s q f).store = s.store := rfl
@[simp] theorem modQueue_order (s : State) (q : Nat) (f : Queue → Queue) : (modQueue s q f).order = s.order := rfl
@[simp] theorem modQueue_embed (s : State) (q : Nat) (f : Queue → Queue) : (modQueue s q f).embed = s.embed := rfl
@[simp] theorem modQueue_fabric (s : State) (q : Nat) (f : Queue → Queue) : (modQueue s q f).fabric = s.fabric := rfl
@[simp] theorem modQueue_cxl (s : State) (q : Nat) (f : Queue → Queue) : (modQueue s q f).cxl = s.cxl := rfl
@[simp] theorem modQueue_comp (s : State) (q : Nat) (f : Queue → Queue) : (modQueue s q f).comp = s.comp := rfl
@[simp] theorem modQueue_sec (s : State) (q : Nat) (f : Queue → Queue) : (modQueue s q f).sec = s.sec := rfl
@[simp] theorem modQueue_power (s : State) (q : Nat) (f : Queue → Queue) : (modQueue s q f).power = s.power := rfl

/-! ### modWork -/

@[simp] theorem modWork_pending (s : State) (q : Nat) (seq : Seq48) (f : Work → Work) : (modWork s q seq f).pending = s.pending := rfl
@[simp] theorem modWork_now (s : State) (q : Nat) (seq : Seq48) (f : Work → Work) : (modWork s q seq f).now = s.now := rfl
@[simp] theorem modWork_free (s : State) (q : Nat) (seq : Seq48) (f : Work → Work) : (modWork s q seq f).free = s.free := rfl
@[simp] theorem modWork_outbox (s : State) (q : Nat) (seq : Seq48) (f : Work → Work) : (modWork s q seq f).outbox = s.outbox := rfl
@[simp] theorem modWork_pins (s : State) (q : Nat) (seq : Seq48) (f : Work → Work) : (modWork s q seq f).pins = s.pins := rfl
@[simp] theorem modWork_faults (s : State) (q : Nat) (seq : Seq48) (f : Work → Work) : (modWork s q seq f).faults = s.faults := rfl
@[simp] theorem modWork_units (s : State) (q : Nat) (seq : Seq48) (f : Work → Work) : (modWork s q seq f).units = s.units := rfl
@[simp] theorem modWork_boot (s : State) (q : Nat) (seq : Seq48) (f : Work → Work) : (modWork s q seq f).boot = s.boot := rfl
@[simp] theorem modWork_ctrl (s : State) (q : Nat) (seq : Seq48) (f : Work → Work) : (modWork s q seq f).ctrl = s.ctrl := rfl
@[simp] theorem modWork_ldRegs (s : State) (q : Nat) (seq : Seq48) (f : Work → Work) : (modWork s q seq f).ldRegs = s.ldRegs := rfl
@[simp] theorem modWork_mailbox (s : State) (q : Nat) (seq : Seq48) (f : Work → Work) : (modWork s q seq f).mailbox = s.mailbox := rfl
@[simp] theorem modWork_calSel (s : State) (q : Nat) (seq : Seq48) (f : Work → Work) : (modWork s q seq f).calSel = s.calSel := rfl
@[simp] theorem modWork_queues (s : State) (q : Nat) (seq : Seq48) (f : Work → Work) : (modWork s q seq f).queues = s.queues := rfl
@[simp] theorem modWork_works (s : State) (q : Nat) (seq : Seq48) (f : Work → Work) : (modWork s q seq f).works = s.works.map (fun w => if w.queue == q && w.seq == seq then f w else w) := rfl
@[simp] theorem modWork_stamp (s : State) (q : Nat) (seq : Seq48) (f : Work → Work) : (modWork s q seq f).stamp = s.stamp := rfl
@[simp] theorem modWork_journals (s : State) (q : Nat) (seq : Seq48) (f : Work → Work) : (modWork s q seq f).journals = s.journals := rfl
@[simp] theorem modWork_receipts (s : State) (q : Nat) (seq : Seq48) (f : Work → Work) : (modWork s q seq f).receipts = s.receipts := rfl
@[simp] theorem modWork_strips (s : State) (q : Nat) (seq : Seq48) (f : Work → Work) : (modWork s q seq f).strips = s.strips := rfl
@[simp] theorem modWork_flush (s : State) (q : Nat) (seq : Seq48) (f : Work → Work) : (modWork s q seq f).flush = s.flush := rfl
@[simp] theorem modWork_tlbs (s : State) (q : Nat) (seq : Seq48) (f : Work → Work) : (modWork s q seq f).tlbs = s.tlbs := rfl
@[simp] theorem modWork_invs (s : State) (q : Nat) (seq : Seq48) (f : Work → Work) : (modWork s q seq f).invs = s.invs := rfl
@[simp] theorem modWork_store (s : State) (q : Nat) (seq : Seq48) (f : Work → Work) : (modWork s q seq f).store = s.store := rfl
@[simp] theorem modWork_order (s : State) (q : Nat) (seq : Seq48) (f : Work → Work) : (modWork s q seq f).order = s.order := rfl
@[simp] theorem modWork_embed (s : State) (q : Nat) (seq : Seq48) (f : Work → Work) : (modWork s q seq f).embed = s.embed := rfl
@[simp] theorem modWork_fabric (s : State) (q : Nat) (seq : Seq48) (f : Work → Work) : (modWork s q seq f).fabric = s.fabric := rfl
@[simp] theorem modWork_cxl (s : State) (q : Nat) (seq : Seq48) (f : Work → Work) : (modWork s q seq f).cxl = s.cxl := rfl
@[simp] theorem modWork_comp (s : State) (q : Nat) (seq : Seq48) (f : Work → Work) : (modWork s q seq f).comp = s.comp := rfl
@[simp] theorem modWork_sec (s : State) (q : Nat) (seq : Seq48) (f : Work → Work) : (modWork s q seq f).sec = s.sec := rfl
@[simp] theorem modWork_power (s : State) (q : Nat) (seq : Seq48) (f : Work → Work) : (modWork s q seq f).power = s.power := rfl

/-! ### openTx -/

@[simp] theorem openTx_pending (s : State) (node : Nat) (a : Await) (tenant addr len : Nat) : (openTx s node a tenant addr len).pending = s.pending := rfl
@[simp] theorem openTx_now (s : State) (node : Nat) (a : Await) (tenant addr len : Nat) : (openTx s node a tenant addr len).now = s.now := rfl
@[simp] theorem openTx_free (s : State) (node : Nat) (a : Await) (tenant addr len : Nat) : (openTx s node a tenant addr len).free = s.free := rfl
@[simp] theorem openTx_outbox (s : State) (node : Nat) (a : Await) (tenant addr len : Nat) : (openTx s node a tenant addr len).outbox = s.outbox := rfl
@[simp] theorem openTx_pins (s : State) (node : Nat) (a : Await) (tenant addr len : Nat) : (openTx s node a tenant addr len).pins = s.pins := rfl
@[simp] theorem openTx_faults (s : State) (node : Nat) (a : Await) (tenant addr len : Nat) : (openTx s node a tenant addr len).faults = s.faults := rfl
@[simp] theorem openTx_units (s : State) (node : Nat) (a : Await) (tenant addr len : Nat) : (openTx s node a tenant addr len).units = s.units := rfl
@[simp] theorem openTx_boot (s : State) (node : Nat) (a : Await) (tenant addr len : Nat) : (openTx s node a tenant addr len).boot = s.boot := rfl
@[simp] theorem openTx_ctrl (s : State) (node : Nat) (a : Await) (tenant addr len : Nat) : (openTx s node a tenant addr len).ctrl = s.ctrl := rfl
@[simp] theorem openTx_ldRegs (s : State) (node : Nat) (a : Await) (tenant addr len : Nat) : (openTx s node a tenant addr len).ldRegs = s.ldRegs := rfl
@[simp] theorem openTx_mailbox (s : State) (node : Nat) (a : Await) (tenant addr len : Nat) : (openTx s node a tenant addr len).mailbox = s.mailbox := rfl
@[simp] theorem openTx_calSel (s : State) (node : Nat) (a : Await) (tenant addr len : Nat) : (openTx s node a tenant addr len).calSel = s.calSel := rfl
@[simp] theorem openTx_queues (s : State) (node : Nat) (a : Await) (tenant addr len : Nat) : (openTx s node a tenant addr len).queues = s.queues := rfl
@[simp] theorem openTx_works (s : State) (node : Nat) (a : Await) (tenant addr len : Nat) : (openTx s node a tenant addr len).works = s.works := rfl
@[simp] theorem openTx_stamp (s : State) (node : Nat) (a : Await) (tenant addr len : Nat) : (openTx s node a tenant addr len).stamp = s.stamp := rfl
@[simp] theorem openTx_journals (s : State) (node : Nat) (a : Await) (tenant addr len : Nat) : (openTx s node a tenant addr len).journals = s.journals := rfl
@[simp] theorem openTx_receipts (s : State) (node : Nat) (a : Await) (tenant addr len : Nat) : (openTx s node a tenant addr len).receipts = s.receipts := rfl
@[simp] theorem openTx_strips (s : State) (node : Nat) (a : Await) (tenant addr len : Nat) : (openTx s node a tenant addr len).strips = s.strips := rfl
@[simp] theorem openTx_flush (s : State) (node : Nat) (a : Await) (tenant addr len : Nat) : (openTx s node a tenant addr len).flush = s.flush := rfl
@[simp] theorem openTx_tlbs (s : State) (node : Nat) (a : Await) (tenant addr len : Nat) : (openTx s node a tenant addr len).tlbs = s.tlbs := rfl
@[simp] theorem openTx_invs (s : State) (node : Nat) (a : Await) (tenant addr len : Nat) : (openTx s node a tenant addr len).invs = s.invs := rfl
@[simp] theorem openTx_store (s : State) (node : Nat) (a : Await) (tenant addr len : Nat) : (openTx s node a tenant addr len).store = s.store := rfl
@[simp] theorem openTx_order (s : State) (node : Nat) (a : Await) (tenant addr len : Nat) : (openTx s node a tenant addr len).order = s.order := rfl
@[simp] theorem openTx_embed (s : State) (node : Nat) (a : Await) (tenant addr len : Nat) : (openTx s node a tenant addr len).embed = s.embed := rfl
@[simp] theorem openTx_cxl (s : State) (node : Nat) (a : Await) (tenant addr len : Nat) : (openTx s node a tenant addr len).cxl = s.cxl := rfl
@[simp] theorem openTx_comp (s : State) (node : Nat) (a : Await) (tenant addr len : Nat) : (openTx s node a tenant addr len).comp = s.comp := rfl
@[simp] theorem openTx_sec (s : State) (node : Nat) (a : Await) (tenant addr len : Nat) : (openTx s node a tenant addr len).sec = s.sec := rfl
@[simp] theorem openTx_power (s : State) (node : Nat) (a : Await) (tenant addr len : Nat) : (openTx s node a tenant addr len).power = s.power := rfl

/-! ### closeTx -/

@[simp] theorem closeTx_pending (s : State) (tag : Nat) : (closeTx s tag).pending = s.pending := rfl
@[simp] theorem closeTx_now (s : State) (tag : Nat) : (closeTx s tag).now = s.now := rfl
@[simp] theorem closeTx_free (s : State) (tag : Nat) : (closeTx s tag).free = s.free := rfl
@[simp] theorem closeTx_outbox (s : State) (tag : Nat) : (closeTx s tag).outbox = s.outbox := rfl
@[simp] theorem closeTx_pins (s : State) (tag : Nat) : (closeTx s tag).pins = s.pins := rfl
@[simp] theorem closeTx_faults (s : State) (tag : Nat) : (closeTx s tag).faults = s.faults := rfl
@[simp] theorem closeTx_units (s : State) (tag : Nat) : (closeTx s tag).units = s.units := rfl
@[simp] theorem closeTx_boot (s : State) (tag : Nat) : (closeTx s tag).boot = s.boot := rfl
@[simp] theorem closeTx_ctrl (s : State) (tag : Nat) : (closeTx s tag).ctrl = s.ctrl := rfl
@[simp] theorem closeTx_ldRegs (s : State) (tag : Nat) : (closeTx s tag).ldRegs = s.ldRegs := rfl
@[simp] theorem closeTx_mailbox (s : State) (tag : Nat) : (closeTx s tag).mailbox = s.mailbox := rfl
@[simp] theorem closeTx_calSel (s : State) (tag : Nat) : (closeTx s tag).calSel = s.calSel := rfl
@[simp] theorem closeTx_queues (s : State) (tag : Nat) : (closeTx s tag).queues = s.queues := rfl
@[simp] theorem closeTx_works (s : State) (tag : Nat) : (closeTx s tag).works = s.works := rfl
@[simp] theorem closeTx_stamp (s : State) (tag : Nat) : (closeTx s tag).stamp = s.stamp := rfl
@[simp] theorem closeTx_journals (s : State) (tag : Nat) : (closeTx s tag).journals = s.journals := rfl
@[simp] theorem closeTx_receipts (s : State) (tag : Nat) : (closeTx s tag).receipts = s.receipts := rfl
@[simp] theorem closeTx_strips (s : State) (tag : Nat) : (closeTx s tag).strips = s.strips := rfl
@[simp] theorem closeTx_flush (s : State) (tag : Nat) : (closeTx s tag).flush = s.flush := rfl
@[simp] theorem closeTx_tlbs (s : State) (tag : Nat) : (closeTx s tag).tlbs = s.tlbs := rfl
@[simp] theorem closeTx_invs (s : State) (tag : Nat) : (closeTx s tag).invs = s.invs := rfl
@[simp] theorem closeTx_store (s : State) (tag : Nat) : (closeTx s tag).store = s.store := rfl
@[simp] theorem closeTx_order (s : State) (tag : Nat) : (closeTx s tag).order = s.order := rfl
@[simp] theorem closeTx_embed (s : State) (tag : Nat) : (closeTx s tag).embed = s.embed := rfl
@[simp] theorem closeTx_fabric (s : State) (tag : Nat) : (closeTx s tag).fabric = { s.fabric with outstanding := s.fabric.outstanding.filter (fun o => o.tag != tag) } := rfl
@[simp] theorem closeTx_cxl (s : State) (tag : Nat) : (closeTx s tag).cxl = s.cxl := rfl
@[simp] theorem closeTx_comp (s : State) (tag : Nat) : (closeTx s tag).comp = s.comp := rfl
@[simp] theorem closeTx_sec (s : State) (tag : Nat) : (closeTx s tag).sec = s.sec := rfl
@[simp] theorem closeTx_power (s : State) (tag : Nat) : (closeTx s tag).power = s.power := rfl

/-! ### modLdRegs -/

@[simp] theorem modLdRegs_pending (s : State) (ld : Nat) (f : LdRegs → LdRegs) : (modLdRegs s ld f).pending = s.pending := rfl
@[simp] theorem modLdRegs_now (s : State) (ld : Nat) (f : LdRegs → LdRegs) : (modLdRegs s ld f).now = s.now := rfl
@[simp] theorem modLdRegs_free (s : State) (ld : Nat) (f : LdRegs → LdRegs) : (modLdRegs s ld f).free = s.free := rfl
@[simp] theorem modLdRegs_outbox (s : State) (ld : Nat) (f : LdRegs → LdRegs) : (modLdRegs s ld f).outbox = s.outbox := rfl
@[simp] theorem modLdRegs_pins (s : State) (ld : Nat) (f : LdRegs → LdRegs) : (modLdRegs s ld f).pins = s.pins := rfl
@[simp] theorem modLdRegs_faults (s : State) (ld : Nat) (f : LdRegs → LdRegs) : (modLdRegs s ld f).faults = s.faults := rfl
@[simp] theorem modLdRegs_units (s : State) (ld : Nat) (f : LdRegs → LdRegs) : (modLdRegs s ld f).units = s.units := rfl
@[simp] theorem modLdRegs_boot (s : State) (ld : Nat) (f : LdRegs → LdRegs) : (modLdRegs s ld f).boot = s.boot := rfl
@[simp] theorem modLdRegs_ctrl (s : State) (ld : Nat) (f : LdRegs → LdRegs) : (modLdRegs s ld f).ctrl = s.ctrl := rfl
@[simp] theorem modLdRegs_ldRegs (s : State) (ld : Nat) (f : LdRegs → LdRegs) : (modLdRegs s ld f).ldRegs = Tbl.change s.ldRegs ld LdRegs.zero f := rfl
@[simp] theorem modLdRegs_mailbox (s : State) (ld : Nat) (f : LdRegs → LdRegs) : (modLdRegs s ld f).mailbox = s.mailbox := rfl
@[simp] theorem modLdRegs_calSel (s : State) (ld : Nat) (f : LdRegs → LdRegs) : (modLdRegs s ld f).calSel = s.calSel := rfl
@[simp] theorem modLdRegs_queues (s : State) (ld : Nat) (f : LdRegs → LdRegs) : (modLdRegs s ld f).queues = s.queues := rfl
@[simp] theorem modLdRegs_works (s : State) (ld : Nat) (f : LdRegs → LdRegs) : (modLdRegs s ld f).works = s.works := rfl
@[simp] theorem modLdRegs_stamp (s : State) (ld : Nat) (f : LdRegs → LdRegs) : (modLdRegs s ld f).stamp = s.stamp := rfl
@[simp] theorem modLdRegs_journals (s : State) (ld : Nat) (f : LdRegs → LdRegs) : (modLdRegs s ld f).journals = s.journals := rfl
@[simp] theorem modLdRegs_receipts (s : State) (ld : Nat) (f : LdRegs → LdRegs) : (modLdRegs s ld f).receipts = s.receipts := rfl
@[simp] theorem modLdRegs_strips (s : State) (ld : Nat) (f : LdRegs → LdRegs) : (modLdRegs s ld f).strips = s.strips := rfl
@[simp] theorem modLdRegs_flush (s : State) (ld : Nat) (f : LdRegs → LdRegs) : (modLdRegs s ld f).flush = s.flush := rfl
@[simp] theorem modLdRegs_tlbs (s : State) (ld : Nat) (f : LdRegs → LdRegs) : (modLdRegs s ld f).tlbs = s.tlbs := rfl
@[simp] theorem modLdRegs_invs (s : State) (ld : Nat) (f : LdRegs → LdRegs) : (modLdRegs s ld f).invs = s.invs := rfl
@[simp] theorem modLdRegs_store (s : State) (ld : Nat) (f : LdRegs → LdRegs) : (modLdRegs s ld f).store = s.store := rfl
@[simp] theorem modLdRegs_order (s : State) (ld : Nat) (f : LdRegs → LdRegs) : (modLdRegs s ld f).order = s.order := rfl
@[simp] theorem modLdRegs_embed (s : State) (ld : Nat) (f : LdRegs → LdRegs) : (modLdRegs s ld f).embed = s.embed := rfl
@[simp] theorem modLdRegs_fabric (s : State) (ld : Nat) (f : LdRegs → LdRegs) : (modLdRegs s ld f).fabric = s.fabric := rfl
@[simp] theorem modLdRegs_cxl (s : State) (ld : Nat) (f : LdRegs → LdRegs) : (modLdRegs s ld f).cxl = s.cxl := rfl
@[simp] theorem modLdRegs_comp (s : State) (ld : Nat) (f : LdRegs → LdRegs) : (modLdRegs s ld f).comp = s.comp := rfl
@[simp] theorem modLdRegs_sec (s : State) (ld : Nat) (f : LdRegs → LdRegs) : (modLdRegs s ld f).sec = s.sec := rfl
@[simp] theorem modLdRegs_power (s : State) (ld : Nat) (f : LdRegs → LdRegs) : (modLdRegs s ld f).power = s.power := rfl

/-! ### modStore -/

@[simp] theorem modStore_pending (s : State) (f : Store → Store) : (modStore s f).pending = s.pending := rfl
@[simp] theorem modStore_now (s : State) (f : Store → Store) : (modStore s f).now = s.now := rfl
@[simp] theorem modStore_free (s : State) (f : Store → Store) : (modStore s f).free = s.free := rfl
@[simp] theorem modStore_outbox (s : State) (f : Store → Store) : (modStore s f).outbox = s.outbox := rfl
@[simp] theorem modStore_pins (s : State) (f : Store → Store) : (modStore s f).pins = s.pins := rfl
@[simp] theorem modStore_faults (s : State) (f : Store → Store) : (modStore s f).faults = s.faults := rfl
@[simp] theorem modStore_units (s : State) (f : Store → Store) : (modStore s f).units = s.units := rfl
@[simp] theorem modStore_boot (s : State) (f : Store → Store) : (modStore s f).boot = s.boot := rfl
@[simp] theorem modStore_ctrl (s : State) (f : Store → Store) : (modStore s f).ctrl = s.ctrl := rfl
@[simp] theorem modStore_ldRegs (s : State) (f : Store → Store) : (modStore s f).ldRegs = s.ldRegs := rfl
@[simp] theorem modStore_mailbox (s : State) (f : Store → Store) : (modStore s f).mailbox = s.mailbox := rfl
@[simp] theorem modStore_calSel (s : State) (f : Store → Store) : (modStore s f).calSel = s.calSel := rfl
@[simp] theorem modStore_queues (s : State) (f : Store → Store) : (modStore s f).queues = s.queues := rfl
@[simp] theorem modStore_works (s : State) (f : Store → Store) : (modStore s f).works = s.works := rfl
@[simp] theorem modStore_stamp (s : State) (f : Store → Store) : (modStore s f).stamp = s.stamp := rfl
@[simp] theorem modStore_journals (s : State) (f : Store → Store) : (modStore s f).journals = s.journals := rfl
@[simp] theorem modStore_receipts (s : State) (f : Store → Store) : (modStore s f).receipts = s.receipts := rfl
@[simp] theorem modStore_strips (s : State) (f : Store → Store) : (modStore s f).strips = s.strips := rfl
@[simp] theorem modStore_flush (s : State) (f : Store → Store) : (modStore s f).flush = s.flush := rfl
@[simp] theorem modStore_tlbs (s : State) (f : Store → Store) : (modStore s f).tlbs = s.tlbs := rfl
@[simp] theorem modStore_invs (s : State) (f : Store → Store) : (modStore s f).invs = s.invs := rfl
@[simp] theorem modStore_store (s : State) (f : Store → Store) : (modStore s f).store = f s.store := rfl
@[simp] theorem modStore_order (s : State) (f : Store → Store) : (modStore s f).order = s.order := rfl
@[simp] theorem modStore_embed (s : State) (f : Store → Store) : (modStore s f).embed = s.embed := rfl
@[simp] theorem modStore_fabric (s : State) (f : Store → Store) : (modStore s f).fabric = s.fabric := rfl
@[simp] theorem modStore_cxl (s : State) (f : Store → Store) : (modStore s f).cxl = s.cxl := rfl
@[simp] theorem modStore_comp (s : State) (f : Store → Store) : (modStore s f).comp = s.comp := rfl
@[simp] theorem modStore_sec (s : State) (f : Store → Store) : (modStore s f).sec = s.sec := rfl
@[simp] theorem modStore_power (s : State) (f : Store → Store) : (modStore s f).power = s.power := rfl

/-! ### dropRows -/

@[simp] theorem dropRows_pending (s : State) (off len : Nat) : (dropRows s off len).pending = s.pending := rfl
@[simp] theorem dropRows_now (s : State) (off len : Nat) : (dropRows s off len).now = s.now := rfl
@[simp] theorem dropRows_free (s : State) (off len : Nat) : (dropRows s off len).free = s.free := rfl
@[simp] theorem dropRows_outbox (s : State) (off len : Nat) : (dropRows s off len).outbox = s.outbox := rfl
@[simp] theorem dropRows_pins (s : State) (off len : Nat) : (dropRows s off len).pins = s.pins := rfl
@[simp] theorem dropRows_faults (s : State) (off len : Nat) : (dropRows s off len).faults = s.faults := rfl
@[simp] theorem dropRows_units (s : State) (off len : Nat) : (dropRows s off len).units = s.units := rfl
@[simp] theorem dropRows_boot (s : State) (off len : Nat) : (dropRows s off len).boot = s.boot := rfl
@[simp] theorem dropRows_ctrl (s : State) (off len : Nat) : (dropRows s off len).ctrl = s.ctrl := rfl
@[simp] theorem dropRows_ldRegs (s : State) (off len : Nat) : (dropRows s off len).ldRegs = s.ldRegs := rfl
@[simp] theorem dropRows_mailbox (s : State) (off len : Nat) : (dropRows s off len).mailbox = s.mailbox := rfl
@[simp] theorem dropRows_calSel (s : State) (off len : Nat) : (dropRows s off len).calSel = s.calSel := rfl
@[simp] theorem dropRows_queues (s : State) (off len : Nat) : (dropRows s off len).queues = s.queues := rfl
@[simp] theorem dropRows_works (s : State) (off len : Nat) : (dropRows s off len).works = s.works := rfl
@[simp] theorem dropRows_stamp (s : State) (off len : Nat) : (dropRows s off len).stamp = s.stamp := rfl
@[simp] theorem dropRows_journals (s : State) (off len : Nat) : (dropRows s off len).journals = s.journals := rfl
@[simp] theorem dropRows_receipts (s : State) (off len : Nat) : (dropRows s off len).receipts = s.receipts := rfl
@[simp] theorem dropRows_strips (s : State) (off len : Nat) : (dropRows s off len).strips = s.strips := rfl
@[simp] theorem dropRows_flush (s : State) (off len : Nat) : (dropRows s off len).flush = s.flush := rfl
@[simp] theorem dropRows_tlbs (s : State) (off len : Nat) : (dropRows s off len).tlbs = s.tlbs := rfl
@[simp] theorem dropRows_invs (s : State) (off len : Nat) : (dropRows s off len).invs = s.invs := rfl
@[simp] theorem dropRows_store (s : State) (off len : Nat) : (dropRows s off len).store = s.store := rfl
@[simp] theorem dropRows_order (s : State) (off len : Nat) : (dropRows s off len).order = s.order := rfl
@[simp] theorem dropRows_fabric (s : State) (off len : Nat) : (dropRows s off len).fabric = s.fabric := rfl
@[simp] theorem dropRows_cxl (s : State) (off len : Nat) : (dropRows s off len).cxl = s.cxl := rfl
@[simp] theorem dropRows_comp (s : State) (off len : Nat) : (dropRows s off len).comp = s.comp := rfl
@[simp] theorem dropRows_sec (s : State) (off len : Nat) : (dropRows s off len).sec = s.sec := rfl
@[simp] theorem dropRows_power (s : State) (off len : Nat) : (dropRows s off len).power = s.power := rfl

/-! ### setMem -/

@[simp] theorem setMem_pending (s : State) (off : Nat) (data : List Byte) : (setMem s off data).pending = s.pending := rfl
@[simp] theorem setMem_now (s : State) (off : Nat) (data : List Byte) : (setMem s off data).now = s.now := rfl
@[simp] theorem setMem_free (s : State) (off : Nat) (data : List Byte) : (setMem s off data).free = s.free := rfl
@[simp] theorem setMem_outbox (s : State) (off : Nat) (data : List Byte) : (setMem s off data).outbox = s.outbox := rfl
@[simp] theorem setMem_pins (s : State) (off : Nat) (data : List Byte) : (setMem s off data).pins = s.pins := rfl
@[simp] theorem setMem_faults (s : State) (off : Nat) (data : List Byte) : (setMem s off data).faults = s.faults := rfl
@[simp] theorem setMem_units (s : State) (off : Nat) (data : List Byte) : (setMem s off data).units = s.units := rfl
@[simp] theorem setMem_boot (s : State) (off : Nat) (data : List Byte) : (setMem s off data).boot = s.boot := rfl
@[simp] theorem setMem_ctrl (s : State) (off : Nat) (data : List Byte) : (setMem s off data).ctrl = s.ctrl := rfl
@[simp] theorem setMem_ldRegs (s : State) (off : Nat) (data : List Byte) : (setMem s off data).ldRegs = s.ldRegs := rfl
@[simp] theorem setMem_mailbox (s : State) (off : Nat) (data : List Byte) : (setMem s off data).mailbox = s.mailbox := rfl
@[simp] theorem setMem_calSel (s : State) (off : Nat) (data : List Byte) : (setMem s off data).calSel = s.calSel := rfl
@[simp] theorem setMem_queues (s : State) (off : Nat) (data : List Byte) : (setMem s off data).queues = s.queues := rfl
@[simp] theorem setMem_works (s : State) (off : Nat) (data : List Byte) : (setMem s off data).works = s.works := rfl
@[simp] theorem setMem_stamp (s : State) (off : Nat) (data : List Byte) : (setMem s off data).stamp = s.stamp := rfl
@[simp] theorem setMem_journals (s : State) (off : Nat) (data : List Byte) : (setMem s off data).journals = s.journals := rfl
@[simp] theorem setMem_receipts (s : State) (off : Nat) (data : List Byte) : (setMem s off data).receipts = s.receipts := rfl
@[simp] theorem setMem_strips (s : State) (off : Nat) (data : List Byte) : (setMem s off data).strips = s.strips := rfl
@[simp] theorem setMem_flush (s : State) (off : Nat) (data : List Byte) : (setMem s off data).flush = s.flush := rfl
@[simp] theorem setMem_tlbs (s : State) (off : Nat) (data : List Byte) : (setMem s off data).tlbs = s.tlbs := rfl
@[simp] theorem setMem_invs (s : State) (off : Nat) (data : List Byte) : (setMem s off data).invs = s.invs := rfl
@[simp] theorem setMem_store (s : State) (off : Nat) (data : List Byte) : (setMem s off data).store = { s.store with mem := memWrite s.store.mem off data } := rfl
@[simp] theorem setMem_order (s : State) (off : Nat) (data : List Byte) : (setMem s off data).order = s.order := rfl
@[simp] theorem setMem_fabric (s : State) (off : Nat) (data : List Byte) : (setMem s off data).fabric = s.fabric := rfl
@[simp] theorem setMem_cxl (s : State) (off : Nat) (data : List Byte) : (setMem s off data).cxl = s.cxl := rfl
@[simp] theorem setMem_comp (s : State) (off : Nat) (data : List Byte) : (setMem s off data).comp = s.comp := rfl
@[simp] theorem setMem_sec (s : State) (off : Nat) (data : List Byte) : (setMem s off data).sec = s.sec := rfl
@[simp] theorem setMem_power (s : State) (off : Nat) (data : List Byte) : (setMem s off data).power = s.power := rfl

/-! ### curePoison -/

@[simp] theorem curePoison_pending (s : State) (unit : Nat) : (curePoison s unit).pending = s.pending := rfl
@[simp] theorem curePoison_now (s : State) (unit : Nat) : (curePoison s unit).now = s.now := rfl
@[simp] theorem curePoison_free (s : State) (unit : Nat) : (curePoison s unit).free = s.free := rfl
@[simp] theorem curePoison_outbox (s : State) (unit : Nat) : (curePoison s unit).outbox = s.outbox := rfl
@[simp] theorem curePoison_pins (s : State) (unit : Nat) : (curePoison s unit).pins = s.pins := rfl
@[simp] theorem curePoison_faults (s : State) (unit : Nat) : (curePoison s unit).faults = s.faults := rfl
@[simp] theorem curePoison_units (s : State) (unit : Nat) : (curePoison s unit).units = s.units := rfl
@[simp] theorem curePoison_boot (s : State) (unit : Nat) : (curePoison s unit).boot = s.boot := rfl
@[simp] theorem curePoison_ctrl (s : State) (unit : Nat) : (curePoison s unit).ctrl = s.ctrl := rfl
@[simp] theorem curePoison_ldRegs (s : State) (unit : Nat) : (curePoison s unit).ldRegs = s.ldRegs := rfl
@[simp] theorem curePoison_mailbox (s : State) (unit : Nat) : (curePoison s unit).mailbox = s.mailbox := rfl
@[simp] theorem curePoison_calSel (s : State) (unit : Nat) : (curePoison s unit).calSel = s.calSel := rfl
@[simp] theorem curePoison_queues (s : State) (unit : Nat) : (curePoison s unit).queues = s.queues := rfl
@[simp] theorem curePoison_works (s : State) (unit : Nat) : (curePoison s unit).works = s.works := rfl
@[simp] theorem curePoison_stamp (s : State) (unit : Nat) : (curePoison s unit).stamp = s.stamp := rfl
@[simp] theorem curePoison_journals (s : State) (unit : Nat) : (curePoison s unit).journals = s.journals := rfl
@[simp] theorem curePoison_receipts (s : State) (unit : Nat) : (curePoison s unit).receipts = s.receipts := rfl
@[simp] theorem curePoison_strips (s : State) (unit : Nat) : (curePoison s unit).strips = s.strips := rfl
@[simp] theorem curePoison_flush (s : State) (unit : Nat) : (curePoison s unit).flush = s.flush := rfl
@[simp] theorem curePoison_tlbs (s : State) (unit : Nat) : (curePoison s unit).tlbs = s.tlbs := rfl
@[simp] theorem curePoison_invs (s : State) (unit : Nat) : (curePoison s unit).invs = s.invs := rfl
@[simp] theorem curePoison_store (s : State) (unit : Nat) : (curePoison s unit).store = { s.store with poison := s.store.poison.filter (· != unit) } := rfl
@[simp] theorem curePoison_order (s : State) (unit : Nat) : (curePoison s unit).order = s.order := rfl
@[simp] theorem curePoison_embed (s : State) (unit : Nat) : (curePoison s unit).embed = s.embed := rfl
@[simp] theorem curePoison_fabric (s : State) (unit : Nat) : (curePoison s unit).fabric = s.fabric := rfl
@[simp] theorem curePoison_cxl (s : State) (unit : Nat) : (curePoison s unit).cxl = s.cxl := rfl
@[simp] theorem curePoison_comp (s : State) (unit : Nat) : (curePoison s unit).comp = s.comp := rfl
@[simp] theorem curePoison_sec (s : State) (unit : Nat) : (curePoison s unit).sec = s.sec := rfl
@[simp] theorem curePoison_power (s : State) (unit : Nat) : (curePoison s unit).power = s.power := rfl

/-! ### modLd -/

@[simp] theorem modLd_pending (s : State) (ld : Nat) (f : LogicalDevice → LogicalDevice) : (modLd s ld f).pending = s.pending := rfl
@[simp] theorem modLd_now (s : State) (ld : Nat) (f : LogicalDevice → LogicalDevice) : (modLd s ld f).now = s.now := rfl
@[simp] theorem modLd_free (s : State) (ld : Nat) (f : LogicalDevice → LogicalDevice) : (modLd s ld f).free = s.free := rfl
@[simp] theorem modLd_outbox (s : State) (ld : Nat) (f : LogicalDevice → LogicalDevice) : (modLd s ld f).outbox = s.outbox := rfl
@[simp] theorem modLd_pins (s : State) (ld : Nat) (f : LogicalDevice → LogicalDevice) : (modLd s ld f).pins = s.pins := rfl
@[simp] theorem modLd_faults (s : State) (ld : Nat) (f : LogicalDevice → LogicalDevice) : (modLd s ld f).faults = s.faults := rfl
@[simp] theorem modLd_units (s : State) (ld : Nat) (f : LogicalDevice → LogicalDevice) : (modLd s ld f).units = s.units := rfl
@[simp] theorem modLd_boot (s : State) (ld : Nat) (f : LogicalDevice → LogicalDevice) : (modLd s ld f).boot = s.boot := rfl
@[simp] theorem modLd_ctrl (s : State) (ld : Nat) (f : LogicalDevice → LogicalDevice) : (modLd s ld f).ctrl = s.ctrl := rfl
@[simp] theorem modLd_ldRegs (s : State) (ld : Nat) (f : LogicalDevice → LogicalDevice) : (modLd s ld f).ldRegs = s.ldRegs := rfl
@[simp] theorem modLd_mailbox (s : State) (ld : Nat) (f : LogicalDevice → LogicalDevice) : (modLd s ld f).mailbox = s.mailbox := rfl
@[simp] theorem modLd_calSel (s : State) (ld : Nat) (f : LogicalDevice → LogicalDevice) : (modLd s ld f).calSel = s.calSel := rfl
@[simp] theorem modLd_queues (s : State) (ld : Nat) (f : LogicalDevice → LogicalDevice) : (modLd s ld f).queues = s.queues := rfl
@[simp] theorem modLd_works (s : State) (ld : Nat) (f : LogicalDevice → LogicalDevice) : (modLd s ld f).works = s.works := rfl
@[simp] theorem modLd_stamp (s : State) (ld : Nat) (f : LogicalDevice → LogicalDevice) : (modLd s ld f).stamp = s.stamp := rfl
@[simp] theorem modLd_journals (s : State) (ld : Nat) (f : LogicalDevice → LogicalDevice) : (modLd s ld f).journals = s.journals := rfl
@[simp] theorem modLd_receipts (s : State) (ld : Nat) (f : LogicalDevice → LogicalDevice) : (modLd s ld f).receipts = s.receipts := rfl
@[simp] theorem modLd_strips (s : State) (ld : Nat) (f : LogicalDevice → LogicalDevice) : (modLd s ld f).strips = s.strips := rfl
@[simp] theorem modLd_flush (s : State) (ld : Nat) (f : LogicalDevice → LogicalDevice) : (modLd s ld f).flush = s.flush := rfl
@[simp] theorem modLd_tlbs (s : State) (ld : Nat) (f : LogicalDevice → LogicalDevice) : (modLd s ld f).tlbs = s.tlbs := rfl
@[simp] theorem modLd_invs (s : State) (ld : Nat) (f : LogicalDevice → LogicalDevice) : (modLd s ld f).invs = s.invs := rfl
@[simp] theorem modLd_store (s : State) (ld : Nat) (f : LogicalDevice → LogicalDevice) : (modLd s ld f).store = s.store := rfl
@[simp] theorem modLd_order (s : State) (ld : Nat) (f : LogicalDevice → LogicalDevice) : (modLd s ld f).order = s.order := rfl
@[simp] theorem modLd_embed (s : State) (ld : Nat) (f : LogicalDevice → LogicalDevice) : (modLd s ld f).embed = s.embed := rfl
@[simp] theorem modLd_fabric (s : State) (ld : Nat) (f : LogicalDevice → LogicalDevice) : (modLd s ld f).fabric = s.fabric := rfl
@[simp] theorem modLd_cxl (s : State) (ld : Nat) (f : LogicalDevice → LogicalDevice) : (modLd s ld f).cxl = { s.cxl with lds := Tbl.change s.cxl.lds ld LogicalDevice.reset f } := rfl
@[simp] theorem modLd_comp (s : State) (ld : Nat) (f : LogicalDevice → LogicalDevice) : (modLd s ld f).comp = s.comp := rfl
@[simp] theorem modLd_sec (s : State) (ld : Nat) (f : LogicalDevice → LogicalDevice) : (modLd s ld f).sec = s.sec := rfl
@[simp] theorem modLd_power (s : State) (ld : Nat) (f : LogicalDevice → LogicalDevice) : (modLd s ld f).power = s.power := rfl

/-! ### modJournal -/

@[simp] theorem modJournal_pending (s : State) (k : Nat) (f : Journal → Journal) : (modJournal s k f).pending = s.pending := rfl
@[simp] theorem modJournal_now (s : State) (k : Nat) (f : Journal → Journal) : (modJournal s k f).now = s.now := rfl
@[simp] theorem modJournal_free (s : State) (k : Nat) (f : Journal → Journal) : (modJournal s k f).free = s.free := rfl
@[simp] theorem modJournal_outbox (s : State) (k : Nat) (f : Journal → Journal) : (modJournal s k f).outbox = s.outbox := rfl
@[simp] theorem modJournal_pins (s : State) (k : Nat) (f : Journal → Journal) : (modJournal s k f).pins = s.pins := rfl
@[simp] theorem modJournal_faults (s : State) (k : Nat) (f : Journal → Journal) : (modJournal s k f).faults = s.faults := rfl
@[simp] theorem modJournal_units (s : State) (k : Nat) (f : Journal → Journal) : (modJournal s k f).units = s.units := rfl
@[simp] theorem modJournal_boot (s : State) (k : Nat) (f : Journal → Journal) : (modJournal s k f).boot = s.boot := rfl
@[simp] theorem modJournal_ctrl (s : State) (k : Nat) (f : Journal → Journal) : (modJournal s k f).ctrl = s.ctrl := rfl
@[simp] theorem modJournal_ldRegs (s : State) (k : Nat) (f : Journal → Journal) : (modJournal s k f).ldRegs = s.ldRegs := rfl
@[simp] theorem modJournal_mailbox (s : State) (k : Nat) (f : Journal → Journal) : (modJournal s k f).mailbox = s.mailbox := rfl
@[simp] theorem modJournal_calSel (s : State) (k : Nat) (f : Journal → Journal) : (modJournal s k f).calSel = s.calSel := rfl
@[simp] theorem modJournal_queues (s : State) (k : Nat) (f : Journal → Journal) : (modJournal s k f).queues = s.queues := rfl
@[simp] theorem modJournal_works (s : State) (k : Nat) (f : Journal → Journal) : (modJournal s k f).works = s.works := rfl
@[simp] theorem modJournal_stamp (s : State) (k : Nat) (f : Journal → Journal) : (modJournal s k f).stamp = s.stamp := rfl
@[simp] theorem modJournal_journals (s : State) (k : Nat) (f : Journal → Journal) : (modJournal s k f).journals = s.journals.modify k f := rfl
@[simp] theorem modJournal_receipts (s : State) (k : Nat) (f : Journal → Journal) : (modJournal s k f).receipts = s.receipts := rfl
@[simp] theorem modJournal_strips (s : State) (k : Nat) (f : Journal → Journal) : (modJournal s k f).strips = s.strips := rfl
@[simp] theorem modJournal_flush (s : State) (k : Nat) (f : Journal → Journal) : (modJournal s k f).flush = s.flush := rfl
@[simp] theorem modJournal_tlbs (s : State) (k : Nat) (f : Journal → Journal) : (modJournal s k f).tlbs = s.tlbs := rfl
@[simp] theorem modJournal_invs (s : State) (k : Nat) (f : Journal → Journal) : (modJournal s k f).invs = s.invs := rfl
@[simp] theorem modJournal_store (s : State) (k : Nat) (f : Journal → Journal) : (modJournal s k f).store = s.store := rfl
@[simp] theorem modJournal_order (s : State) (k : Nat) (f : Journal → Journal) : (modJournal s k f).order = s.order := rfl
@[simp] theorem modJournal_embed (s : State) (k : Nat) (f : Journal → Journal) : (modJournal s k f).embed = s.embed := rfl
@[simp] theorem modJournal_fabric (s : State) (k : Nat) (f : Journal → Journal) : (modJournal s k f).fabric = s.fabric := rfl
@[simp] theorem modJournal_cxl (s : State) (k : Nat) (f : Journal → Journal) : (modJournal s k f).cxl = s.cxl := rfl
@[simp] theorem modJournal_comp (s : State) (k : Nat) (f : Journal → Journal) : (modJournal s k f).comp = s.comp := rfl
@[simp] theorem modJournal_sec (s : State) (k : Nat) (f : Journal → Journal) : (modJournal s k f).sec = s.sec := rfl
@[simp] theorem modJournal_power (s : State) (k : Nat) (f : Journal → Journal) : (modJournal s k f).power = s.power := rfl

/-! ### modCluster -/

@[simp] theorem modCluster_pending (s : State) (c : Nat) (f : Cluster → Cluster) : (modCluster s c f).pending = s.pending := rfl
@[simp] theorem modCluster_now (s : State) (c : Nat) (f : Cluster → Cluster) : (modCluster s c f).now = s.now := rfl
@[simp] theorem modCluster_free (s : State) (c : Nat) (f : Cluster → Cluster) : (modCluster s c f).free = s.free := rfl
@[simp] theorem modCluster_outbox (s : State) (c : Nat) (f : Cluster → Cluster) : (modCluster s c f).outbox = s.outbox := rfl
@[simp] theorem modCluster_pins (s : State) (c : Nat) (f : Cluster → Cluster) : (modCluster s c f).pins = s.pins := rfl
@[simp] theorem modCluster_faults (s : State) (c : Nat) (f : Cluster → Cluster) : (modCluster s c f).faults = s.faults := rfl
@[simp] theorem modCluster_units (s : State) (c : Nat) (f : Cluster → Cluster) : (modCluster s c f).units = { s.units with clusters := s.units.clusters.modify c f } := rfl
@[simp] theorem modCluster_boot (s : State) (c : Nat) (f : Cluster → Cluster) : (modCluster s c f).boot = s.boot := rfl
@[simp] theorem modCluster_ctrl (s : State) (c : Nat) (f : Cluster → Cluster) : (modCluster s c f).ctrl = s.ctrl := rfl
@[simp] theorem modCluster_ldRegs (s : State) (c : Nat) (f : Cluster → Cluster) : (modCluster s c f).ldRegs = s.ldRegs := rfl
@[simp] theorem modCluster_mailbox (s : State) (c : Nat) (f : Cluster → Cluster) : (modCluster s c f).mailbox = s.mailbox := rfl
@[simp] theorem modCluster_calSel (s : State) (c : Nat) (f : Cluster → Cluster) : (modCluster s c f).calSel = s.calSel := rfl
@[simp] theorem modCluster_queues (s : State) (c : Nat) (f : Cluster → Cluster) : (modCluster s c f).queues = s.queues := rfl
@[simp] theorem modCluster_works (s : State) (c : Nat) (f : Cluster → Cluster) : (modCluster s c f).works = s.works := rfl
@[simp] theorem modCluster_stamp (s : State) (c : Nat) (f : Cluster → Cluster) : (modCluster s c f).stamp = s.stamp := rfl
@[simp] theorem modCluster_journals (s : State) (c : Nat) (f : Cluster → Cluster) : (modCluster s c f).journals = s.journals := rfl
@[simp] theorem modCluster_receipts (s : State) (c : Nat) (f : Cluster → Cluster) : (modCluster s c f).receipts = s.receipts := rfl
@[simp] theorem modCluster_strips (s : State) (c : Nat) (f : Cluster → Cluster) : (modCluster s c f).strips = s.strips := rfl
@[simp] theorem modCluster_flush (s : State) (c : Nat) (f : Cluster → Cluster) : (modCluster s c f).flush = s.flush := rfl
@[simp] theorem modCluster_tlbs (s : State) (c : Nat) (f : Cluster → Cluster) : (modCluster s c f).tlbs = s.tlbs := rfl
@[simp] theorem modCluster_invs (s : State) (c : Nat) (f : Cluster → Cluster) : (modCluster s c f).invs = s.invs := rfl
@[simp] theorem modCluster_store (s : State) (c : Nat) (f : Cluster → Cluster) : (modCluster s c f).store = s.store := rfl
@[simp] theorem modCluster_order (s : State) (c : Nat) (f : Cluster → Cluster) : (modCluster s c f).order = s.order := rfl
@[simp] theorem modCluster_embed (s : State) (c : Nat) (f : Cluster → Cluster) : (modCluster s c f).embed = s.embed := rfl
@[simp] theorem modCluster_fabric (s : State) (c : Nat) (f : Cluster → Cluster) : (modCluster s c f).fabric = s.fabric := rfl
@[simp] theorem modCluster_cxl (s : State) (c : Nat) (f : Cluster → Cluster) : (modCluster s c f).cxl = s.cxl := rfl
@[simp] theorem modCluster_comp (s : State) (c : Nat) (f : Cluster → Cluster) : (modCluster s c f).comp = s.comp := rfl
@[simp] theorem modCluster_sec (s : State) (c : Nat) (f : Cluster → Cluster) : (modCluster s c f).sec = s.sec := rfl
@[simp] theorem modCluster_power (s : State) (c : Nat) (f : Cluster → Cluster) : (modCluster s c f).power = s.power := rfl

/-! ### modPort -/

@[simp] theorem modPort_pending (s : State) (p : Nat) (f : IflPort → IflPort) : (modPort s p f).pending = s.pending := rfl
@[simp] theorem modPort_now (s : State) (p : Nat) (f : IflPort → IflPort) : (modPort s p f).now = s.now := rfl
@[simp] theorem modPort_free (s : State) (p : Nat) (f : IflPort → IflPort) : (modPort s p f).free = s.free := rfl
@[simp] theorem modPort_outbox (s : State) (p : Nat) (f : IflPort → IflPort) : (modPort s p f).outbox = s.outbox := rfl
@[simp] theorem modPort_pins (s : State) (p : Nat) (f : IflPort → IflPort) : (modPort s p f).pins = s.pins := rfl
@[simp] theorem modPort_faults (s : State) (p : Nat) (f : IflPort → IflPort) : (modPort s p f).faults = s.faults := rfl
@[simp] theorem modPort_units (s : State) (p : Nat) (f : IflPort → IflPort) : (modPort s p f).units = s.units := rfl
@[simp] theorem modPort_boot (s : State) (p : Nat) (f : IflPort → IflPort) : (modPort s p f).boot = s.boot := rfl
@[simp] theorem modPort_ctrl (s : State) (p : Nat) (f : IflPort → IflPort) : (modPort s p f).ctrl = s.ctrl := rfl
@[simp] theorem modPort_ldRegs (s : State) (p : Nat) (f : IflPort → IflPort) : (modPort s p f).ldRegs = s.ldRegs := rfl
@[simp] theorem modPort_mailbox (s : State) (p : Nat) (f : IflPort → IflPort) : (modPort s p f).mailbox = s.mailbox := rfl
@[simp] theorem modPort_calSel (s : State) (p : Nat) (f : IflPort → IflPort) : (modPort s p f).calSel = s.calSel := rfl
@[simp] theorem modPort_queues (s : State) (p : Nat) (f : IflPort → IflPort) : (modPort s p f).queues = s.queues := rfl
@[simp] theorem modPort_works (s : State) (p : Nat) (f : IflPort → IflPort) : (modPort s p f).works = s.works := rfl
@[simp] theorem modPort_stamp (s : State) (p : Nat) (f : IflPort → IflPort) : (modPort s p f).stamp = s.stamp := rfl
@[simp] theorem modPort_journals (s : State) (p : Nat) (f : IflPort → IflPort) : (modPort s p f).journals = s.journals := rfl
@[simp] theorem modPort_receipts (s : State) (p : Nat) (f : IflPort → IflPort) : (modPort s p f).receipts = s.receipts := rfl
@[simp] theorem modPort_strips (s : State) (p : Nat) (f : IflPort → IflPort) : (modPort s p f).strips = s.strips := rfl
@[simp] theorem modPort_flush (s : State) (p : Nat) (f : IflPort → IflPort) : (modPort s p f).flush = s.flush := rfl
@[simp] theorem modPort_tlbs (s : State) (p : Nat) (f : IflPort → IflPort) : (modPort s p f).tlbs = s.tlbs := rfl
@[simp] theorem modPort_invs (s : State) (p : Nat) (f : IflPort → IflPort) : (modPort s p f).invs = s.invs := rfl
@[simp] theorem modPort_store (s : State) (p : Nat) (f : IflPort → IflPort) : (modPort s p f).store = s.store := rfl
@[simp] theorem modPort_order (s : State) (p : Nat) (f : IflPort → IflPort) : (modPort s p f).order = s.order := rfl
@[simp] theorem modPort_embed (s : State) (p : Nat) (f : IflPort → IflPort) : (modPort s p f).embed = s.embed := rfl
@[simp] theorem modPort_fabric (s : State) (p : Nat) (f : IflPort → IflPort) : (modPort s p f).fabric = { s.fabric with ports := s.fabric.ports.modify p f } := rfl
@[simp] theorem modPort_cxl (s : State) (p : Nat) (f : IflPort → IflPort) : (modPort s p f).cxl = s.cxl := rfl
@[simp] theorem modPort_comp (s : State) (p : Nat) (f : IflPort → IflPort) : (modPort s p f).comp = s.comp := rfl
@[simp] theorem modPort_sec (s : State) (p : Nat) (f : IflPort → IflPort) : (modPort s p f).sec = s.sec := rfl
@[simp] theorem modPort_power (s : State) (p : Nat) (f : IflPort → IflPort) : (modPort s p f).power = s.power := rfl

/-! ### modMailbox -/

@[simp] theorem modMailbox_pending (s : State) (who : Sender) (f : Mailbox → Mailbox) : (modMailbox s who f).pending = s.pending := rfl
@[simp] theorem modMailbox_now (s : State) (who : Sender) (f : Mailbox → Mailbox) : (modMailbox s who f).now = s.now := rfl
@[simp] theorem modMailbox_free (s : State) (who : Sender) (f : Mailbox → Mailbox) : (modMailbox s who f).free = s.free := rfl
@[simp] theorem modMailbox_outbox (s : State) (who : Sender) (f : Mailbox → Mailbox) : (modMailbox s who f).outbox = s.outbox := rfl
@[simp] theorem modMailbox_pins (s : State) (who : Sender) (f : Mailbox → Mailbox) : (modMailbox s who f).pins = s.pins := rfl
@[simp] theorem modMailbox_faults (s : State) (who : Sender) (f : Mailbox → Mailbox) : (modMailbox s who f).faults = s.faults := rfl
@[simp] theorem modMailbox_units (s : State) (who : Sender) (f : Mailbox → Mailbox) : (modMailbox s who f).units = s.units := rfl
@[simp] theorem modMailbox_boot (s : State) (who : Sender) (f : Mailbox → Mailbox) : (modMailbox s who f).boot = s.boot := rfl
@[simp] theorem modMailbox_ctrl (s : State) (who : Sender) (f : Mailbox → Mailbox) : (modMailbox s who f).ctrl = s.ctrl := rfl
@[simp] theorem modMailbox_ldRegs (s : State) (who : Sender) (f : Mailbox → Mailbox) : (modMailbox s who f).ldRegs = s.ldRegs := rfl
@[simp] theorem modMailbox_mailbox (s : State) (who : Sender) (f : Mailbox → Mailbox) : (modMailbox s who f).mailbox = Tbl.change s.mailbox (senderKey who) Mailbox.idle f := rfl
@[simp] theorem modMailbox_calSel (s : State) (who : Sender) (f : Mailbox → Mailbox) : (modMailbox s who f).calSel = s.calSel := rfl
@[simp] theorem modMailbox_queues (s : State) (who : Sender) (f : Mailbox → Mailbox) : (modMailbox s who f).queues = s.queues := rfl
@[simp] theorem modMailbox_works (s : State) (who : Sender) (f : Mailbox → Mailbox) : (modMailbox s who f).works = s.works := rfl
@[simp] theorem modMailbox_stamp (s : State) (who : Sender) (f : Mailbox → Mailbox) : (modMailbox s who f).stamp = s.stamp := rfl
@[simp] theorem modMailbox_journals (s : State) (who : Sender) (f : Mailbox → Mailbox) : (modMailbox s who f).journals = s.journals := rfl
@[simp] theorem modMailbox_receipts (s : State) (who : Sender) (f : Mailbox → Mailbox) : (modMailbox s who f).receipts = s.receipts := rfl
@[simp] theorem modMailbox_strips (s : State) (who : Sender) (f : Mailbox → Mailbox) : (modMailbox s who f).strips = s.strips := rfl
@[simp] theorem modMailbox_flush (s : State) (who : Sender) (f : Mailbox → Mailbox) : (modMailbox s who f).flush = s.flush := rfl
@[simp] theorem modMailbox_tlbs (s : State) (who : Sender) (f : Mailbox → Mailbox) : (modMailbox s who f).tlbs = s.tlbs := rfl
@[simp] theorem modMailbox_invs (s : State) (who : Sender) (f : Mailbox → Mailbox) : (modMailbox s who f).invs = s.invs := rfl
@[simp] theorem modMailbox_store (s : State) (who : Sender) (f : Mailbox → Mailbox) : (modMailbox s who f).store = s.store := rfl
@[simp] theorem modMailbox_order (s : State) (who : Sender) (f : Mailbox → Mailbox) : (modMailbox s who f).order = s.order := rfl
@[simp] theorem modMailbox_embed (s : State) (who : Sender) (f : Mailbox → Mailbox) : (modMailbox s who f).embed = s.embed := rfl
@[simp] theorem modMailbox_fabric (s : State) (who : Sender) (f : Mailbox → Mailbox) : (modMailbox s who f).fabric = s.fabric := rfl
@[simp] theorem modMailbox_cxl (s : State) (who : Sender) (f : Mailbox → Mailbox) : (modMailbox s who f).cxl = s.cxl := rfl
@[simp] theorem modMailbox_comp (s : State) (who : Sender) (f : Mailbox → Mailbox) : (modMailbox s who f).comp = s.comp := rfl
@[simp] theorem modMailbox_sec (s : State) (who : Sender) (f : Mailbox → Mailbox) : (modMailbox s who f).sec = s.sec := rfl
@[simp] theorem modMailbox_power (s : State) (who : Sender) (f : Mailbox → Mailbox) : (modMailbox s who f).power = s.power := rfl

/-! ### modPins -/

@[simp] theorem modPins_pending (s : State) (f : Pins → Pins) : (modPins s f).pending = s.pending := rfl
@[simp] theorem modPins_now (s : State) (f : Pins → Pins) : (modPins s f).now = s.now := rfl
@[simp] theorem modPins_free (s : State) (f : Pins → Pins) : (modPins s f).free = s.free := rfl
@[simp] theorem modPins_outbox (s : State) (f : Pins → Pins) : (modPins s f).outbox = s.outbox := rfl
@[simp] theorem modPins_pins (s : State) (f : Pins → Pins) : (modPins s f).pins = f s.pins := rfl
@[simp] theorem modPins_faults (s : State) (f : Pins → Pins) : (modPins s f).faults = s.faults := rfl
@[simp] theorem modPins_units (s : State) (f : Pins → Pins) : (modPins s f).units = s.units := rfl
@[simp] theorem modPins_boot (s : State) (f : Pins → Pins) : (modPins s f).boot = s.boot := rfl
@[simp] theorem modPins_ctrl (s : State) (f : Pins → Pins) : (modPins s f).ctrl = s.ctrl := rfl
@[simp] theorem modPins_ldRegs (s : State) (f : Pins → Pins) : (modPins s f).ldRegs = s.ldRegs := rfl
@[simp] theorem modPins_mailbox (s : State) (f : Pins → Pins) : (modPins s f).mailbox = s.mailbox := rfl
@[simp] theorem modPins_calSel (s : State) (f : Pins → Pins) : (modPins s f).calSel = s.calSel := rfl
@[simp] theorem modPins_queues (s : State) (f : Pins → Pins) : (modPins s f).queues = s.queues := rfl
@[simp] theorem modPins_works (s : State) (f : Pins → Pins) : (modPins s f).works = s.works := rfl
@[simp] theorem modPins_stamp (s : State) (f : Pins → Pins) : (modPins s f).stamp = s.stamp := rfl
@[simp] theorem modPins_journals (s : State) (f : Pins → Pins) : (modPins s f).journals = s.journals := rfl
@[simp] theorem modPins_receipts (s : State) (f : Pins → Pins) : (modPins s f).receipts = s.receipts := rfl
@[simp] theorem modPins_strips (s : State) (f : Pins → Pins) : (modPins s f).strips = s.strips := rfl
@[simp] theorem modPins_flush (s : State) (f : Pins → Pins) : (modPins s f).flush = s.flush := rfl
@[simp] theorem modPins_tlbs (s : State) (f : Pins → Pins) : (modPins s f).tlbs = s.tlbs := rfl
@[simp] theorem modPins_invs (s : State) (f : Pins → Pins) : (modPins s f).invs = s.invs := rfl
@[simp] theorem modPins_store (s : State) (f : Pins → Pins) : (modPins s f).store = s.store := rfl
@[simp] theorem modPins_order (s : State) (f : Pins → Pins) : (modPins s f).order = s.order := rfl
@[simp] theorem modPins_embed (s : State) (f : Pins → Pins) : (modPins s f).embed = s.embed := rfl
@[simp] theorem modPins_fabric (s : State) (f : Pins → Pins) : (modPins s f).fabric = s.fabric := rfl
@[simp] theorem modPins_cxl (s : State) (f : Pins → Pins) : (modPins s f).cxl = s.cxl := rfl
@[simp] theorem modPins_comp (s : State) (f : Pins → Pins) : (modPins s f).comp = s.comp := rfl
@[simp] theorem modPins_sec (s : State) (f : Pins → Pins) : (modPins s f).sec = s.sec := rfl
@[simp] theorem modPins_power (s : State) (f : Pins → Pins) : (modPins s f).power = s.power := rfl

/-! ### holdLink -/

@[simp] theorem holdLink_pending (s : State) (h : Nat) (io : HeldIo) : (holdLink s h io).pending = s.pending := rfl
@[simp] theorem holdLink_now (s : State) (h : Nat) (io : HeldIo) : (holdLink s h io).now = s.now := rfl
@[simp] theorem holdLink_free (s : State) (h : Nat) (io : HeldIo) : (holdLink s h io).free = s.free := rfl
@[simp] theorem holdLink_outbox (s : State) (h : Nat) (io : HeldIo) : (holdLink s h io).outbox = s.outbox := rfl
@[simp] theorem holdLink_pins (s : State) (h : Nat) (io : HeldIo) : (holdLink s h io).pins = s.pins := rfl
@[simp] theorem holdLink_faults (s : State) (h : Nat) (io : HeldIo) : (holdLink s h io).faults = s.faults := rfl
@[simp] theorem holdLink_units (s : State) (h : Nat) (io : HeldIo) : (holdLink s h io).units = s.units := rfl
@[simp] theorem holdLink_boot (s : State) (h : Nat) (io : HeldIo) : (holdLink s h io).boot = s.boot := rfl
@[simp] theorem holdLink_ctrl (s : State) (h : Nat) (io : HeldIo) : (holdLink s h io).ctrl = s.ctrl := rfl
@[simp] theorem holdLink_ldRegs (s : State) (h : Nat) (io : HeldIo) : (holdLink s h io).ldRegs = s.ldRegs := rfl
@[simp] theorem holdLink_mailbox (s : State) (h : Nat) (io : HeldIo) : (holdLink s h io).mailbox = s.mailbox := rfl
@[simp] theorem holdLink_calSel (s : State) (h : Nat) (io : HeldIo) : (holdLink s h io).calSel = s.calSel := rfl
@[simp] theorem holdLink_queues (s : State) (h : Nat) (io : HeldIo) : (holdLink s h io).queues = s.queues := rfl
@[simp] theorem holdLink_works (s : State) (h : Nat) (io : HeldIo) : (holdLink s h io).works = s.works := rfl
@[simp] theorem holdLink_stamp (s : State) (h : Nat) (io : HeldIo) : (holdLink s h io).stamp = s.stamp := rfl
@[simp] theorem holdLink_journals (s : State) (h : Nat) (io : HeldIo) : (holdLink s h io).journals = s.journals := rfl
@[simp] theorem holdLink_receipts (s : State) (h : Nat) (io : HeldIo) : (holdLink s h io).receipts = s.receipts := rfl
@[simp] theorem holdLink_strips (s : State) (h : Nat) (io : HeldIo) : (holdLink s h io).strips = s.strips := rfl
@[simp] theorem holdLink_flush (s : State) (h : Nat) (io : HeldIo) : (holdLink s h io).flush = s.flush := rfl
@[simp] theorem holdLink_tlbs (s : State) (h : Nat) (io : HeldIo) : (holdLink s h io).tlbs = s.tlbs := rfl
@[simp] theorem holdLink_invs (s : State) (h : Nat) (io : HeldIo) : (holdLink s h io).invs = s.invs := rfl
@[simp] theorem holdLink_store (s : State) (h : Nat) (io : HeldIo) : (holdLink s h io).store = s.store := rfl
@[simp] theorem holdLink_order (s : State) (h : Nat) (io : HeldIo) : (holdLink s h io).order = s.order := rfl
@[simp] theorem holdLink_embed (s : State) (h : Nat) (io : HeldIo) : (holdLink s h io).embed = s.embed := rfl
@[simp] theorem holdLink_fabric (s : State) (h : Nat) (io : HeldIo) : (holdLink s h io).fabric = s.fabric := rfl
@[simp] theorem holdLink_comp (s : State) (h : Nat) (io : HeldIo) : (holdLink s h io).comp = s.comp := rfl
@[simp] theorem holdLink_sec (s : State) (h : Nat) (io : HeldIo) : (holdLink s h io).sec = s.sec := rfl
@[simp] theorem holdLink_power (s : State) (h : Nat) (io : HeldIo) : (holdLink s h io).power = s.power := rfl

/-! ### State.withPending -/

@[simp] theorem State.withPending_pending (s : State) (rest : List Instr) : (s.withPending rest).pending = rest := rfl
@[simp] theorem State.withPending_now (s : State) (rest : List Instr) : (s.withPending rest).now = s.now := rfl
@[simp] theorem State.withPending_free (s : State) (rest : List Instr) : (s.withPending rest).free = s.free := rfl
@[simp] theorem State.withPending_outbox (s : State) (rest : List Instr) : (s.withPending rest).outbox = s.outbox := rfl
@[simp] theorem State.withPending_pins (s : State) (rest : List Instr) : (s.withPending rest).pins = s.pins := rfl
@[simp] theorem State.withPending_faults (s : State) (rest : List Instr) : (s.withPending rest).faults = s.faults := rfl
@[simp] theorem State.withPending_units (s : State) (rest : List Instr) : (s.withPending rest).units = s.units := rfl
@[simp] theorem State.withPending_boot (s : State) (rest : List Instr) : (s.withPending rest).boot = s.boot := rfl
@[simp] theorem State.withPending_ctrl (s : State) (rest : List Instr) : (s.withPending rest).ctrl = s.ctrl := rfl
@[simp] theorem State.withPending_ldRegs (s : State) (rest : List Instr) : (s.withPending rest).ldRegs = s.ldRegs := rfl
@[simp] theorem State.withPending_mailbox (s : State) (rest : List Instr) : (s.withPending rest).mailbox = s.mailbox := rfl
@[simp] theorem State.withPending_calSel (s : State) (rest : List Instr) : (s.withPending rest).calSel = s.calSel := rfl
@[simp] theorem State.withPending_queues (s : State) (rest : List Instr) : (s.withPending rest).queues = s.queues := rfl
@[simp] theorem State.withPending_works (s : State) (rest : List Instr) : (s.withPending rest).works = s.works := rfl
@[simp] theorem State.withPending_stamp (s : State) (rest : List Instr) : (s.withPending rest).stamp = s.stamp := rfl
@[simp] theorem State.withPending_journals (s : State) (rest : List Instr) : (s.withPending rest).journals = s.journals := rfl
@[simp] theorem State.withPending_receipts (s : State) (rest : List Instr) : (s.withPending rest).receipts = s.receipts := rfl
@[simp] theorem State.withPending_strips (s : State) (rest : List Instr) : (s.withPending rest).strips = s.strips := rfl
@[simp] theorem State.withPending_flush (s : State) (rest : List Instr) : (s.withPending rest).flush = s.flush := rfl
@[simp] theorem State.withPending_tlbs (s : State) (rest : List Instr) : (s.withPending rest).tlbs = s.tlbs := rfl
@[simp] theorem State.withPending_invs (s : State) (rest : List Instr) : (s.withPending rest).invs = s.invs := rfl
@[simp] theorem State.withPending_store (s : State) (rest : List Instr) : (s.withPending rest).store = s.store := rfl
@[simp] theorem State.withPending_order (s : State) (rest : List Instr) : (s.withPending rest).order = s.order := rfl
@[simp] theorem State.withPending_embed (s : State) (rest : List Instr) : (s.withPending rest).embed = s.embed := rfl
@[simp] theorem State.withPending_fabric (s : State) (rest : List Instr) : (s.withPending rest).fabric = s.fabric := rfl
@[simp] theorem State.withPending_cxl (s : State) (rest : List Instr) : (s.withPending rest).cxl = s.cxl := rfl
@[simp] theorem State.withPending_comp (s : State) (rest : List Instr) : (s.withPending rest).comp = s.comp := rfl
@[simp] theorem State.withPending_sec (s : State) (rest : List Instr) : (s.withPending rest).sec = s.sec := rfl
@[simp] theorem State.withPending_power (s : State) (rest : List Instr) : (s.withPending rest).power = s.power := rfl

/-! ### idle -/

@[simp] theorem idle_pending (s : State) : (idle s).pending = s.pending := rfl
@[simp] theorem idle_now (s : State) : (idle s).now = s.now + Config.refclkNs := rfl
@[simp] theorem idle_free (s : State) : (idle s).free = s.free := rfl
@[simp] theorem idle_outbox (s : State) : (idle s).outbox = s.outbox := rfl
@[simp] theorem idle_pins (s : State) : (idle s).pins = s.pins := rfl
@[simp] theorem idle_faults (s : State) : (idle s).faults = s.faults := rfl
@[simp] theorem idle_units (s : State) : (idle s).units = s.units := rfl
@[simp] theorem idle_boot (s : State) : (idle s).boot = s.boot := rfl
@[simp] theorem idle_ctrl (s : State) : (idle s).ctrl = s.ctrl := rfl
@[simp] theorem idle_ldRegs (s : State) : (idle s).ldRegs = s.ldRegs := rfl
@[simp] theorem idle_mailbox (s : State) : (idle s).mailbox = s.mailbox := rfl
@[simp] theorem idle_calSel (s : State) : (idle s).calSel = s.calSel := rfl
@[simp] theorem idle_queues (s : State) : (idle s).queues = s.queues := rfl
@[simp] theorem idle_works (s : State) : (idle s).works = s.works := rfl
@[simp] theorem idle_stamp (s : State) : (idle s).stamp = s.stamp := rfl
@[simp] theorem idle_journals (s : State) : (idle s).journals = s.journals := rfl
@[simp] theorem idle_receipts (s : State) : (idle s).receipts = s.receipts := rfl
@[simp] theorem idle_strips (s : State) : (idle s).strips = s.strips := rfl
@[simp] theorem idle_flush (s : State) : (idle s).flush = s.flush := rfl
@[simp] theorem idle_tlbs (s : State) : (idle s).tlbs = s.tlbs := rfl
@[simp] theorem idle_invs (s : State) : (idle s).invs = s.invs := rfl
@[simp] theorem idle_store (s : State) : (idle s).store = s.store := rfl
@[simp] theorem idle_order (s : State) : (idle s).order = s.order := rfl
@[simp] theorem idle_embed (s : State) : (idle s).embed = s.embed := rfl
@[simp] theorem idle_fabric (s : State) : (idle s).fabric = s.fabric := rfl
@[simp] theorem idle_cxl (s : State) : (idle s).cxl = s.cxl := rfl
@[simp] theorem idle_comp (s : State) : (idle s).comp = s.comp := rfl
@[simp] theorem idle_sec (s : State) : (idle s).sec = s.sec := rfl
@[simp] theorem idle_power (s : State) : (idle s).power = s.power := rfl

/-! ### raise -/

/-- All that raise changes is `faults`. -/
theorem raise_only (s : State) (code : Nat) (i : FaultInfo) :
    raise s code i = { s with faults := (raise s code i).faults } := by
  unfold raise; dsimp only; (repeat' split) <;> rfl

@[simp] theorem raise_pending (s : State) (code : Nat) (i : FaultInfo) : (raise s code i).pending = s.pending := by
  rw [raise_only]
@[simp] theorem raise_now (s : State) (code : Nat) (i : FaultInfo) : (raise s code i).now = s.now := by
  rw [raise_only]
@[simp] theorem raise_free (s : State) (code : Nat) (i : FaultInfo) : (raise s code i).free = s.free := by
  rw [raise_only]
@[simp] theorem raise_outbox (s : State) (code : Nat) (i : FaultInfo) : (raise s code i).outbox = s.outbox := by
  rw [raise_only]
@[simp] theorem raise_pins (s : State) (code : Nat) (i : FaultInfo) : (raise s code i).pins = s.pins := by
  rw [raise_only]
@[simp] theorem raise_units (s : State) (code : Nat) (i : FaultInfo) : (raise s code i).units = s.units := by
  rw [raise_only]
@[simp] theorem raise_boot (s : State) (code : Nat) (i : FaultInfo) : (raise s code i).boot = s.boot := by
  rw [raise_only]
@[simp] theorem raise_ctrl (s : State) (code : Nat) (i : FaultInfo) : (raise s code i).ctrl = s.ctrl := by
  rw [raise_only]
@[simp] theorem raise_ldRegs (s : State) (code : Nat) (i : FaultInfo) : (raise s code i).ldRegs = s.ldRegs := by
  rw [raise_only]
@[simp] theorem raise_mailbox (s : State) (code : Nat) (i : FaultInfo) : (raise s code i).mailbox = s.mailbox := by
  rw [raise_only]
@[simp] theorem raise_calSel (s : State) (code : Nat) (i : FaultInfo) : (raise s code i).calSel = s.calSel := by
  rw [raise_only]
@[simp] theorem raise_queues (s : State) (code : Nat) (i : FaultInfo) : (raise s code i).queues = s.queues := by
  rw [raise_only]
@[simp] theorem raise_works (s : State) (code : Nat) (i : FaultInfo) : (raise s code i).works = s.works := by
  rw [raise_only]
@[simp] theorem raise_stamp (s : State) (code : Nat) (i : FaultInfo) : (raise s code i).stamp = s.stamp := by
  rw [raise_only]
@[simp] theorem raise_journals (s : State) (code : Nat) (i : FaultInfo) : (raise s code i).journals = s.journals := by
  rw [raise_only]
@[simp] theorem raise_receipts (s : State) (code : Nat) (i : FaultInfo) : (raise s code i).receipts = s.receipts := by
  rw [raise_only]
@[simp] theorem raise_strips (s : State) (code : Nat) (i : FaultInfo) : (raise s code i).strips = s.strips := by
  rw [raise_only]
@[simp] theorem raise_flush (s : State) (code : Nat) (i : FaultInfo) : (raise s code i).flush = s.flush := by
  rw [raise_only]
@[simp] theorem raise_tlbs (s : State) (code : Nat) (i : FaultInfo) : (raise s code i).tlbs = s.tlbs := by
  rw [raise_only]
@[simp] theorem raise_invs (s : State) (code : Nat) (i : FaultInfo) : (raise s code i).invs = s.invs := by
  rw [raise_only]
@[simp] theorem raise_store (s : State) (code : Nat) (i : FaultInfo) : (raise s code i).store = s.store := by
  rw [raise_only]
@[simp] theorem raise_order (s : State) (code : Nat) (i : FaultInfo) : (raise s code i).order = s.order := by
  rw [raise_only]
@[simp] theorem raise_embed (s : State) (code : Nat) (i : FaultInfo) : (raise s code i).embed = s.embed := by
  rw [raise_only]
@[simp] theorem raise_fabric (s : State) (code : Nat) (i : FaultInfo) : (raise s code i).fabric = s.fabric := by
  rw [raise_only]
@[simp] theorem raise_cxl (s : State) (code : Nat) (i : FaultInfo) : (raise s code i).cxl = s.cxl := by
  rw [raise_only]
@[simp] theorem raise_comp (s : State) (code : Nat) (i : FaultInfo) : (raise s code i).comp = s.comp := by
  rw [raise_only]
@[simp] theorem raise_sec (s : State) (code : Nat) (i : FaultInfo) : (raise s code i).sec = s.sec := by
  rw [raise_only]
@[simp] theorem raise_power (s : State) (code : Nat) (i : FaultInfo) : (raise s code i).power = s.power := by
  rw [raise_only]

/-! ### poisonUnit -/

/-- All that poisonUnit changes is `store`. -/
theorem poisonUnit_only (s : State) (unit : Nat) :
    poisonUnit s unit = { s with store := (poisonUnit s unit).store } := by
  unfold poisonUnit; dsimp only; (repeat' split) <;> rfl

@[simp] theorem poisonUnit_pending (s : State) (unit : Nat) : (poisonUnit s unit).pending = s.pending := by
  rw [poisonUnit_only]
@[simp] theorem poisonUnit_now (s : State) (unit : Nat) : (poisonUnit s unit).now = s.now := by
  rw [poisonUnit_only]
@[simp] theorem poisonUnit_free (s : State) (unit : Nat) : (poisonUnit s unit).free = s.free := by
  rw [poisonUnit_only]
@[simp] theorem poisonUnit_outbox (s : State) (unit : Nat) : (poisonUnit s unit).outbox = s.outbox := by
  rw [poisonUnit_only]
@[simp] theorem poisonUnit_pins (s : State) (unit : Nat) : (poisonUnit s unit).pins = s.pins := by
  rw [poisonUnit_only]
@[simp] theorem poisonUnit_faults (s : State) (unit : Nat) : (poisonUnit s unit).faults = s.faults := by
  rw [poisonUnit_only]
@[simp] theorem poisonUnit_units (s : State) (unit : Nat) : (poisonUnit s unit).units = s.units := by
  rw [poisonUnit_only]
@[simp] theorem poisonUnit_boot (s : State) (unit : Nat) : (poisonUnit s unit).boot = s.boot := by
  rw [poisonUnit_only]
@[simp] theorem poisonUnit_ctrl (s : State) (unit : Nat) : (poisonUnit s unit).ctrl = s.ctrl := by
  rw [poisonUnit_only]
@[simp] theorem poisonUnit_ldRegs (s : State) (unit : Nat) : (poisonUnit s unit).ldRegs = s.ldRegs := by
  rw [poisonUnit_only]
@[simp] theorem poisonUnit_mailbox (s : State) (unit : Nat) : (poisonUnit s unit).mailbox = s.mailbox := by
  rw [poisonUnit_only]
@[simp] theorem poisonUnit_calSel (s : State) (unit : Nat) : (poisonUnit s unit).calSel = s.calSel := by
  rw [poisonUnit_only]
@[simp] theorem poisonUnit_queues (s : State) (unit : Nat) : (poisonUnit s unit).queues = s.queues := by
  rw [poisonUnit_only]
@[simp] theorem poisonUnit_works (s : State) (unit : Nat) : (poisonUnit s unit).works = s.works := by
  rw [poisonUnit_only]
@[simp] theorem poisonUnit_stamp (s : State) (unit : Nat) : (poisonUnit s unit).stamp = s.stamp := by
  rw [poisonUnit_only]
@[simp] theorem poisonUnit_journals (s : State) (unit : Nat) : (poisonUnit s unit).journals = s.journals := by
  rw [poisonUnit_only]
@[simp] theorem poisonUnit_receipts (s : State) (unit : Nat) : (poisonUnit s unit).receipts = s.receipts := by
  rw [poisonUnit_only]
@[simp] theorem poisonUnit_strips (s : State) (unit : Nat) : (poisonUnit s unit).strips = s.strips := by
  rw [poisonUnit_only]
@[simp] theorem poisonUnit_flush (s : State) (unit : Nat) : (poisonUnit s unit).flush = s.flush := by
  rw [poisonUnit_only]
@[simp] theorem poisonUnit_tlbs (s : State) (unit : Nat) : (poisonUnit s unit).tlbs = s.tlbs := by
  rw [poisonUnit_only]
@[simp] theorem poisonUnit_invs (s : State) (unit : Nat) : (poisonUnit s unit).invs = s.invs := by
  rw [poisonUnit_only]
@[simp] theorem poisonUnit_order (s : State) (unit : Nat) : (poisonUnit s unit).order = s.order := by
  rw [poisonUnit_only]
@[simp] theorem poisonUnit_embed (s : State) (unit : Nat) : (poisonUnit s unit).embed = s.embed := by
  rw [poisonUnit_only]
@[simp] theorem poisonUnit_fabric (s : State) (unit : Nat) : (poisonUnit s unit).fabric = s.fabric := by
  rw [poisonUnit_only]
@[simp] theorem poisonUnit_cxl (s : State) (unit : Nat) : (poisonUnit s unit).cxl = s.cxl := by
  rw [poisonUnit_only]
@[simp] theorem poisonUnit_comp (s : State) (unit : Nat) : (poisonUnit s unit).comp = s.comp := by
  rw [poisonUnit_only]
@[simp] theorem poisonUnit_sec (s : State) (unit : Nat) : (poisonUnit s unit).sec = s.sec := by
  rw [poisonUnit_only]
@[simp] theorem poisonUnit_power (s : State) (unit : Nat) : (poisonUnit s unit).power = s.power := by
  rw [poisonUnit_only]

end Sys2Proof.Machine
end

