-- ==== Sys2Proof/Laws/Outcome.lean ====
section
/-! SUPPORT. What a command's outcome is: the effect on a hub that acts, and the flits of what was sent. -/

namespace Sys2Proof.Machine

open Sys2Proof

theorem foldl_keeps {α : Type} (P : State → Prop) (f : State → α → State) (hf : ∀ s a, P s → P (f s a)) :
    ∀ (l : List α) (s : State), P s → P (l.foldl f s)
  | [], _, h => h
  | a :: t, s, h => foldl_keeps P f hf t (f s a) (hf s a h)

/-- Taking flits changes nothing but the ports' sequence numbers and replay buffers. -/
theorem frameOne_only (s : State) (o : Out) :
    frameOne s o = { s with fabric := { s.fabric with ports := (frameOne s o).fabric.ports } } := by
  cases o <;> first
    | rfl
    | (simp only [frameOne]
       split
       · rfl
       · split <;> rfl)

theorem frameAll_only (os : List Out) (s : State) :
    os.foldl frameOne s = { s with fabric := { s.fabric with ports := (os.foldl frameOne s).fabric.ports } } := by
  induction os generalizing s with
  | nil => rfl
  | cons o t ih =>
    have h := ih (frameOne s o)
    rw [frameOne_only s o] at h
    rw [List.foldl_cons, frameOne_only s o]
    exact h

theorem frameOut_only (n : Nat) (s : State) :
    frameOut n s = { s with fabric := { s.fabric with ports := (frameOut n s).fabric.ports } } :=
  frameAll_only _ s

/-- A command that sends nothing takes no flits. -/
theorem frameOut_quiet (s t : State) (h : t.outbox = s.outbox) : frameOut s.outbox.length t = t := by
  simp [frameOut, h]

/-- The flits of a command are those of what it has sent. -/
theorem frameOut_sent (s t : State) (os : List Out) (h : t.outbox = s.outbox ++ os) :
    frameOut s.outbox.length t = os.foldl frameOne t := by
  simp [frameOut, h]

/-- A message to no other node takes no flit. -/
theorem frameOne_local (s : State) (o : Out) (h : outFlits o = none) (hf : ∀ p a b c d e f, o ≠ .flit p a b c d e f) :
    frameOne s o = s := by
  cases o
  case flit => exact absurd rfl (hf _ _ _ _ _ _ _)
  all_goals simp_all [frameOne]

theorem frameAll_local (os : List Out) (s : State)
    (h : ∀ o ∈ os, outFlits o = none ∧ ∀ p a b c d e f, o ≠ .flit p a b c d e f) : os.foldl frameOne s = s := by
  induction os generalizing s with
  | nil => rfl
  | cons o t ih =>
    rw [List.foldl_cons, frameOne_local s o (h o (by simp)).1 (h o (by simp)).2]
    exact ih s fun x hx => h x (by simp [hx])

/-! ### act -/

theorem act_asleep (s : State) (f : State → State) (h : awake s = false) : act s f = .next s := by simp [act, h]

theorem act_awake (s : State) (f : State → State) (h : awake s = true) :
    act s f = .next (frameOut s.outbox.length (f s)) := by simp [act, h]

/-- The outcome of a command that sends nothing is its effect. -/
theorem act_quiet (s : State) (f : State → State) (h : awake s = true) (ho : (f s).outbox = s.outbox) :
    act s f = .next (f s) := by rw [act_awake s f h, frameOut_quiet s _ ho]

/-- The outcome of a command that sends to no other node is its effect. -/
theorem act_local (s : State) (f : State → State) (os : List Out) (h : awake s = true) (ho : (f s).outbox = s.outbox ++ os)
    (hl : ∀ o ∈ os, outFlits o = none ∧ ∀ p a b c d e f, o ≠ .flit p a b c d e f) : act s f = .next (f s) := by
  rw [act_awake s f h, frameOut_sent s _ os ho, frameAll_local os _ hl]

/-- What the outcome of a command is, up to the ports' flits. -/
theorem act_ports (s : State) (f : State → State) (h : awake s = true) :
    ∃ ports, act s f = .next { f s with fabric := { (f s).fabric with ports := ports } } :=
  ⟨_, by rw [act_awake s f h, frameOut_only]⟩

end Sys2Proof.Machine
end

