-- ==== Sys2Proof/WellFormed.lean ====
section
/-! DEFINITION. Well-formed commands: every operand within the range of the field that carries it. The meanings accept
every operand; the statements that need a range name it. -/

namespace Sys2Proof

/-- A sender is the management port or one of the logical devices of R428. -/
def Sender.wf : Sender → Bool
  | .mgmt => true
  | .ld n => decide (n < 64)

/-- The header of an exchange message fits its fields (R249). -/
def ExHeader.wf (h : ExHeader) : Bool :=
  decide (h.table < 65536) && decide (h.tenant < 4096) && decide (h.src < 4096) && decide (h.epoch < 2 ^ 32)
    && decide (h.queue < 16384)

/-- The header of an Ifeverlink message fits its fields (R406). -/
def MsgHeader.wf (m : MsgHeader) : Bool :=
  decide (m.src < 4096) && decide (m.tenant < 4096) && decide (m.tag < 65536) && decide (m.offset < 2 ^ 48)

/-- Every operand of a command lies within its field. -/
def Instr.wf : Instr → Bool
  | .registerWrite who offset _ => who.wf && decide (offset < 67108864)
  | .faultSummaryClear who _ => who.wf
  | .sqTail ld queue _ => decide (ld < 64) && decide (queue < 16384)
  | .cqHead ld queue _ => decide (ld < 64) && decide (queue < 16384)
  | .badSeq queue => decide (queue < 16384)
  | .descriptorAccept queue => decide (queue < 16384)
  | .segmentPlace queue _ => decide (queue < 16384)
  | .shapeChange cluster => decide (cluster < 32)
  | .dwellExpiry shape => decide (shape < 16)
  | .nop queue _ => decide (queue < 16384)
  | .gather queue _ => decide (queue < 16384)
  | .pool queue _ => decide (queue < 16384)
  | .scatterAdd queue _ => decide (queue < 16384)
  | .copyConvert queue _ => decide (queue < 16384)
  | .pqScan queue _ => decide (queue < 16384)
  | .hamScan queue _ => decide (queue < 16384)
  | .append queue _ => decide (queue < 16384)
  | .delete queue _ => decide (queue < 16384)
  | .seal queue _ => decide (queue < 16384)
  | .topkMerge queue _ => decide (queue < 16384)
  | .layerStream queue _ => decide (queue < 16384)
  | .kvPush queue _ => decide (queue < 16384)
  | .kvFetch queue _ _ _ => decide (queue < 16384)
  | .pageOut queue _ => decide (queue < 16384)
  | .pageIn queue _ => decide (queue < 16384)
  | .atomicBatch queue _ => decide (queue < 16384)
  | .fill queue _ => decide (queue < 16384)
  | .fenceQueue queue _ => decide (queue < 16384)
  | .fenceHub queue _ => decide (queue < 16384)
  | .fenceFabric queue _ => decide (queue < 16384)
  | .waitTally queue _ => decide (queue < 16384)
  | .glazePublish queue _ => decide (queue < 16384)
  | .glazeDiscard queue _ => decide (queue < 16384)
  | .glazeRefresh queue _ => decide (queue < 16384)
  | .glazeVersion queue _ => decide (queue < 16384)
  | .redoApply queue _ => decide (queue < 16384)
  | .descriptorComplete queue => decide (queue < 16384)
  | .msixPendingSend ld _ => decide (ld < 64)
  | .stripQueue who queue => who.wf && decide (queue < 16384)
  | .stripTenant who tenant => who.wf && decide (tenant < 4096)
  | .stripCluster who cluster => who.wf && decide (cluster < 32)
  | .stripDone who => who.wf
  | .resume ld queue _ => decide (ld < 64) && decide (queue < 16384)
  | .replay journal => decide (journal < 4)
  | .journalRebuildDone journal => decide (journal < 4)
  | .tlbInv ld tenant => decide (ld < 64) && decide (tenant < 4096)
  | .tlbInvDone ld => decide (ld < 64)
  | .atsCompletion tag _ => decide (tag < 65536)
  | .atsTimeout tag => decide (tag < 65536)
  | .atsInvalidateRequest ld pasid _ _ => decide (ld < 64) && decide (pasid < 2 ^ 20)
  | .atsInvalidateCompletion ld => decide (ld < 64)
  | .cloveClear who => who.wf
  | .cloveHalve cluster => decide (cluster < 32)
  | .srSourceFail cluster lane => decide (cluster < 32) && decide (lane < 512)
  | .srSourcePass cluster lane => decide (cluster < 32) && decide (lane < 512)
  | .poolReq src h _ => decide (src < 4096) && h.wf
  | .poolRsp src h _ _ => decide (src < 4096) && h.wf
  | .busy src h => decide (src < 4096) && h.wf
  | .straggle queue _ _ => decide (queue < 16384)
  | .prep src h _ => decide (src < 4096) && h.wf
  | .prepRsp src h => decide (src < 4096) && h.wf
  | .delta src h _ => decide (src < 4096) && h.wf
  | .deltaAck src h => decide (src < 4096) && h.wf
  | .release src h => decide (src < 4096) && h.wf
  | .load m _ _ => m.wf
  | .store m _ => m.wf
  | .atomic m _ queue _ _ _ => m.wf && decide (queue < 16384)
  | .atomicCheck m _ queue _ _ _ => m.wf && decide (queue < 16384)
  | .loadRsp src tag _ _ _ => decide (src < 4096) && decide (tag < 65536)
  | .storeAck src tag _ => decide (src < 4096) && decide (tag < 65536)
  | .atomicRsp src tag _ _ => decide (src < 4096) && decide (tag < 65536)
  | .iflTimeout tag => decide (tag < 65536)
  | .readShared m => m.wf
  | .readOwn m => m.wf
  | .upgrade m => m.wf
  | .evict m _ => m.wf
  | .retry m _ _ => m.wf
  | .fwdShared m requester => m.wf && decide (requester < 4096)
  | .fwdOwn m requester => m.wf && decide (requester < 4096)
  | .inv m => m.wf
  | .recall m => m.wf
  | .data m _ _ _ => m.wf
  | .grant m => m.wf
  | .nack m _ => m.wf
  | .invAck m _ => m.wf
  | .versionNotice m version => m.wf && decide (version < 2 ^ 64)
  | .versionReq m => m.wf
  | .versionRsp m _ version => m.wf && decide (version < 2 ^ 64)
  | .draftLeaseExpiry _ tenant writer => decide (tenant < 4096) && decide (writer < 4096)
  | .tallyStore m _ => m.wf
  | .tallyCreditSend queue _ => decide (queue < 16384)
  | .tallyCredit src channel tag _ _ _ => decide (src < 4096) && decide (channel < 65536) && decide (tag < 65536)
  | .creditAck src tag => decide (src < 4096) && decide (tag < 65536)
  | .controlFlit port _ _ lanes _ _ => decide (port < 12) && decide (lanes < 16)
  | .flitForward port src dst vc hopsLeft _ _ => decide (port < 12) && decide (src < 4096) && decide (dst < 4096) && decide (vc < 8) && decide (hopsLeft < 64)
  | .laneLockLoss port lane => decide (port < 12) && decide (lane < 4)
  | .laneErrorWindow port lane => decide (port < 12) && decide (lane < 4)
  | .linkRetrain who port => who.wf && decide (port < 12)
  | .linkTrainingDone port lanes partner _ _ _ => decide (port < 12) && decide (lanes < 16) && decide (partner < 4096)
  | .helloTimeout port _ => decide (port < 12)
  | .linkKeyUpdateDue port => decide (port < 12)
  | .barrier src vc => decide (src < 4096) && decide (vc < 8)
  | .barrierAck src => decide (src < 4096)
  | .linkFate port _ => decide (port < 12)
  | .linkFateTimeout port => decide (port < 12)
  | .heartbeatInterval => true
  | .heartbeat src _ _ _ _ => decide (src < 4096)
  | .memberUnreachable node => decide (node < 4096)
  | .change src changeSeq _ => decide (src < 4096) && decide (changeSeq < 2 ^ 64)
  | .changeAnswer src changeSeq _ => decide (src < 4096) && decide (changeSeq < 2 ^ 64)
  | .forward src tag _ => decide (src < 4096) && decide (tag < 65536)
  | .forwardAnswer src tag _ => decide (src < 4096) && decide (tag < 65536)
  | .flipRequest src table _ _ => decide (src < 4096) && decide (table < 65536)
  | .graceAdvance table => decide (table < 65536)
  | .catchUp src changeSeq => decide (src < 4096) && decide (changeSeq < 2 ^ 64)
  | .snapshot src changeSeq _ => decide (src < 4096) && decide (changeSeq < 2 ^ 64)
  | .seqQuery src changeSeq => decide (src < 4096) && decide (changeSeq < 2 ^ 64)
  | .seqReport src changeSeq _ => decide (src < 4096) && decide (changeSeq < 2 ^ 64)
  | .replicaStale src table _ _ => decide (src < 4096) && decide (table < 65536)
  | .bindTenant ld tenant pasid _ => decide (ld < 64) && decide (tenant < 4096) && decide (pasid < 2 ^ 20)
  | .unbindTenant ld tenant => decide (ld < 64) && decide (tenant < 4096)
  | .setHdmMap ld decoder _ tenant target _ => decide (ld < 64) && decide (decoder < 8) && decide (tenant < 4096) && decide (target < 4096)
  | .bindQueue queue tenant _ irqLd => decide (queue < 16384) && decide (tenant < 4096) && decide (irqLd < 64)
  | .unbindQueue queue => decide (queue < 16384)
  | .setQuota tenant _ _ _ => decide (tenant < 4096)
  | .putTable id _ => decide (id < 65536)
  | .dropTable id => decide (id < 65536)
  | .moveShard table _ _ newNode _ => decide (table < 65536) && decide (newNode < 4096)
  | .refreshReplica table _ => decide (table < 65536)
  | .putIndex id _ hub => decide (id < 65536) && decide (hub < 4096)
  | .dropIndex id hub => decide (id < 65536) && decide (hub < 4096)
  | .setRoute hub dest _ => decide (hub < 4096) && decide (dest < 4096)
  | .setKvPool _ _ tenant hub _ => decide (tenant < 4096) && decide (hub < 4096)
  | .kvAttach _ node => decide (node < 4096)
  | .kvDetach _ node => decide (node < 4096)
  | .skimContext tenant => decide (tenant < 4096)
  | .skimMemory tenant => decide (tenant < 4096)
  | .skimDone tenant => decide (tenant < 4096)
  | .fmIdentify => true
  | .getLdInfo _ => true
  | .getLdAllocations port => decide (port < 4)
  | .setLdAllocations port _ _ => decide (port < 4)
  | .getQosControl port => decide (port < 4)
  | .setQosControl port _ => decide (port < 4)
  | .getQosStatus port => decide (port < 4)
  | .getQosAllocatedBw port => decide (port < 4)
  | .setQosAllocatedBw port _ _ => decide (port < 4)
  | .getQosBwLimit port => decide (port < 4)
  | .setQosBwLimit port _ _ => decide (port < 4)
  | .getEventRecords ld _ => decide (ld < 64)
  | .clearEventRecords ld _ _ _ => decide (ld < 64)
  | .getEventInterruptPolicy ld => decide (ld < 64)
  | .setEventInterruptPolicy ld _ => decide (ld < 64)
  | .getFwInfo ld => decide (ld < 64)
  | .getTimestamp ld => decide (ld < 64)
  | .setTimestamp ld _ => decide (ld < 64)
  | .getSupportedLogs ld => decide (ld < 64)
  | .getLog ld _ => decide (ld < 64)
  | .identifyMemoryDevice ld => decide (ld < 64)
  | .getHealthInfo ld => decide (ld < 64)
  | .getAlertConfiguration ld => decide (ld < 64)
  | .setAlertConfiguration ld _ => decide (ld < 64)
  | .getPoisonList ld _ _ => decide (ld < 64)
  | .injectPoison ld _ => decide (ld < 64)
  | .clearPoison ld _ _ => decide (ld < 64)
  | .getScanMediaCapabilities ld _ _ => decide (ld < 64)
  | .scanMedia ld _ _ => decide (ld < 64)
  | .getScanMediaResults ld => decide (ld < 64)
  | .getHubInfo ld => decide (ld < 64)
  | .readRbs ld _ _ _ => decide (ld < 64)
  | .readFaults ld _ _ _ => decide (ld < 64)
  | .rbsRead tag _ _ _ => decide (tag < 65536)
  | .faultRead tag _ _ _ => decide (tag < 65536)
  | .allocPages who tag tenant count flags format cls pub => who.wf && decide (tag < 65536) && decide (tenant < 4096) && decide (count < 65536) && decide (flags < 256) && decide (format < 256) && decide (cls < 256) && decide (pub < 256)
  | .freePages who tag tenant count firstSa => who.wf && decide (tag < 65536) && decide (tenant < 4096) && decide (count < 65536) && decide (firstSa < 2 ^ 64)
  | .evictionWaitExpiry _ => true
  | .lineSalvage who tag tenant lines firstSa => who.wf && decide (tag < 65536) && decide (tenant < 4096) && decide (lines < 65536) && decide (firstSa < 2 ^ 64)
  | .bindContent who tag tenant pages firstSa _ => who.wf && decide (tag < 65536) && decide (tenant < 4096) && decide (pages < 2 ^ 32) && decide (firstSa < 2 ^ 64)
  | .unbindContent who tag tenant _ => who.wf && decide (tag < 65536) && decide (tenant < 4096)
  | .debugUnlock who tag _ => who.wf && decide (tag < 65536)
  | .debugPathsOpen => true
  | .imageWrite who tag _ _ _ _ => who.wf && decide (tag < 65536)
  | .dirSet who tag _ => who.wf && decide (tag < 65536)
  | .getVersion who => who.wf
  | .getCapabilities who => who.wf
  | .negotiateAlgorithms who _ => who.wf
  | .getDigests who => who.wf
  | .getCertificate who _ => who.wf
  | .challenge who _ _ => who.wf
  | .getMeasurements who _ _ => who.wf
  | .keyExchange who _ => who.wf
  | .finish who _ => who.wf
  | .keyUpdate who _ => who.wf
  | .spdmHeartbeat who => who.wf
  | .endSession who => who.wf
  | .getLmsSignature who => who.wf
  | .doeDiscovery ld => decide (ld < 64)
  | .cdatTableAccess ld => decide (ld < 64)
  | .compliance ld => decide (ld < 64)
  | .bypass => true
  | .idcode => true
  | .samplePreload => true
  | .extest => true
  | .clamp => true
  | .highz => true
  | .cxlMemRead ld tag _ _ _ => decide (ld < 64) && decide (tag < 65536)
  | .cxlMemWrite ld tag _ _ _ _ => decide (ld < 64) && decide (tag < 65536)
  | .memHoldExpiry ld tag => decide (ld < 64) && decide (tag < 65536)
  | .hdmDecoderCommit ld decoder setup => decide (ld < 64) && decide (decoder < 8) && decide (setup.position < 16)
  | .cxlLinkDown link => decide (link < 8)
  | .hostHoldExpiry link => decide (link < 8)
  | .perstN port => decide (port < 4)
  | .hotReset link => decide (link < 8)
  | .functionLevelReset ld => decide (ld < 64)
  | .cxlReset ld => decide (ld < 64)
  | .cxlIoCompletion tag _ => decide (tag < 65536)
  | .cxlIoTimeout tag => decide (tag < 65536)
  | .ideIntegrityFailure link => decide (link < 8)
  | .d2dLaneFault link => decide (link < 11)
  | .cellRetired _ _ _ _ => true
  | .blockUnresponsive _ _ => true
  | .regionIsolated region => decide (region < 4)
  | .eDieFailure die => decide (die < 2)
  | .xDieFailure => true
  | .portFailed _ port _ => decide (port < 12)
  | .flashDieFailure channel _ => decide (channel < 32)
  | .tierEviction _ => true
  | .promotion => true
  | .moveFlip page => decide (page < 100663296)
  | .deepPromotionDone page => decide (page < 100663296)
  | .promotedReturn page => decide (page < 100663296)
  | .pwrGoodRise straps _ => decide (straps < 16)
  | .slotCheck _ _ => true
  | .unitReady _ => true
  | .unitTrainTimeout _ _ => true
  | .flushRestore => true
  | .dhcpLease _ => true
  | .noLease => true
  | .tftpBlock _ => true
  | .tftpTimeout => true
  | .tftpError => true
  | .fwFileAccept cls _ => decide (cls < 256)
  | .fetchBackoff => true
  | .svnAutoRaise => true
  | .hubResetNFall => true
  | .hubResetNRise straps => decide (straps < 16)
  | .pwrFailNFall => true
  | .flushDone => true
  | .pwrFailNRise => true
  | .pwrGoodFall => true
  | .thermtrip sensor => decide (sensor < 48)
  | .watchdogExpiry core => decide (core < 35)
  | .coreTrap core => decide (core < 35)
  | .coreEccError core => decide (core < 35)
  | .coreRestartTimeout core => decide (core < 35)
  | .packagePowerCap _ _ => true
  | .regionThermal region _ => decide (region < 4)
  | .railTracking => true
  | .powerGuard _ => true
  | .powerTelemetryWindow _ _ => true
  | .perfWindow _ => true
  | .calTrack _ => true
  | .calOverride _ => true
  | .calOverrideClear => true
  | .sensorOut sensor => decide (sensor < 48)
  | .cxlIdeKm link _ => decide (link < 8)
  | .coreRestartDone core => decide (core < 35)
  | .backgroundErasure tenant _ => decide (tenant < 4096)

end Sys2Proof
end

