-- ==== Sys2Proof/Laws/PerInstr.lean ====
section
/-! SUPPORT. Well-formedness, command by command, as bounds on the operands: the Boolean check of each constructor holds just
when every operand it checks lies below the limit of its field. -/

namespace Sys2Proof.Laws

/-- What the check of a command asks of its operands. -/
def Operands.InRange : Instr → Prop
  | .registerWrite who offset _ => who.wf = true ∧ offset < 67108864
  | .faultSummaryClear who _ => who.wf = true
  | .sqTail ld queue _ => ld < 64 ∧ queue < 16384
  | .cqHead ld queue _ => ld < 64 ∧ queue < 16384
  | .badSeq queue => queue < 16384
  | .descriptorAccept queue => queue < 16384
  | .segmentPlace queue _ => queue < 16384
  | .shapeChange cluster => cluster < 32
  | .dwellExpiry shape => shape < 16
  | .nop queue _ => queue < 16384
  | .gather queue _ => queue < 16384
  | .pool queue _ => queue < 16384
  | .scatterAdd queue _ => queue < 16384
  | .copyConvert queue _ => queue < 16384
  | .pqScan queue _ => queue < 16384
  | .hamScan queue _ => queue < 16384
  | .append queue _ => queue < 16384
  | .delete queue _ => queue < 16384
  | .seal queue _ => queue < 16384
  | .topkMerge queue _ => queue < 16384
  | .layerStream queue _ => queue < 16384
  | .kvPush queue _ => queue < 16384
  | .kvFetch queue _ _ _ => queue < 16384
  | .pageOut queue _ => queue < 16384
  | .pageIn queue _ => queue < 16384
  | .atomicBatch queue _ => queue < 16384
  | .fill queue _ => queue < 16384
  | .fenceQueue queue _ => queue < 16384
  | .fenceHub queue _ => queue < 16384
  | .fenceFabric queue _ => queue < 16384
  | .waitTally queue _ => queue < 16384
  | .glazePublish queue _ => queue < 16384
  | .glazeDiscard queue _ => queue < 16384
  | .glazeRefresh queue _ => queue < 16384
  | .glazeVersion queue _ => queue < 16384
  | .redoApply queue _ => queue < 16384
  | .descriptorComplete queue => queue < 16384
  | .msixPendingSend ld _ => ld < 64
  | .stripQueue who queue => who.wf = true ∧ queue < 16384
  | .stripTenant who tenant => who.wf = true ∧ tenant < 4096
  | .stripCluster who cluster => who.wf = true ∧ cluster < 32
  | .stripDone who => who.wf = true
  | .resume ld queue _ => ld < 64 ∧ queue < 16384
  | .replay journal => journal < 4
  | .journalRebuildDone journal => journal < 4
  | .tlbInv ld tenant => ld < 64 ∧ tenant < 4096
  | .tlbInvDone ld => ld < 64
  | .atsCompletion tag _ => tag < 65536
  | .atsTimeout tag => tag < 65536
  | .atsInvalidateRequest ld pasid _ _ => ld < 64 ∧ pasid < 2 ^ 20
  | .atsInvalidateCompletion ld => ld < 64
  | .cloveClear who => who.wf = true
  | .cloveHalve cluster => cluster < 32
  | .srSourceFail cluster lane => cluster < 32 ∧ lane < 512
  | .srSourcePass cluster lane => cluster < 32 ∧ lane < 512
  | .poolReq src h _ => src < 4096 ∧ h.wf = true
  | .poolRsp src h _ _ => src < 4096 ∧ h.wf = true
  | .busy src h => src < 4096 ∧ h.wf = true
  | .straggle queue _ _ => queue < 16384
  | .prep src h _ => src < 4096 ∧ h.wf = true
  | .prepRsp src h => src < 4096 ∧ h.wf = true
  | .delta src h _ => src < 4096 ∧ h.wf = true
  | .deltaAck src h => src < 4096 ∧ h.wf = true
  | .release src h => src < 4096 ∧ h.wf = true
  | .load m _ _ => m.wf = true
  | .store m _ => m.wf = true
  | .atomic m _ queue _ _ _ => m.wf = true ∧ queue < 16384
  | .atomicCheck m _ queue _ _ _ => m.wf = true ∧ queue < 16384
  | .loadRsp src tag _ _ _ => src < 4096 ∧ tag < 65536
  | .storeAck src tag _ => src < 4096 ∧ tag < 65536
  | .atomicRsp src tag _ _ => src < 4096 ∧ tag < 65536
  | .iflTimeout tag => tag < 65536
  | .readShared m => m.wf = true
  | .readOwn m => m.wf = true
  | .upgrade m => m.wf = true
  | .evict m _ => m.wf = true
  | .retry m _ _ => m.wf = true
  | .fwdShared m requester => m.wf = true ∧ requester < 4096
  | .fwdOwn m requester => m.wf = true ∧ requester < 4096
  | .inv m => m.wf = true
  | .recall m => m.wf = true
  | .data m _ _ _ => m.wf = true
  | .grant m => m.wf = true
  | .nack m _ => m.wf = true
  | .invAck m _ => m.wf = true
  | .versionNotice m version => m.wf = true ∧ version < 2 ^ 64
  | .versionReq m => m.wf = true
  | .versionRsp m _ version => m.wf = true ∧ version < 2 ^ 64
  | .draftLeaseExpiry _ tenant writer => tenant < 4096 ∧ writer < 4096
  | .tallyStore m _ => m.wf = true
  | .tallyCreditSend queue _ => queue < 16384
  | .tallyCredit src channel tag _ _ _ => src < 4096 ∧ channel < 65536 ∧ tag < 65536
  | .creditAck src tag => src < 4096 ∧ tag < 65536
  | .controlFlit port _ _ lanes _ _ => port < 12 ∧ lanes < 16
  | .flitForward port src dst vc hopsLeft _ _ => port < 12 ∧ src < 4096 ∧ dst < 4096 ∧ vc < 8 ∧ hopsLeft < 64
  | .laneLockLoss port lane => port < 12 ∧ lane < 4
  | .laneErrorWindow port lane => port < 12 ∧ lane < 4
  | .linkRetrain who port => who.wf = true ∧ port < 12
  | .linkTrainingDone port lanes partner _ _ _ => port < 12 ∧ lanes < 16 ∧ partner < 4096
  | .helloTimeout port _ => port < 12
  | .linkKeyUpdateDue port => port < 12
  | .barrier src vc => src < 4096 ∧ vc < 8
  | .barrierAck src => src < 4096
  | .linkFate port _ => port < 12
  | .linkFateTimeout port => port < 12
  | .heartbeatInterval => True
  | .heartbeat src _ _ _ _ => src < 4096
  | .memberUnreachable node => node < 4096
  | .change src changeSeq _ => src < 4096 ∧ changeSeq < 2 ^ 64
  | .changeAnswer src changeSeq _ => src < 4096 ∧ changeSeq < 2 ^ 64
  | .forward src tag _ => src < 4096 ∧ tag < 65536
  | .forwardAnswer src tag _ => src < 4096 ∧ tag < 65536
  | .flipRequest src table _ _ => src < 4096 ∧ table < 65536
  | .graceAdvance table => table < 65536
  | .catchUp src changeSeq => src < 4096 ∧ changeSeq < 2 ^ 64
  | .snapshot src changeSeq _ => src < 4096 ∧ changeSeq < 2 ^ 64
  | .seqQuery src changeSeq => src < 4096 ∧ changeSeq < 2 ^ 64
  | .seqReport src changeSeq _ => src < 4096 ∧ changeSeq < 2 ^ 64
  | .replicaStale src table _ _ => src < 4096 ∧ table < 65536
  | .bindTenant ld tenant pasid _ => ld < 64 ∧ tenant < 4096 ∧ pasid < 2 ^ 20
  | .unbindTenant ld tenant => ld < 64 ∧ tenant < 4096
  | .setHdmMap ld decoder _ tenant target _ => ld < 64 ∧ decoder < 8 ∧ tenant < 4096 ∧ target < 4096
  | .bindQueue queue tenant _ irqLd => queue < 16384 ∧ tenant < 4096 ∧ irqLd < 64
  | .unbindQueue queue => queue < 16384
  | .setQuota tenant _ _ _ => tenant < 4096
  | .putTable id _ => id < 65536
  | .dropTable id => id < 65536
  | .moveShard table _ _ newNode _ => table < 65536 ∧ newNode < 4096
  | .refreshReplica table _ => table < 65536
  | .putIndex id _ hub => id < 65536 ∧ hub < 4096
  | .dropIndex id hub => id < 65536 ∧ hub < 4096
  | .setRoute hub dest _ => hub < 4096 ∧ dest < 4096
  | .setKvPool _ _ tenant hub _ => tenant < 4096 ∧ hub < 4096
  | .kvAttach _ node => node < 4096
  | .kvDetach _ node => node < 4096
  | .skimContext tenant => tenant < 4096
  | .skimMemory tenant => tenant < 4096
  | .skimDone tenant => tenant < 4096
  | .fmIdentify => True
  | .getLdInfo _ => True
  | .getLdAllocations port => port < 4
  | .setLdAllocations port _ _ => port < 4
  | .getQosControl port => port < 4
  | .setQosControl port _ => port < 4
  | .getQosStatus port => port < 4
  | .getQosAllocatedBw port => port < 4
  | .setQosAllocatedBw port _ _ => port < 4
  | .getQosBwLimit port => port < 4
  | .setQosBwLimit port _ _ => port < 4
  | .getEventRecords ld _ => ld < 64
  | .clearEventRecords ld _ _ _ => ld < 64
  | .getEventInterruptPolicy ld => ld < 64
  | .setEventInterruptPolicy ld _ => ld < 64
  | .getFwInfo ld => ld < 64
  | .getTimestamp ld => ld < 64
  | .setTimestamp ld _ => ld < 64
  | .getSupportedLogs ld => ld < 64
  | .getLog ld _ => ld < 64
  | .identifyMemoryDevice ld => ld < 64
  | .getHealthInfo ld => ld < 64
  | .getAlertConfiguration ld => ld < 64
  | .setAlertConfiguration ld _ => ld < 64
  | .getPoisonList ld _ _ => ld < 64
  | .injectPoison ld _ => ld < 64
  | .clearPoison ld _ _ => ld < 64
  | .getScanMediaCapabilities ld _ _ => ld < 64
  | .scanMedia ld _ _ => ld < 64
  | .getScanMediaResults ld => ld < 64
  | .getHubInfo ld => ld < 64
  | .readRbs ld _ _ _ => ld < 64
  | .readFaults ld _ _ _ => ld < 64
  | .rbsRead tag _ _ _ => tag < 65536
  | .faultRead tag _ _ _ => tag < 65536
  | .allocPages who tag tenant count flags format cls pub => who.wf = true ∧ tag < 65536 ∧ tenant < 4096 ∧ count < 65536 ∧ flags < 256 ∧ format < 256 ∧ cls < 256 ∧ pub < 256
  | .freePages who tag tenant count firstSa => who.wf = true ∧ tag < 65536 ∧ tenant < 4096 ∧ count < 65536 ∧ firstSa < 2 ^ 64
  | .evictionWaitExpiry _ => True
  | .lineSalvage who tag tenant lines firstSa => who.wf = true ∧ tag < 65536 ∧ tenant < 4096 ∧ lines < 65536 ∧ firstSa < 2 ^ 64
  | .bindContent who tag tenant pages firstSa _ => who.wf = true ∧ tag < 65536 ∧ tenant < 4096 ∧ pages < 2 ^ 32 ∧ firstSa < 2 ^ 64
  | .unbindContent who tag tenant _ => who.wf = true ∧ tag < 65536 ∧ tenant < 4096
  | .debugUnlock who tag _ => who.wf = true ∧ tag < 65536
  | .debugPathsOpen => True
  | .imageWrite who tag _ _ _ _ => who.wf = true ∧ tag < 65536
  | .dirSet who tag _ => who.wf = true ∧ tag < 65536
  | .getVersion who => who.wf = true
  | .getCapabilities who => who.wf = true
  | .negotiateAlgorithms who _ => who.wf = true
  | .getDigests who => who.wf = true
  | .getCertificate who _ => who.wf = true
  | .challenge who _ _ => who.wf = true
  | .getMeasurements who _ _ => who.wf = true
  | .keyExchange who _ => who.wf = true
  | .finish who _ => who.wf = true
  | .keyUpdate who _ => who.wf = true
  | .spdmHeartbeat who => who.wf = true
  | .endSession who => who.wf = true
  | .getLmsSignature who => who.wf = true
  | .doeDiscovery ld => ld < 64
  | .cdatTableAccess ld => ld < 64
  | .compliance ld => ld < 64
  | .bypass => True
  | .idcode => True
  | .samplePreload => True
  | .extest => True
  | .clamp => True
  | .highz => True
  | .cxlMemRead ld tag _ _ _ => ld < 64 ∧ tag < 65536
  | .cxlMemWrite ld tag _ _ _ _ => ld < 64 ∧ tag < 65536
  | .memHoldExpiry ld tag => ld < 64 ∧ tag < 65536
  | .hdmDecoderCommit ld decoder setup => ld < 64 ∧ decoder < 8 ∧ setup.position < 16
  | .cxlLinkDown link => link < 8
  | .hostHoldExpiry link => link < 8
  | .perstN port => port < 4
  | .hotReset link => link < 8
  | .functionLevelReset ld => ld < 64
  | .cxlReset ld => ld < 64
  | .cxlIoCompletion tag _ => tag < 65536
  | .cxlIoTimeout tag => tag < 65536
  | .ideIntegrityFailure link => link < 8
  | .d2dLaneFault link => link < 11
  | .cellRetired _ _ _ _ => True
  | .blockUnresponsive _ _ => True
  | .regionIsolated region => region < 4
  | .eDieFailure die => die < 2
  | .xDieFailure => True
  | .portFailed _ port _ => port < 12
  | .flashDieFailure channel _ => channel < 32
  | .tierEviction _ => True
  | .promotion => True
  | .moveFlip page => page < 100663296
  | .deepPromotionDone page => page < 100663296
  | .promotedReturn page => page < 100663296
  | .pwrGoodRise straps _ => straps < 16
  | .slotCheck _ _ => True
  | .unitReady _ => True
  | .unitTrainTimeout _ _ => True
  | .flushRestore => True
  | .dhcpLease _ => True
  | .noLease => True
  | .tftpBlock _ => True
  | .tftpTimeout => True
  | .tftpError => True
  | .fwFileAccept cls _ => cls < 256
  | .fetchBackoff => True
  | .svnAutoRaise => True
  | .hubResetNFall => True
  | .hubResetNRise straps => straps < 16
  | .pwrFailNFall => True
  | .flushDone => True
  | .pwrFailNRise => True
  | .pwrGoodFall => True
  | .thermtrip sensor => sensor < 48
  | .watchdogExpiry core => core < 35
  | .coreTrap core => core < 35
  | .coreEccError core => core < 35
  | .coreRestartTimeout core => core < 35
  | .packagePowerCap _ _ => True
  | .regionThermal region _ => region < 4
  | .railTracking => True
  | .powerGuard _ => True
  | .powerTelemetryWindow _ _ => True
  | .perfWindow _ => True
  | .calTrack _ => True
  | .calOverride _ => True
  | .calOverrideClear => True
  | .sensorOut sensor => sensor < 48
  | .cxlIdeKm link _ => link < 8
  | .coreRestartDone core => core < 35
  | .backgroundErasure tenant _ => tenant < 4096

/-- The check and the bounds agree. -/
def Operands.Statement (i : Instr) : Prop := i.wf = true ↔ Operands.InRange i

theorem Operands.registerWrite (who : Sender) (offset : Nat) (data : List Byte) : Operands.Statement (.registerWrite who offset data) := by
  show ((who.wf && decide (offset < 67108864)) = true) ↔ (who.wf = true ∧ offset < 67108864)
  simp
theorem Operands.faultSummaryClear (who : Sender) (value : Word) : Operands.Statement (.faultSummaryClear who value) := Iff.rfl
theorem Operands.sqTail (ld queue : Nat) (tail : Seq48) : Operands.Statement (.sqTail ld queue tail) := by
  show ((decide (ld < 64) && decide (queue < 16384)) = true) ↔ (ld < 64 ∧ queue < 16384)
  simp
theorem Operands.cqHead (ld queue : Nat) (head : Seq48) : Operands.Statement (.cqHead ld queue head) := by
  show ((decide (ld < 64) && decide (queue < 16384)) = true) ↔ (ld < 64 ∧ queue < 16384)
  simp
theorem Operands.badSeq (queue : Nat) : Operands.Statement (.badSeq queue) := decide_eq_true_iff
theorem Operands.descriptorAccept (queue : Nat) : Operands.Statement (.descriptorAccept queue) := decide_eq_true_iff
theorem Operands.segmentPlace (queue : Nat) (seq : Seq48) : Operands.Statement (.segmentPlace queue seq) := decide_eq_true_iff
theorem Operands.shapeChange (cluster : Nat) : Operands.Statement (.shapeChange cluster) := decide_eq_true_iff
theorem Operands.dwellExpiry (shape : Nat) : Operands.Statement (.dwellExpiry shape) := decide_eq_true_iff
theorem Operands.nop (queue : Nat) (seq : Seq48) : Operands.Statement (.nop queue seq) := decide_eq_true_iff
theorem Operands.gather (queue : Nat) (seq : Seq48) : Operands.Statement (.gather queue seq) := decide_eq_true_iff
theorem Operands.pool (queue : Nat) (seq : Seq48) : Operands.Statement (.pool queue seq) := decide_eq_true_iff
theorem Operands.scatterAdd (queue : Nat) (seq : Seq48) : Operands.Statement (.scatterAdd queue seq) := decide_eq_true_iff
theorem Operands.copyConvert (queue : Nat) (seq : Seq48) : Operands.Statement (.copyConvert queue seq) := decide_eq_true_iff
theorem Operands.pqScan (queue : Nat) (seq : Seq48) : Operands.Statement (.pqScan queue seq) := decide_eq_true_iff
theorem Operands.hamScan (queue : Nat) (seq : Seq48) : Operands.Statement (.hamScan queue seq) := decide_eq_true_iff
theorem Operands.append (queue : Nat) (seq : Seq48) : Operands.Statement (.append queue seq) := decide_eq_true_iff
theorem Operands.delete (queue : Nat) (seq : Seq48) : Operands.Statement (.delete queue seq) := decide_eq_true_iff
theorem Operands.seal (queue : Nat) (seq : Seq48) : Operands.Statement (.seal queue seq) := decide_eq_true_iff
theorem Operands.topkMerge (queue : Nat) (seq : Seq48) : Operands.Statement (.topkMerge queue seq) := decide_eq_true_iff
theorem Operands.layerStream (queue : Nat) (seq : Seq48) : Operands.Statement (.layerStream queue seq) := decide_eq_true_iff
theorem Operands.kvPush (queue : Nat) (seq : Seq48) : Operands.Statement (.kvPush queue seq) := decide_eq_true_iff
theorem Operands.kvFetch (queue : Nat) (seq : Seq48) (bootGen : Nat) (held : Option KeyEntry) : Operands.Statement (.kvFetch queue seq bootGen held) := decide_eq_true_iff
theorem Operands.pageOut (queue : Nat) (seq : Seq48) : Operands.Statement (.pageOut queue seq) := decide_eq_true_iff
theorem Operands.pageIn (queue : Nat) (seq : Seq48) : Operands.Statement (.pageIn queue seq) := decide_eq_true_iff
theorem Operands.atomicBatch (queue : Nat) (seq : Seq48) : Operands.Statement (.atomicBatch queue seq) := decide_eq_true_iff
theorem Operands.fill (queue : Nat) (seq : Seq48) : Operands.Statement (.fill queue seq) := decide_eq_true_iff
theorem Operands.fenceQueue (queue : Nat) (seq : Seq48) : Operands.Statement (.fenceQueue queue seq) := decide_eq_true_iff
theorem Operands.fenceHub (queue : Nat) (seq : Seq48) : Operands.Statement (.fenceHub queue seq) := decide_eq_true_iff
theorem Operands.fenceFabric (queue : Nat) (seq : Seq48) : Operands.Statement (.fenceFabric queue seq) := decide_eq_true_iff
theorem Operands.waitTally (queue : Nat) (seq : Seq48) : Operands.Statement (.waitTally queue seq) := decide_eq_true_iff
theorem Operands.glazePublish (queue : Nat) (seq : Seq48) : Operands.Statement (.glazePublish queue seq) := decide_eq_true_iff
theorem Operands.glazeDiscard (queue : Nat) (seq : Seq48) : Operands.Statement (.glazeDiscard queue seq) := decide_eq_true_iff
theorem Operands.glazeRefresh (queue : Nat) (seq : Seq48) : Operands.Statement (.glazeRefresh queue seq) := decide_eq_true_iff
theorem Operands.glazeVersion (queue : Nat) (seq : Seq48) : Operands.Statement (.glazeVersion queue seq) := decide_eq_true_iff
theorem Operands.redoApply (queue : Nat) (seq : Seq48) : Operands.Statement (.redoApply queue seq) := decide_eq_true_iff
theorem Operands.descriptorComplete (queue : Nat) : Operands.Statement (.descriptorComplete queue) := decide_eq_true_iff
theorem Operands.msixPendingSend (ld vector : Nat) : Operands.Statement (.msixPendingSend ld vector) := decide_eq_true_iff
theorem Operands.stripQueue (who : Sender) (queue : Nat) : Operands.Statement (.stripQueue who queue) := by
  show ((who.wf && decide (queue < 16384)) = true) ↔ (who.wf = true ∧ queue < 16384)
  simp
theorem Operands.stripTenant (who : Sender) (tenant : Nat) : Operands.Statement (.stripTenant who tenant) := by
  show ((who.wf && decide (tenant < 4096)) = true) ↔ (who.wf = true ∧ tenant < 4096)
  simp
theorem Operands.stripCluster (who : Sender) (cluster : Nat) : Operands.Statement (.stripCluster who cluster) := by
  show ((who.wf && decide (cluster < 32)) = true) ↔ (who.wf = true ∧ cluster < 32)
  simp
theorem Operands.stripDone (who : Sender) : Operands.Statement (.stripDone who) := Iff.rfl
theorem Operands.resume (ld queue : Nat) (tail : Seq48) : Operands.Statement (.resume ld queue tail) := by
  show ((decide (ld < 64) && decide (queue < 16384)) = true) ↔ (ld < 64 ∧ queue < 16384)
  simp
theorem Operands.replay (journal : Nat) : Operands.Statement (.replay journal) := decide_eq_true_iff
theorem Operands.journalRebuildDone (journal : Nat) : Operands.Statement (.journalRebuildDone journal) := decide_eq_true_iff
theorem Operands.tlbInv (ld tenant : Nat) : Operands.Statement (.tlbInv ld tenant) := by
  show ((decide (ld < 64) && decide (tenant < 4096)) = true) ↔ (ld < 64 ∧ tenant < 4096)
  simp
theorem Operands.tlbInvDone (ld : Nat) : Operands.Statement (.tlbInvDone ld) := decide_eq_true_iff
theorem Operands.atsCompletion (tag : Nat) (reply : AtsReply) : Operands.Statement (.atsCompletion tag reply) := decide_eq_true_iff
theorem Operands.atsTimeout (tag : Nat) : Operands.Statement (.atsTimeout tag) := decide_eq_true_iff
theorem Operands.atsInvalidateRequest (ld pasid addr size : Nat) : Operands.Statement (.atsInvalidateRequest ld pasid addr size) := by
  show ((decide (ld < 64) && decide (pasid < 2 ^ 20)) = true) ↔ (ld < 64 ∧ pasid < 2 ^ 20)
  simp
theorem Operands.atsInvalidateCompletion (ld : Nat) : Operands.Statement (.atsInvalidateCompletion ld) := decide_eq_true_iff
theorem Operands.cloveClear (who : Sender) : Operands.Statement (.cloveClear who) := Iff.rfl
theorem Operands.cloveHalve (cluster : Nat) : Operands.Statement (.cloveHalve cluster) := decide_eq_true_iff
theorem Operands.srSourceFail (cluster lane : Nat) : Operands.Statement (.srSourceFail cluster lane) := by
  show ((decide (cluster < 32) && decide (lane < 512)) = true) ↔ (cluster < 32 ∧ lane < 512)
  simp
theorem Operands.srSourcePass (cluster lane : Nat) : Operands.Statement (.srSourcePass cluster lane) := by
  show ((decide (cluster < 32) && decide (lane < 512)) = true) ↔ (cluster < 32 ∧ lane < 512)
  simp
theorem Operands.poolReq (src : Nat) (h : ExHeader) (entries : List PoolEntry) : Operands.Statement (.poolReq src h entries) := by
  show ((decide (src < 4096) && h.wf) = true) ↔ (src < 4096 ∧ h.wf = true)
  simp
theorem Operands.poolRsp (src : Nat) (h : ExHeader) (partials : List Partial) (stale : List PoolEntry) : Operands.Statement (.poolRsp src h partials stale) := by
  show ((decide (src < 4096) && h.wf) = true) ↔ (src < 4096 ∧ h.wf = true)
  simp
theorem Operands.busy (src : Nat) (h : ExHeader) : Operands.Statement (.busy src h) := by
  show ((decide (src < 4096) && h.wf) = true) ↔ (src < 4096 ∧ h.wf = true)
  simp
theorem Operands.straggle (queue : Nat) (seq : Seq48) (part : Nat) : Operands.Statement (.straggle queue seq part) := decide_eq_true_iff
theorem Operands.prep (src : Nat) (h : ExHeader) (indices : List Nat) : Operands.Statement (.prep src h indices) := by
  show ((decide (src < 4096) && h.wf) = true) ↔ (src < 4096 ∧ h.wf = true)
  simp
theorem Operands.prepRsp (src : Nat) (h : ExHeader) : Operands.Statement (.prepRsp src h) := by
  show ((decide (src < 4096) && h.wf) = true) ↔ (src < 4096 ∧ h.wf = true)
  simp
theorem Operands.delta (src : Nat) (h : ExHeader) (items : List DeltaItem) : Operands.Statement (.delta src h items) := by
  show ((decide (src < 4096) && h.wf) = true) ↔ (src < 4096 ∧ h.wf = true)
  simp
theorem Operands.deltaAck (src : Nat) (h : ExHeader) : Operands.Statement (.deltaAck src h) := by
  show ((decide (src < 4096) && h.wf) = true) ↔ (src < 4096 ∧ h.wf = true)
  simp
theorem Operands.release (src : Nat) (h : ExHeader) : Operands.Statement (.release src h) := by
  show ((decide (src < 4096) && h.wf) = true) ↔ (src < 4096 ∧ h.wf = true)
  simp
theorem Operands.load (m : MsgHeader) (len : Nat) (row : Option (Nat × Nat × Nat)) : Operands.Statement (.load m len row) := Iff.rfl
theorem Operands.store (m : MsgHeader) (data : List Byte) : Operands.Statement (.store m data) := Iff.rfl
theorem Operands.atomic (m : MsgHeader) (scope queue : Nat) (seq : Seq48) (part : Nat) (entries : List AtomicEntry) : Operands.Statement (.atomic m scope queue seq part entries) := by
  show ((m.wf && decide (queue < 16384)) = true) ↔ (m.wf = true ∧ queue < 16384)
  simp
theorem Operands.atomicCheck (m : MsgHeader) (scope queue : Nat) (seq : Seq48) (part : Nat) (entries : List AtomicEntry) : Operands.Statement (.atomicCheck m scope queue seq part entries) := by
  show ((m.wf && decide (queue < 16384)) = true) ↔ (m.wf = true ∧ queue < 16384)
  simp
theorem Operands.loadRsp (src tag : Nat) (status : Status) (epoch : Nat) (data : List Byte) : Operands.Statement (.loadRsp src tag status epoch data) := by
  show ((decide (src < 4096) && decide (tag < 65536)) = true) ↔ (src < 4096 ∧ tag < 65536)
  simp
theorem Operands.storeAck (src tag : Nat) (status : Status) : Operands.Statement (.storeAck src tag status) := by
  show ((decide (src < 4096) && decide (tag < 65536)) = true) ↔ (src < 4096 ∧ tag < 65536)
  simp
theorem Operands.atomicRsp (src tag : Nat) (status : Status) (olds : List Nat) : Operands.Statement (.atomicRsp src tag status olds) := by
  show ((decide (src < 4096) && decide (tag < 65536)) = true) ↔ (src < 4096 ∧ tag < 65536)
  simp
theorem Operands.iflTimeout (tag : Nat) : Operands.Statement (.iflTimeout tag) := decide_eq_true_iff
theorem Operands.readShared (m : MsgHeader) : Operands.Statement (.readShared m) := Iff.rfl
theorem Operands.readOwn (m : MsgHeader) : Operands.Statement (.readOwn m) := Iff.rfl
theorem Operands.upgrade (m : MsgHeader) : Operands.Statement (.upgrade m) := Iff.rfl
theorem Operands.evict (m : MsgHeader) (dirty : List Byte) : Operands.Statement (.evict m dirty) := Iff.rfl
theorem Operands.retry (m : MsgHeader) (request : LineRequest) (ticket : Nat) : Operands.Statement (.retry m request ticket) := Iff.rfl
theorem Operands.fwdShared (m : MsgHeader) (requester : Nat) : Operands.Statement (.fwdShared m requester) := by
  show ((m.wf && decide (requester < 4096)) = true) ↔ (m.wf = true ∧ requester < 4096)
  simp
theorem Operands.fwdOwn (m : MsgHeader) (requester : Nat) : Operands.Statement (.fwdOwn m requester) := by
  show ((m.wf && decide (requester < 4096)) = true) ↔ (m.wf = true ∧ requester < 4096)
  simp
theorem Operands.inv (m : MsgHeader) : Operands.Statement (.inv m) := Iff.rfl
theorem Operands.recall (m : MsgHeader) : Operands.Statement (.recall m) := Iff.rfl
theorem Operands.data (m : MsgHeader) (status : Status) (granted : LineState) (line : List Byte) : Operands.Statement (.data m status granted line) := Iff.rfl
theorem Operands.grant (m : MsgHeader) : Operands.Statement (.grant m) := Iff.rfl
theorem Operands.nack (m : MsgHeader) (ticket : Nat) : Operands.Statement (.nack m ticket) := Iff.rfl
theorem Operands.invAck (m : MsgHeader) (line : List Byte) : Operands.Statement (.invAck m line) := Iff.rfl
theorem Operands.versionNotice (m : MsgHeader) (version : Nat) : Operands.Statement (.versionNotice m version) := by
  show ((m.wf && decide (version < 2 ^ 64)) = true) ↔ (m.wf = true ∧ version < 2 ^ 64)
  simp
theorem Operands.versionReq (m : MsgHeader) : Operands.Statement (.versionReq m) := Iff.rfl
theorem Operands.versionRsp (m : MsgHeader) (status : Status) (version : Nat) : Operands.Statement (.versionRsp m status version) := by
  show ((m.wf && decide (version < 2 ^ 64)) = true) ↔ (m.wf = true ∧ version < 2 ^ 64)
  simp
theorem Operands.draftLeaseExpiry (region tenant writer : Nat) : Operands.Statement (.draftLeaseExpiry region tenant writer) := by
  show ((decide (tenant < 4096) && decide (writer < 4096)) = true) ↔ (tenant < 4096 ∧ writer < 4096)
  simp
theorem Operands.tallyStore (m : MsgHeader) (data : List Byte) : Operands.Statement (.tallyStore m data) := Iff.rfl
theorem Operands.tallyCreditSend (queue : Nat) (seq : Seq48) : Operands.Statement (.tallyCreditSend queue seq) := decide_eq_true_iff
theorem Operands.tallyCredit (src channel tag : Nat) (seq : Seq48) (bytes packets : Nat) : Operands.Statement (.tallyCredit src channel tag seq bytes packets) := by
  show ((decide (src < 4096) && decide (channel < 65536) && decide (tag < 65536)) = true) ↔ (src < 4096 ∧ channel < 65536 ∧ tag < 65536)
  simp [and_assoc]
theorem Operands.creditAck (src tag : Nat) : Operands.Statement (.creditAck src tag) := by
  show ((decide (src < 4096) && decide (tag < 65536)) = true) ↔ (src < 4096 ∧ tag < 65536)
  simp
theorem Operands.controlFlit (port ackSeq : Nat) (retry : Bool) (lanes : Nat) (credits : List Nat) (tagOk : Bool) : Operands.Statement (.controlFlit port ackSeq retry lanes credits tagOk) := by
  show ((decide (port < 12) && decide (lanes < 16)) = true) ↔ (port < 12 ∧ lanes < 16)
  simp
theorem Operands.flitForward (port src dst vc hopsLeft kind : Nat) (payload : List Byte) : Operands.Statement (.flitForward port src dst vc hopsLeft kind payload) := by
  show ((decide (port < 12) && decide (src < 4096) && decide (dst < 4096) && decide (vc < 8) && decide (hopsLeft < 64)) = true) ↔ (port < 12 ∧ src < 4096 ∧ dst < 4096 ∧ vc < 8 ∧ hopsLeft < 64)
  simp [and_assoc]
theorem Operands.laneLockLoss (port lane : Nat) : Operands.Statement (.laneLockLoss port lane) := by
  show ((decide (port < 12) && decide (lane < 4)) = true) ↔ (port < 12 ∧ lane < 4)
  simp
theorem Operands.laneErrorWindow (port lane : Nat) : Operands.Statement (.laneErrorWindow port lane) := by
  show ((decide (port < 12) && decide (lane < 4)) = true) ↔ (port < 12 ∧ lane < 4)
  simp
theorem Operands.linkRetrain (who : Sender) (port : Nat) : Operands.Statement (.linkRetrain who port) := by
  show ((who.wf && decide (port < 12)) = true) ↔ (who.wf = true ∧ port < 12)
  simp
theorem Operands.linkTrainingDone (port lanes partner domain : Nat) (device : BitVec 64) (encrypt : Bool) : Operands.Statement (.linkTrainingDone port lanes partner domain device encrypt) := by
  show ((decide (port < 12) && decide (lanes < 16) && decide (partner < 4096)) = true) ↔ (port < 12 ∧ lanes < 16 ∧ partner < 4096)
  simp [and_assoc]
theorem Operands.helloTimeout (port reason : Nat) : Operands.Statement (.helloTimeout port reason) := decide_eq_true_iff
theorem Operands.linkKeyUpdateDue (port : Nat) : Operands.Statement (.linkKeyUpdateDue port) := decide_eq_true_iff
theorem Operands.barrier (src vc : Nat) : Operands.Statement (.barrier src vc) := by
  show ((decide (src < 4096) && decide (vc < 8)) = true) ↔ (src < 4096 ∧ vc < 8)
  simp
theorem Operands.barrierAck (src : Nat) : Operands.Statement (.barrierAck src) := decide_eq_true_iff
theorem Operands.linkFate (port fseq : Nat) : Operands.Statement (.linkFate port fseq) := decide_eq_true_iff
theorem Operands.linkFateTimeout (port : Nat) : Operands.Statement (.linkFateTimeout port) := decide_eq_true_iff
theorem Operands.heartbeatInterval : Operands.Statement (.heartbeatInterval) := iff_of_true rfl trivial
theorem Operands.heartbeat (src : Nat) (seen : List Nat) (votes : Nat) (authority : Bool) (device : BitVec 64) : Operands.Statement (.heartbeat src seen votes authority device) := decide_eq_true_iff
theorem Operands.memberUnreachable (node : Nat) : Operands.Statement (.memberUnreachable node) := decide_eq_true_iff
theorem Operands.change (src changeSeq : Nat) (cmd : CompCmd) : Operands.Statement (.change src changeSeq cmd) := by
  show ((decide (src < 4096) && decide (changeSeq < 2 ^ 64)) = true) ↔ (src < 4096 ∧ changeSeq < 2 ^ 64)
  simp
theorem Operands.changeAnswer (src changeSeq : Nat) (status : Status) : Operands.Statement (.changeAnswer src changeSeq status) := by
  show ((decide (src < 4096) && decide (changeSeq < 2 ^ 64)) = true) ↔ (src < 4096 ∧ changeSeq < 2 ^ 64)
  simp
theorem Operands.forward (src tag : Nat) (cmd : CompCmd) : Operands.Statement (.forward src tag cmd) := by
  show ((decide (src < 4096) && decide (tag < 65536)) = true) ↔ (src < 4096 ∧ tag < 65536)
  simp
theorem Operands.forwardAnswer (src tag : Nat) (status : Status) : Operands.Statement (.forwardAnswer src tag status) := by
  show ((decide (src < 4096) && decide (tag < 65536)) = true) ↔ (src < 4096 ∧ tag < 65536)
  simp
theorem Operands.flipRequest (src table shard epoch : Nat) : Operands.Statement (.flipRequest src table shard epoch) := by
  show ((decide (src < 4096) && decide (table < 65536)) = true) ↔ (src < 4096 ∧ table < 65536)
  simp
theorem Operands.graceAdvance (table : Nat) : Operands.Statement (.graceAdvance table) := decide_eq_true_iff
theorem Operands.catchUp (src changeSeq : Nat) : Operands.Statement (.catchUp src changeSeq) := by
  show ((decide (src < 4096) && decide (changeSeq < 2 ^ 64)) = true) ↔ (src < 4096 ∧ changeSeq < 2 ^ 64)
  simp
theorem Operands.snapshot (src changeSeq : Nat) (comp : Composition) : Operands.Statement (.snapshot src changeSeq comp) := by
  show ((decide (src < 4096) && decide (changeSeq < 2 ^ 64)) = true) ↔ (src < 4096 ∧ changeSeq < 2 ^ 64)
  simp
theorem Operands.seqQuery (src changeSeq : Nat) : Operands.Statement (.seqQuery src changeSeq) := by
  show ((decide (src < 4096) && decide (changeSeq < 2 ^ 64)) = true) ↔ (src < 4096 ∧ changeSeq < 2 ^ 64)
  simp
theorem Operands.seqReport (src changeSeq : Nat) (changes : List (Nat × CompCmd)) : Operands.Statement (.seqReport src changeSeq changes) := by
  show ((decide (src < 4096) && decide (changeSeq < 2 ^ 64)) = true) ↔ (src < 4096 ∧ changeSeq < 2 ^ 64)
  simp
theorem Operands.replicaStale (src table entry epoch : Nat) : Operands.Statement (.replicaStale src table entry epoch) := by
  show ((decide (src < 4096) && decide (table < 65536)) = true) ↔ (src < 4096 ∧ table < 65536)
  simp
theorem Operands.bindTenant (ld tenant pasid : Nat) (admin : Bool) : Operands.Statement (.bindTenant ld tenant pasid admin) := by
  show ((decide (ld < 64) && decide (tenant < 4096) && decide (pasid < 2 ^ 20)) = true) ↔ (ld < 64 ∧ tenant < 4096 ∧ pasid < 2 ^ 20)
  simp [and_assoc]
theorem Operands.unbindTenant (ld tenant : Nat) : Operands.Statement (.unbindTenant ld tenant) := by
  show ((decide (ld < 64) && decide (tenant < 4096)) = true) ↔ (ld < 64 ∧ tenant < 4096)
  simp
theorem Operands.setHdmMap (ld decoder : Nat) (valid : Bool) (tenant target saBase : Nat) : Operands.Statement (.setHdmMap ld decoder valid tenant target saBase) := by
  show ((decide (ld < 64) && decide (decoder < 8) && decide (tenant < 4096) && decide (target < 4096)) = true) ↔ (ld < 64 ∧ decoder < 8 ∧ tenant < 4096 ∧ target < 4096)
  simp [and_assoc]
theorem Operands.bindQueue (queue tenant template irqLd : Nat) : Operands.Statement (.bindQueue queue tenant template irqLd) := by
  show ((decide (queue < 16384) && decide (tenant < 4096) && decide (irqLd < 64)) = true) ↔ (queue < 16384 ∧ tenant < 4096 ∧ irqLd < 64)
  simp [and_assoc]
theorem Operands.unbindQueue (queue : Nat) : Operands.Statement (.unbindQueue queue) := decide_eq_true_iff
theorem Operands.setQuota (tenant tier floor ceiling : Nat) : Operands.Statement (.setQuota tenant tier floor ceiling) := decide_eq_true_iff
theorem Operands.putTable (id : Nat) (desc : TableDesc) : Operands.Statement (.putTable id desc) := decide_eq_true_iff
theorem Operands.dropTable (id : Nat) : Operands.Statement (.dropTable id) := decide_eq_true_iff
theorem Operands.moveShard (table shard baseEpoch newNode newBase : Nat) : Operands.Statement (.moveShard table shard baseEpoch newNode newBase) := by
  show ((decide (table < 65536) && decide (newNode < 4096)) = true) ↔ (table < 65536 ∧ newNode < 4096)
  simp
theorem Operands.refreshReplica (table entry : Nat) : Operands.Statement (.refreshReplica table entry) := decide_eq_true_iff
theorem Operands.putIndex (id : Nat) (desc : IndexDesc) (hub : Nat) : Operands.Statement (.putIndex id desc hub) := by
  show ((decide (id < 65536) && decide (hub < 4096)) = true) ↔ (id < 65536 ∧ hub < 4096)
  simp
theorem Operands.dropIndex (id hub : Nat) : Operands.Statement (.dropIndex id hub) := by
  show ((decide (id < 65536) && decide (hub < 4096)) = true) ↔ (id < 65536 ∧ hub < 4096)
  simp
theorem Operands.setRoute (hub dest : Nat) (route : Route) : Operands.Statement (.setRoute hub dest route) := by
  show ((decide (hub < 4096) && decide (dest < 4096)) = true) ↔ (hub < 4096 ∧ dest < 4096)
  simp
theorem Operands.setKvPool (pool : Nat) (spill : Bool) (tenant hub pages : Nat) : Operands.Statement (.setKvPool pool spill tenant hub pages) := by
  show ((decide (tenant < 4096) && decide (hub < 4096)) = true) ↔ (tenant < 4096 ∧ hub < 4096)
  simp
theorem Operands.kvAttach (pool node : Nat) : Operands.Statement (.kvAttach pool node) := decide_eq_true_iff
theorem Operands.kvDetach (pool node : Nat) : Operands.Statement (.kvDetach pool node) := decide_eq_true_iff
theorem Operands.skimContext (tenant : Nat) : Operands.Statement (.skimContext tenant) := decide_eq_true_iff
theorem Operands.skimMemory (tenant : Nat) : Operands.Statement (.skimMemory tenant) := decide_eq_true_iff
theorem Operands.skimDone (tenant : Nat) : Operands.Statement (.skimDone tenant) := decide_eq_true_iff
theorem Operands.fmIdentify : Operands.Statement (.fmIdentify) := iff_of_true rfl trivial
theorem Operands.getLdInfo (port : Nat) : Operands.Statement (.getLdInfo port) := iff_of_true rfl trivial
theorem Operands.getLdAllocations (port : Nat) : Operands.Statement (.getLdAllocations port) := decide_eq_true_iff
theorem Operands.setLdAllocations (port start : Nat) (amounts : List Nat) : Operands.Statement (.setLdAllocations port start amounts) := decide_eq_true_iff
theorem Operands.getQosControl (port : Nat) : Operands.Statement (.getQosControl port) := decide_eq_true_iff
theorem Operands.setQosControl (port value : Nat) : Operands.Statement (.setQosControl port value) := decide_eq_true_iff
theorem Operands.getQosStatus (port : Nat) : Operands.Statement (.getQosStatus port) := decide_eq_true_iff
theorem Operands.getQosAllocatedBw (port : Nat) : Operands.Statement (.getQosAllocatedBw port) := decide_eq_true_iff
theorem Operands.setQosAllocatedBw (port start : Nat) (amounts : List Nat) : Operands.Statement (.setQosAllocatedBw port start amounts) := decide_eq_true_iff
theorem Operands.getQosBwLimit (port : Nat) : Operands.Statement (.getQosBwLimit port) := decide_eq_true_iff
theorem Operands.setQosBwLimit (port start : Nat) (amounts : List Nat) : Operands.Statement (.setQosBwLimit port start amounts) := decide_eq_true_iff
theorem Operands.getEventRecords (ld log : Nat) : Operands.Statement (.getEventRecords ld log) := decide_eq_true_iff
theorem Operands.clearEventRecords (ld log : Nat) (all : Bool) (handles : List Nat) : Operands.Statement (.clearEventRecords ld log all handles) := decide_eq_true_iff
theorem Operands.getEventInterruptPolicy (ld : Nat) : Operands.Statement (.getEventInterruptPolicy ld) := decide_eq_true_iff
theorem Operands.setEventInterruptPolicy (ld : Nat) (policy : List Nat) : Operands.Statement (.setEventInterruptPolicy ld policy) := decide_eq_true_iff
theorem Operands.getFwInfo (ld : Nat) : Operands.Statement (.getFwInfo ld) := decide_eq_true_iff
theorem Operands.getTimestamp (ld : Nat) : Operands.Statement (.getTimestamp ld) := decide_eq_true_iff
theorem Operands.setTimestamp (ld value : Nat) : Operands.Statement (.setTimestamp ld value) := decide_eq_true_iff
theorem Operands.getSupportedLogs (ld : Nat) : Operands.Statement (.getSupportedLogs ld) := decide_eq_true_iff
theorem Operands.getLog (ld : Nat) (commandEffects : Bool) : Operands.Statement (.getLog ld commandEffects) := decide_eq_true_iff
theorem Operands.identifyMemoryDevice (ld : Nat) : Operands.Statement (.identifyMemoryDevice ld) := decide_eq_true_iff
theorem Operands.getHealthInfo (ld : Nat) : Operands.Statement (.getHealthInfo ld) := decide_eq_true_iff
theorem Operands.getAlertConfiguration (ld : Nat) : Operands.Statement (.getAlertConfiguration ld) := decide_eq_true_iff
theorem Operands.setAlertConfiguration (ld : Nat) (thresholds : List Nat) : Operands.Statement (.setAlertConfiguration ld thresholds) := decide_eq_true_iff
theorem Operands.getPoisonList (ld dpa len : Nat) : Operands.Statement (.getPoisonList ld dpa len) := decide_eq_true_iff
theorem Operands.injectPoison (ld dpa : Nat) : Operands.Statement (.injectPoison ld dpa) := decide_eq_true_iff
theorem Operands.clearPoison (ld dpa : Nat) (data : List Byte) : Operands.Statement (.clearPoison ld dpa data) := decide_eq_true_iff
theorem Operands.getScanMediaCapabilities (ld dpa len : Nat) : Operands.Statement (.getScanMediaCapabilities ld dpa len) := decide_eq_true_iff
theorem Operands.scanMedia (ld dpa len : Nat) : Operands.Statement (.scanMedia ld dpa len) := decide_eq_true_iff
theorem Operands.getScanMediaResults (ld : Nat) : Operands.Statement (.getScanMediaResults ld) := decide_eq_true_iff
theorem Operands.getHubInfo (ld : Nat) : Operands.Statement (.getHubInfo ld) := decide_eq_true_iff
theorem Operands.readRbs (ld address len : Nat) (freeze : Bool) : Operands.Statement (.readRbs ld address len freeze) := decide_eq_true_iff
theorem Operands.readFaults (ld level count first : Nat) : Operands.Statement (.readFaults ld level count first) := decide_eq_true_iff
theorem Operands.rbsRead (tag address len : Nat) (freeze : Bool) : Operands.Statement (.rbsRead tag address len freeze) := decide_eq_true_iff
theorem Operands.faultRead (tag level count first : Nat) : Operands.Statement (.faultRead tag level count first) := decide_eq_true_iff
theorem Operands.allocPages (who : Sender) (tag tenant count flags format cls pub : Nat) : Operands.Statement (.allocPages who tag tenant count flags format cls pub) := by
  show ((who.wf && decide (tag < 65536) && decide (tenant < 4096) && decide (count < 65536) && decide (flags < 256) && decide (format < 256) && decide (cls < 256) && decide (pub < 256)) = true) ↔ (who.wf = true ∧ tag < 65536 ∧ tenant < 4096 ∧ count < 65536 ∧ flags < 256 ∧ format < 256 ∧ cls < 256 ∧ pub < 256)
  simp [and_assoc]
theorem Operands.freePages (who : Sender) (tag tenant count firstSa : Nat) : Operands.Statement (.freePages who tag tenant count firstSa) := by
  show ((who.wf && decide (tag < 65536) && decide (tenant < 4096) && decide (count < 65536) && decide (firstSa < 2 ^ 64)) = true) ↔ (who.wf = true ∧ tag < 65536 ∧ tenant < 4096 ∧ count < 65536 ∧ firstSa < 2 ^ 64)
  simp [and_assoc]
theorem Operands.evictionWaitExpiry (ticket : Nat) : Operands.Statement (.evictionWaitExpiry ticket) := iff_of_true rfl trivial
theorem Operands.lineSalvage (who : Sender) (tag tenant lines firstSa : Nat) : Operands.Statement (.lineSalvage who tag tenant lines firstSa) := by
  show ((who.wf && decide (tag < 65536) && decide (tenant < 4096) && decide (lines < 65536) && decide (firstSa < 2 ^ 64)) = true) ↔ (who.wf = true ∧ tag < 65536 ∧ tenant < 4096 ∧ lines < 65536 ∧ firstSa < 2 ^ 64)
  simp [and_assoc]
theorem Operands.bindContent (who : Sender) (tag tenant pages firstSa : Nat) (record : BindingRecord) : Operands.Statement (.bindContent who tag tenant pages firstSa record) := by
  show ((who.wf && decide (tag < 65536) && decide (tenant < 4096) && decide (pages < 2 ^ 32) && decide (firstSa < 2 ^ 64)) = true) ↔ (who.wf = true ∧ tag < 65536 ∧ tenant < 4096 ∧ pages < 2 ^ 32 ∧ firstSa < 2 ^ 64)
  simp [and_assoc]
theorem Operands.unbindContent (who : Sender) (tag tenant handle : Nat) : Operands.Statement (.unbindContent who tag tenant handle) := by
  show ((who.wf && decide (tag < 65536) && decide (tenant < 4096)) = true) ↔ (who.wf = true ∧ tag < 65536 ∧ tenant < 4096)
  simp [and_assoc]
theorem Operands.debugUnlock (who : Sender) (tag : Nat) (token : DebugToken) : Operands.Statement (.debugUnlock who tag token) := by
  show ((who.wf && decide (tag < 65536)) = true) ↔ (who.wf = true ∧ tag < 65536)
  simp
theorem Operands.debugPathsOpen : Operands.Statement (.debugPathsOpen) := iff_of_true rfl trivial
theorem Operands.imageWrite (who : Sender) (tag slot offset len sa : Nat) : Operands.Statement (.imageWrite who tag slot offset len sa) := by
  show ((who.wf && decide (tag < 65536)) = true) ↔ (who.wf = true ∧ tag < 65536)
  simp
theorem Operands.dirSet (who : Sender) (tag active : Nat) : Operands.Statement (.dirSet who tag active) := by
  show ((who.wf && decide (tag < 65536)) = true) ↔ (who.wf = true ∧ tag < 65536)
  simp
theorem Operands.getVersion (who : Sender) : Operands.Statement (.getVersion who) := Iff.rfl
theorem Operands.getCapabilities (who : Sender) : Operands.Statement (.getCapabilities who) := Iff.rfl
theorem Operands.negotiateAlgorithms (who : Sender) (supported : Bool) : Operands.Statement (.negotiateAlgorithms who supported) := Iff.rfl
theorem Operands.getDigests (who : Sender) : Operands.Statement (.getDigests who) := Iff.rfl
theorem Operands.getCertificate (who : Sender) (slot : Nat) : Operands.Statement (.getCertificate who slot) := Iff.rfl
theorem Operands.challenge (who : Sender) (slot transcript : Nat) : Operands.Statement (.challenge who slot transcript) := Iff.rfl
theorem Operands.getMeasurements (who : Sender) (signed : Bool) (transcript : Nat) : Operands.Statement (.getMeasurements who signed transcript) := Iff.rfl
theorem Operands.keyExchange (who : Sender) (mutualAuth : Bool) : Operands.Statement (.keyExchange who mutualAuth) := Iff.rfl
theorem Operands.finish (who : Sender) (authOk : Bool) : Operands.Statement (.finish who authOk) := Iff.rfl
theorem Operands.keyUpdate (who : Sender) (link : Option Nat) : Operands.Statement (.keyUpdate who link) := Iff.rfl
theorem Operands.spdmHeartbeat (who : Sender) : Operands.Statement (.spdmHeartbeat who) := Iff.rfl
theorem Operands.endSession (who : Sender) : Operands.Statement (.endSession who) := Iff.rfl
theorem Operands.getLmsSignature (who : Sender) : Operands.Statement (.getLmsSignature who) := Iff.rfl
theorem Operands.doeDiscovery (ld : Nat) : Operands.Statement (.doeDiscovery ld) := decide_eq_true_iff
theorem Operands.cdatTableAccess (ld : Nat) : Operands.Statement (.cdatTableAccess ld) := decide_eq_true_iff
theorem Operands.compliance (ld : Nat) : Operands.Statement (.compliance ld) := decide_eq_true_iff
theorem Operands.bypass : Operands.Statement (.bypass) := iff_of_true rfl trivial
theorem Operands.idcode : Operands.Statement (.idcode) := iff_of_true rfl trivial
theorem Operands.samplePreload : Operands.Statement (.samplePreload) := iff_of_true rfl trivial
theorem Operands.extest : Operands.Statement (.extest) := iff_of_true rfl trivial
theorem Operands.clamp : Operands.Statement (.clamp) := iff_of_true rfl trivial
theorem Operands.highz : Operands.Statement (.highz) := iff_of_true rfl trivial
theorem Operands.cxlMemRead (ld tag hpa len : Nat) (cell : CellEvent) : Operands.Statement (.cxlMemRead ld tag hpa len cell) := by
  show ((decide (ld < 64) && decide (tag < 65536)) = true) ↔ (ld < 64 ∧ tag < 65536)
  simp
theorem Operands.cxlMemWrite (ld tag hpa : Nat) (data : List Byte) (poison : Bool) (cell : CellEvent) : Operands.Statement (.cxlMemWrite ld tag hpa data poison cell) := by
  show ((decide (ld < 64) && decide (tag < 65536)) = true) ↔ (ld < 64 ∧ tag < 65536)
  simp
theorem Operands.memHoldExpiry (ld tag : Nat) : Operands.Statement (.memHoldExpiry ld tag) := by
  show ((decide (ld < 64) && decide (tag < 65536)) = true) ↔ (ld < 64 ∧ tag < 65536)
  simp
theorem Operands.hdmDecoderCommit (ld decoder : Nat) (setup : DecoderSetup) : Operands.Statement (.hdmDecoderCommit ld decoder setup) := by
  show ((decide (ld < 64) && decide (decoder < 8) && decide (setup.position < 16)) = true) ↔ (ld < 64 ∧ decoder < 8 ∧ setup.position < 16)
  simp [and_assoc]
theorem Operands.cxlLinkDown (link : Nat) : Operands.Statement (.cxlLinkDown link) := decide_eq_true_iff
theorem Operands.hostHoldExpiry (link : Nat) : Operands.Statement (.hostHoldExpiry link) := decide_eq_true_iff
theorem Operands.perstN (port : Nat) : Operands.Statement (.perstN port) := decide_eq_true_iff
theorem Operands.hotReset (link : Nat) : Operands.Statement (.hotReset link) := decide_eq_true_iff
theorem Operands.functionLevelReset (ld : Nat) : Operands.Statement (.functionLevelReset ld) := decide_eq_true_iff
theorem Operands.cxlReset (ld : Nat) : Operands.Statement (.cxlReset ld) := decide_eq_true_iff
theorem Operands.cxlIoCompletion (tag : Nat) (reply : HostReply) : Operands.Statement (.cxlIoCompletion tag reply) := decide_eq_true_iff
theorem Operands.cxlIoTimeout (tag : Nat) : Operands.Statement (.cxlIoTimeout tag) := decide_eq_true_iff
theorem Operands.ideIntegrityFailure (link : Nat) : Operands.Statement (.ideIntegrityFailure link) := decide_eq_true_iff
theorem Operands.d2dLaneFault (link : Nat) : Operands.Statement (.d2dLaneFault link) := decide_eq_true_iff
theorem Operands.cellRetired (kind : UnitKind) (unit cell cause : Nat) : Operands.Statement (.cellRetired kind unit cell cause) := iff_of_true rfl trivial
theorem Operands.blockUnresponsive (kind : UnitKind) (unit : Nat) : Operands.Statement (.blockUnresponsive kind unit) := iff_of_true rfl trivial
theorem Operands.regionIsolated (region : Nat) : Operands.Statement (.regionIsolated region) := decide_eq_true_iff
theorem Operands.eDieFailure (die : Nat) : Operands.Statement (.eDieFailure die) := decide_eq_true_iff
theorem Operands.xDieFailure : Operands.Statement (.xDieFailure) := iff_of_true rfl trivial
theorem Operands.portFailed (kind : UnitKind) (port cause : Nat) : Operands.Statement (.portFailed kind port cause) := decide_eq_true_iff
theorem Operands.flashDieFailure (channel : Nat) (pages : List Nat) : Operands.Statement (.flashDieFailure channel pages) := decide_eq_true_iff
theorem Operands.tierEviction (tier : Tier) : Operands.Statement (.tierEviction tier) := iff_of_true rfl trivial
theorem Operands.promotion : Operands.Statement (.promotion) := iff_of_true rfl trivial
theorem Operands.moveFlip (page : Nat) : Operands.Statement (.moveFlip page) := decide_eq_true_iff
theorem Operands.deepPromotionDone (page : Nat) : Operands.Statement (.deepPromotionDone page) := decide_eq_true_iff
theorem Operands.promotedReturn (page : Nat) : Operands.Statement (.promotedReturn page) := decide_eq_true_iff
theorem Operands.pwrGoodRise (straps : Nat) (board : Board) : Operands.Statement (.pwrGoodRise straps board) := decide_eq_true_iff
theorem Operands.slotCheck (slotB : Bool) (read : SlotRead) : Operands.Statement (.slotCheck slotB read) := iff_of_true rfl trivial
theorem Operands.unitReady (unit : ReadyUnit) : Operands.Statement (.unitReady unit) := iff_of_true rfl trivial
theorem Operands.unitTrainTimeout (kind : UnitKind) (unit : Nat) : Operands.Statement (.unitTrainTimeout kind unit) := iff_of_true rfl trivial
theorem Operands.flushRestore : Operands.Statement (.flushRestore) := iff_of_true rfl trivial
theorem Operands.dhcpLease (address : Nat) : Operands.Statement (.dhcpLease address) := iff_of_true rfl trivial
theorem Operands.noLease : Operands.Statement (.noLease) := iff_of_true rfl trivial
theorem Operands.tftpBlock (block : Nat) : Operands.Statement (.tftpBlock block) := iff_of_true rfl trivial
theorem Operands.tftpTimeout : Operands.Statement (.tftpTimeout) := iff_of_true rfl trivial
theorem Operands.tftpError : Operands.Statement (.tftpError) := iff_of_true rfl trivial
theorem Operands.fwFileAccept (cls : Nat) (file : FwFile) : Operands.Statement (.fwFileAccept cls file) := decide_eq_true_iff
theorem Operands.fetchBackoff : Operands.Statement (.fetchBackoff) := iff_of_true rfl trivial
theorem Operands.svnAutoRaise : Operands.Statement (.svnAutoRaise) := iff_of_true rfl trivial
theorem Operands.hubResetNFall : Operands.Statement (.hubResetNFall) := iff_of_true rfl trivial
theorem Operands.hubResetNRise (straps : Nat) : Operands.Statement (.hubResetNRise straps) := decide_eq_true_iff
theorem Operands.pwrFailNFall : Operands.Statement (.pwrFailNFall) := iff_of_true rfl trivial
theorem Operands.flushDone : Operands.Statement (.flushDone) := iff_of_true rfl trivial
theorem Operands.pwrFailNRise : Operands.Statement (.pwrFailNRise) := iff_of_true rfl trivial
theorem Operands.pwrGoodFall : Operands.Statement (.pwrGoodFall) := iff_of_true rfl trivial
theorem Operands.thermtrip (sensor : Nat) : Operands.Statement (.thermtrip sensor) := decide_eq_true_iff
theorem Operands.watchdogExpiry (core : Nat) : Operands.Statement (.watchdogExpiry core) := decide_eq_true_iff
theorem Operands.coreTrap (core : Nat) : Operands.Statement (.coreTrap core) := decide_eq_true_iff
theorem Operands.coreEccError (core : Nat) : Operands.Statement (.coreEccError core) := decide_eq_true_iff
theorem Operands.coreRestartTimeout (core : Nat) : Operands.Statement (.coreRestartTimeout core) := decide_eq_true_iff
theorem Operands.packagePowerCap (watts : Nat) (belowFor10ms : Bool) : Operands.Statement (.packagePowerCap watts belowFor10ms) := iff_of_true rfl trivial
theorem Operands.regionThermal (region : Nat) (temps : List Nat) : Operands.Statement (.regionThermal region temps) := decide_eq_true_iff
theorem Operands.railTracking : Operands.Statement (.railTracking) := iff_of_true rfl trivial
theorem Operands.powerGuard (watts : Nat) : Operands.Statement (.powerGuard watts) := iff_of_true rfl trivial
theorem Operands.powerTelemetryWindow (watts : Nat) (rails : List (Nat × Nat)) : Operands.Statement (.powerTelemetryWindow watts rails) := iff_of_true rfl trivial
theorem Operands.perfWindow (counts : List (Nat × List Nat)) : Operands.Statement (.perfWindow counts) := iff_of_true rfl trivial
theorem Operands.calTrack (drifts : List (Nat × Nat × Int)) : Operands.Statement (.calTrack drifts) := iff_of_true rfl trivial
theorem Operands.calOverride (cause : Nat) : Operands.Statement (.calOverride cause) := iff_of_true rfl trivial
theorem Operands.calOverrideClear : Operands.Statement (.calOverrideClear) := iff_of_true rfl trivial
theorem Operands.sensorOut (sensor : Nat) : Operands.Statement (.sensorOut sensor) := decide_eq_true_iff
theorem Operands.cxlIdeKm (link : Nat) (activate : Bool) : Operands.Statement (.cxlIdeKm link activate) := decide_eq_true_iff
theorem Operands.coreRestartDone (core : Nat) : Operands.Statement (.coreRestartDone core) := decide_eq_true_iff
theorem Operands.backgroundErasure (tenant pages : Nat) : Operands.Statement (.backgroundErasure tenant pages) := decide_eq_true_iff

end Sys2Proof.Laws
end

