-- ==== Sys2Proof/Laws/Tables.lean ====
section
/-! SUPPORT. Sparse tables after an update, and the canonical form of memory under every operation on it. -/

namespace Sys2Proof

variable {α : Type}

@[simp] theorem Tbl.find_put_same (t : Tbl α) (k : Nat) (v : α) : Tbl.find (Tbl.put t k v) k = some v := by
  induction t with
  | nil => simp [Tbl.put, Tbl.find]
  | cons e t ih =>
    obtain ⟨j, w⟩ := e
    simp only [Tbl.put]
    split
    · simp [Tbl.find]
    · split
      · simp [Tbl.find]
      · rename_i h
        have hj : (j == k) = false := by simp only [beq_iff_eq] at h ⊢; simpa using fun e => h e.symm
        simp [Tbl.find, hj, ih]

theorem Tbl.find_put_other (t : Tbl α) {k key : Nat} (v : α) (h : key ≠ k) :
    Tbl.find (Tbl.put t k v) key = Tbl.find t key := by
  have hk : (k == key) = false := by simpa using fun e => h e.symm
  induction t with
  | nil => simp [Tbl.put, Tbl.find, hk]
  | cons e t ih =>
    obtain ⟨j, w⟩ := e
    simp only [Tbl.put]
    split
    · simp [Tbl.find, hk]
    · split
      · rename_i hj
        have : j = k := (by simpa using hj : k = j).symm
        subst this
        simp [Tbl.find, hk]
      · by_cases hj : (j == key) = true
        · simp [Tbl.find, hj]
        · simp only [Bool.not_eq_true] at hj
          simp [Tbl.find, hj, ih]

@[simp] theorem Tbl.at_put_same (t : Tbl α) (k : Nat) (v d : α) : Tbl.at (Tbl.put t k v) k d = v := by
  simp [Tbl.at]

theorem Tbl.at_put_other (t : Tbl α) {k key : Nat} (v d : α) (h : key ≠ k) :
    Tbl.at (Tbl.put t k v) key d = Tbl.at t key d := by
  simp [Tbl.at, Tbl.find_put_other t v h]

@[simp] theorem Tbl.at_change_same (t : Tbl α) (k : Nat) (d : α) (f : α → α) :
    Tbl.at (Tbl.change t k d f) k d = f (Tbl.at t k d) := by
  simp [Tbl.change]

theorem Tbl.at_change_other (t : Tbl α) {k key : Nat} (d : α) (f : α → α) (h : key ≠ k) :
    Tbl.at (Tbl.change t k d f) key d = Tbl.at t key d := Tbl.at_put_other t _ d h

theorem Tbl.find_change_same (t : Tbl α) (k : Nat) (d : α) (f : α → α) :
    Tbl.find (Tbl.change t k d f) k = some (f (Tbl.at t k d)) := by simp [Tbl.change]

theorem Tbl.find_change_other (t : Tbl α) {k key : Nat} (d : α) (f : α → α) (h : key ≠ k) :
    Tbl.find (Tbl.change t k d f) key = Tbl.find t key := Tbl.find_put_other t _ h

@[simp] theorem Tbl.find_del_same (t : Tbl α) (k : Nat) : Tbl.find (Tbl.del t k) k = none := by
  induction t with
  | nil => rfl
  | cons e t ih =>
    obtain ⟨j, w⟩ := e
    by_cases hj : j = k
    · subst hj; simpa [Tbl.del] using ih
    · have hk : (j == k) = false := by simpa using hj
      simp only [Tbl.del] at ih ⊢
      simp [hj, Tbl.find, hk, ih]

theorem Tbl.find_del_other (t : Tbl α) {k key : Nat} (h : key ≠ k) : Tbl.find (Tbl.del t k) key = Tbl.find t key := by
  induction t with
  | nil => rfl
  | cons e t ih =>
    obtain ⟨j, w⟩ := e
    simp only [Tbl.del] at ih ⊢
    by_cases hj : j = k
    · subst hj
      have hk : (j == key) = false := by simpa using fun e => h e.symm
      simp [Tbl.find, hk, ih]
    · by_cases hk : (j == key) = true
      · simp [hj, Tbl.find, hk]
      · simp only [Bool.not_eq_true] at hk
        simp [hj, Tbl.find, hk, ih]

theorem Tbl.find_alter (t : Tbl α) (k key : Nat) (f : α → α) :
    Tbl.find (Tbl.alter t k f) key = if key = k then (Tbl.find t key).map f else Tbl.find t key := by
  induction t with
  | nil => simp [Tbl.alter, Tbl.find]
  | cons e t ih =>
    obtain ⟨j, w⟩ := e
    simp only [Tbl.alter] at ih ⊢
    by_cases hj : j = key
    · subst hj
      by_cases hk : j = k
      · subst hk; simp [Tbl.find]
      · simp [Tbl.find, hk]
    · have hj' : (j == key) = false := by simpa using hj
      by_cases hk : j = k
      · subst hk; simpa [Tbl.find, hj'] using ih
      · have hjk : ¬ j = k := hk
        simpa [Tbl.find, hj, hjk] using ih

end Sys2Proof

namespace Sys2Proof.Machine

open Sys2Proof

/-! ### The canonical form of memory -/

theorem Memory.wf_cons (c : Host.Cell) (t : List Host.Cell) :
    Memory.wf (c :: t) = true ↔ c.2 ≠ 0 ∧ (∀ d ∈ t, c.1 < d.1) ∧ Memory.wf t = true := by
  induction t generalizing c with
  | nil => simp [Memory.wf]
  | cons d t ih =>
    rw [show Memory.wf (c :: d :: t) = (c.2 != 0 && decide (c.1 < d.1) && Memory.wf (d :: t)) from rfl]
    have ihd := ih d
    simp only [Bool.and_eq_true, bne_iff_ne, decide_eq_true_eq, List.mem_cons, forall_eq_or_imp] at ihd ⊢
    constructor
    · rintro ⟨⟨h0, h1⟩, h2⟩
      exact ⟨h0, ⟨h1, fun x hx => Nat.lt_trans h1 ((ihd.mp h2).2.1 x hx)⟩, h2⟩
    · rintro ⟨h0, ⟨h1, _⟩, h2⟩
      exact ⟨⟨h0, h1⟩, h2⟩

/-- An address below every listed one reads 0. -/
theorem memByte_below (m : List Host.Cell) (a : Nat) (h : ∀ d ∈ m, a < d.1) : memByte m a = 0 := by
  induction m with
  | nil => rfl
  | cons c t ih =>
    have hc := h c (by simp)
    have : (c.1 == a) = false := by simp; omega
    simp only [memByte, this]
    exact ih (fun d hd => h d (by simp [hd]))

theorem memPut_mem (m : List Host.Cell) (a : Nat) (b : Byte) (d : Host.Cell) (h : d ∈ memPut m a b) :
    d ∈ m ∨ d = (a, b) := by
  induction m with
  | nil => simp only [memPut] at h; split at h <;> simp_all
  | cons c t ih =>
    obtain ⟨k, w⟩ := c
    simp only [memPut] at h
    split at h
    · split at h
      · exact .inl h
      · rcases List.mem_cons.mp h with h | h
        · exact .inr h
        · exact .inl h
    · split at h
      · split at h
        · exact .inl (by simp [h])
        · rcases List.mem_cons.mp h with h | h
          · exact .inr h
          · exact .inl (by simp [h])
      · rcases List.mem_cons.mp h with h | h
        · exact .inl (by simp [h])
        · rcases ih h with h | h
          · exact .inl (by simp [h])
          · exact .inr h

/-- Setting a byte keeps the canonical form. -/
theorem memPut_wf (m : List Host.Cell) (a : Nat) (b : Byte) (h : Memory.wf m = true) : Memory.wf (memPut m a b) = true := by
  induction m with
  | nil =>
    simp only [memPut]
    split
    · rfl
    · rename_i hb; simp [Memory.wf]; simpa using hb
  | cons c t ih =>
    obtain ⟨k, w⟩ := c
    obtain ⟨h0, h1, h2⟩ := (Memory.wf_cons _ _).mp h
    simp only [memPut]
    split
    · rename_i hk
      split
      · exact h
      · rename_i hb
        refine (Memory.wf_cons _ _).mpr ⟨by simpa using hb, ?_, h⟩
        intro d hd
        rcases List.mem_cons.mp hd with rfl | hd
        · exact hk
        · exact Nat.lt_trans hk (h1 d hd)
    · rename_i hk
      split
      · rename_i he
        have he' : a = k := by simpa using he
        split
        · exact h2
        · rename_i hb
          exact (Memory.wf_cons _ _).mpr ⟨by simpa using hb, fun d hd => he' ▸ h1 d hd, h2⟩
      · rename_i he
        have he' : a ≠ k := by simpa using he
        refine (Memory.wf_cons _ _).mpr ⟨h0, ?_, ih h2⟩
        intro d hd
        rcases memPut_mem t a b d hd with hd | rfl
        · exact h1 d hd
        · show k < a; omega

/-- Writing a byte string keeps the canonical form. -/
theorem memWrite_wf (m : List Host.Cell) (a : Nat) (d : List Byte) (h : Memory.wf m = true) :
    Memory.wf (memWrite m a d) = true := by
  induction d generalizing m a with
  | nil => exact h
  | cons b t ih => exact ih _ _ (memPut_wf m a b h)

/-- Taking listed bytes away keeps the canonical form. -/
theorem filter_wf (m : List Host.Cell) (p : Host.Cell → Bool) (h : Memory.wf m = true) : Memory.wf (m.filter p) = true := by
  induction m with
  | nil => rfl
  | cons c t ih =>
    obtain ⟨h0, h1, h2⟩ := (Memory.wf_cons _ _).mp h
    by_cases hp : p c = true
    · rw [List.filter_cons_of_pos hp]
      exact (Memory.wf_cons _ _).mpr ⟨h0, fun d hd => h1 d (List.mem_filter.mp hd).1, ih h2⟩
    · rw [List.filter_cons_of_neg hp]
      exact ih h2

/-- Clearing a range keeps the canonical form. -/
theorem memClear_wf (m : List Host.Cell) (a n : Nat) (h : Memory.wf m = true) : Memory.wf (memClear m a n) = true :=
  filter_wf m _ h

/-! ### One byte after a write -/

theorem memByte_memPut (m : List Host.Cell) (a x : Nat) (b : Byte) (h : Memory.wf m = true) :
    memByte (memPut m a b) x = if x = a then b else memByte m x := by
  induction m with
  | nil =>
    simp only [memPut]
    split
    · rename_i hb
      have : b = 0 := by simpa using hb
      simp [memByte, this]
    · by_cases hx : x = a
      · simp [memByte, hx]
      · have : (a == x) = false := by simpa using fun e => hx e.symm
        simp [memByte, hx, this]
  | cons c t ih =>
    obtain ⟨k, w⟩ := c
    obtain ⟨h0, h1, h2⟩ := (Memory.wf_cons _ _).mp h
    simp only [memPut]
    split
    · rename_i hk
      split
      · rename_i hb
        have hb' : b = 0 := by simpa using hb
        by_cases hx : x = a
        · subst hx
          rw [if_pos rfl, hb']
          refine memByte_below _ _ fun d hd => ?_
          rcases List.mem_cons.mp hd with rfl | hd
          · exact hk
          · exact Nat.lt_trans hk (h1 d hd)
        · simp [hx]
      · by_cases hx : x = a
        · simp [memByte, hx]
        · have : (a == x) = false := by simpa using fun e => hx e.symm
          simp [memByte, hx, this]
    · split
      · rename_i he
        have he' : a = k := by simpa using he
        subst he'
        split
        · rename_i hb
          have hb' : b = 0 := by simpa using hb
          by_cases hx : x = a
          · subst hx
            rw [if_pos rfl, hb']
            exact memByte_below _ _ h1
          · have : (a == x) = false := by simpa using fun e => hx e.symm
            simp [memByte, hx, this]
        · by_cases hx : x = a
          · simp [memByte, hx]
          · have : (a == x) = false := by simpa using fun e => hx e.symm
            simp [memByte, hx, this]
      · rename_i he
        have he' : a ≠ k := by simpa using he
        by_cases hx : k = x
        · subst hx
          have : ¬ k = a := fun e => he' e.symm
          simp [memByte, this]
        · have : (k == x) = false := by simpa using hx
          simp [memByte, this, ih h2]

/-- A byte outside a written string reads as before. -/
theorem memByte_memWrite_outside (m : List Host.Cell) (a x : Nat) (d : List Byte) (h : Memory.wf m = true)
    (hx : x < a ∨ a + d.length ≤ x) : memByte (memWrite m a d) x = memByte m x := by
  induction d generalizing m a with
  | nil => rfl
  | cons b t ih =>
    simp only [List.length_cons] at hx
    show memByte (memWrite (memPut m a b) (a + 1) t) x = memByte m x
    rw [ih _ _ (memPut_wf m a b h) (by omega), memByte_memPut m a x b h, if_neg (by omega)]

/-- A byte inside a written string reads as written. -/
theorem memByte_memWrite_inside (m : List Host.Cell) (a i : Nat) (d : List Byte) (h : Memory.wf m = true)
    (hi : i < d.length) : memByte (memWrite m a d) (a + i) = d[i] := by
  induction d generalizing m a i with
  | nil => simp at hi
  | cons b t ih =>
    show memByte (memWrite (memPut m a b) (a + 1) t) (a + i) = (b :: t)[i]
    cases i with
    | zero =>
      rw [memByte_memWrite_outside _ _ _ _ (memPut_wf m a b h) (by omega), memByte_memPut m a _ b h]
      simp
    | succ i =>
      have := ih (memPut m a b) (a + 1) i (memPut_wf m a b h) (by simpa using hi)
      rw [show a + 1 + i = a + (i + 1) by omega] at this
      simpa using this

/-- A byte of a cleared range reads 0, and every other byte as before. -/
theorem memByte_memClear (m : List Host.Cell) (a n x : Nat) (h : Memory.wf m = true) :
    memByte (memClear m a n) x = if a ≤ x ∧ x < a + n then 0 else memByte m x := by
  induction m with
  | nil => simp [memClear, memByte]
  | cons c t ih =>
    obtain ⟨h0, h1, h2⟩ := (Memory.wf_cons _ _).mp h
    have ih' := ih h2
    simp only [memClear] at ih' ⊢
    by_cases hc : (decide (c.1 < a) || decide (a + n ≤ c.1)) = true
    · rw [List.filter_cons, if_pos hc]
      by_cases hx : (c.1 == x) = true
      · have hx' : c.1 = x := by simpa using hx
        simp only [Bool.or_eq_true, decide_eq_true_eq] at hc
        rw [if_neg (by omega)]
        simp [memByte, hx]
      · simp only [Bool.not_eq_true] at hx
        simp [memByte, hx, ih']
    · rw [List.filter_cons, if_neg hc, ih']
      simp only [Bool.or_eq_true, decide_eq_true_eq] at hc
      split
      · rfl
      · have : (c.1 == x) = false := by simp; omega
        simp [memByte, this]

end Sys2Proof.Machine
end

