-- ==== Sys2Proof/Tests/Slice0.lean ====
section
/-! SUPPORT. Tests: ill-formed commands that the check refuses, small runs of one step, and for each statement a state and
operands that meet its hypotheses. -/

namespace Sys2Proof.Tests

open Sys2Proof Sys2Proof.Machine

/-! ### A small hub -/

/-- An image of a domain of two hubs, with tenants 5 and 6, and one template. -/
def img : Image :=
  { formatMajor := 1, formatMinor := 0, sectionIds := [], sectionsOk := true, imageSeq := 1, baseNode := 0, domain := 3,
    hash := 9, hubs := [0, 1], members := [0, 1], compHubs := [0, 1], weights := [],
    tenants := [{ tenant := 5, saffron := false, maxQueues := 8, near := { floor := 0, ceiling := 100 },
                  far := { floor := 0, ceiling := 100 }, deep := { floor := 0, ceiling := 100 } }],
    templates := [{ shape := 0, log2n := 6, region := 0, vector := 1 }], starting := [],
    envelope := [{ opcode := 0xC105, tenants := none, lds := none, nodes := none, values := [] },
                 { opcode := 0x5402, tenants := none, lds := none, nodes := none, values := [] },
                 { opcode := 0x5404, tenants := none, lds := none, nodes := none, values := [(0, 4)] }],
    routes := [], votes := [1, 1], tieNode := 0, tallySend := [(0, { queue := 3, dest := 1, counter := 2 })],
    tallyRecv := [(2, { src := 1, channel := 0, tenant := 5, queue := 3 })], ownerKeys := 1, svnAuto := true,
    injectOk := true, mutualAuth := false, lock := 0,
    cal := some { powerLo := 0, powerHi := 900, tjLo := 0, tjHi := 100, entries := [] }, limitW := 900, controls := [],
    readyMask := none, network := true, hopsOk := true }

def page (owner : Nat) (cls : PageClass) (index : Nat) : Page :=
  { owner := owner, share := none, want := 1, pooled := true, discard := false, cls := cls, lastWins := false, tier := .near,
    phase := .resident, format := 0, unit := 0, index := index, lastAccess := 0, forms := [] }

def core : Core := { run := .running, cause := 0, restarts := 0, recent := [], record := 0 }

def bind : QueueBind :=
  { tenant := 5, template := 0, shape := 0, log2n := 0, region := 0, vector := 1, irqLd := 0, sqBase := 6291456, cqBase := 6295552 }

/-- A table of tenant 5 with its four rows of four FP32 elements in page 0. -/
def table : TableDesc :=
  { tenant := 5, rowElems := 4, storeFmt := 0, place := 1, gatherOnly := false, noCache := false, rows := 4, mapEpoch := 1,
    shards := 1, stride := 16, shardRows := 0, shardGroup := 0, map0 := [{ node := 0, state := 0, base := 4096 }], map1 := [], map2 := [] }

/-- A binary index of tenant 5 whose list descriptors lie in page 0. -/
def index : IndexDesc :=
  { tenant := 5, kind := 1, metric := 0, m := 1, cbFmt := 0, dim := 64, lists := 1, listTable := 8192, codebook := 0, sealed := 4,
    sealTarget := 6 }

/-- A loaded hub, its cores running, with three pages of tenant 5 (plain, Held, Published) and a ring page. -/
def hub : State :=
  { State.reset with
    queues := [(3, { Queue.unbound with state := .running, sqTail := 1 })]
    ctrl := { State.reset.ctrl with exch := 3 }
    boot := { State.reset.boot with
      image := some img, state := 1, readyN := true, applied := true, fnReady := BitVec.ofNat 128 (2 ^ 128 - 1), address := some 1
      dir0 := { valid := true, seq := 1, active := 0 }, dir1 := { valid := true, seq := 2, active := 0 } }
    store := { State.reset.store with
      pages := [(0, page 5 .plain 0), (1, page 5 .held 1), (2, page 5 .published 2), (3, page 5 .plain 3)] }
    order := { State.reset.order with regions := [(2, { pages := 1, version := 7, lastWins := false })] }
    comp := { State.reset.comp with
      acting := true
      live := { Composition.empty with
        tenantBinds := [{ ld := 0, tenant := 5, pasid := 1, admin := true }], queueBinds := [(3, bind)]
        tables := [(7, table)], indexes := [(8, index)], quotas := [(20, { floor := 0, ceiling := 100 })]
        hdm := [(0, { saBase := 0, target := 0, tenant := 5, valid := true })]
        pools := [(2, { tenant := 5, spill := false, capacity := [(0, 64)], consumers := [0] })] } }
    cxl := { State.reset.cxl with
      links := { CxlLink.down with up := true, width := 16, rate := 2 } :: List.replicate 7 CxlLink.down
      lds := [(0, { LogicalDevice.reset with
        capacity := 2 ^ 30, pendingMsi := [4]
        decoders := [(0, { dpaBase := 0, base := 2 ^ 32, size := 2 ^ 28, ways := 1, gran := 256, position := 0, skip := 0, locked := false })] })] }
    fabric := { State.reset.fabric with authority := true }
    power := { State.reset.power with cores := List.replicate 35 core, romLoop := false } }

/-- The same hub with port 0 up towards hub 1, which it sees. -/
def net : State :=
  { hub with
    fabric := { hub.fabric with
      ports := { IflPort.down with up := true, lanes := 15, partner := 1 } :: List.replicate 11 IflPort.down
      seen := [1], streak := [(1, 3)], listing := [1] }
    comp := { hub.comp with live := { hub.comp.live with routes := [(1, { primary := 0, alt1 := 15, alt2 := 15, alt3 := 15 })] } } }

def desc (opcode : Nat) : Descriptor :=
  { seq := 0, opcode := opcode, flags := 0, srcFmt := 0, dstFmt := 0, param := 0, count := 1, ptr0 := 0, ptr1 := 0, ptr2 := 0,
    ptr3 := 0, arg0 := 0, arg1 := 0, userTag := 0 }

def work (shape : Nat) (d : Descriptor) : Work :=
  { queue := 3, seq := 0, desc := d, tenant := 5, region := 0, shape := shape, stamp := 1, replayed := false, restored := false,
    barred := false, singleCopy := false, strip := false, phase := .ready, delivered := false, status := .ok, node := 0, conv := 0,
    count := 0, result := 0, placed := 0, cluster := 0, waits := [], acks := [], owners := [], fetched := [], asked := [],
    trowel := [], stale := [], redo := [], olds := [], guards := [], waited := none, tallyBytes := 0, tallyPkts := 0, layer := 0,
    staged := [], follow := [] }

/-- A hub with one accepted descriptor, its segment in flight on cluster 0. -/
def busy (s : State) (w : Work) : State :=
  { s with
    works := [w]
    units := { s.units with
      clusters := { Cluster.idle with shape := some w.shape, inFlight := [{ queue := 3, seq := 0, number := 0, shape := w.shape }] } ::
        List.replicate 31 Cluster.idle } }

/-- A hub with one outstanding transaction, tag 9, of node 1. -/
def sent (s : State) (a : Await) : State :=
  { s with fabric := { s.fabric with outstanding := [{ tag := 9, node := 1, await := a, tenant := 5, addr := 0, len := 4, stale := false }] } }

def msg : MsgHeader := { src := 1, tenant := 5, tag := 4, offset := 0 }

def exch : ExHeader := { op := 0, table := 7, tenant := 5, src := 1, epoch := 1, queue := 3, seq := 0, part := 0, status := .ok }

def held : DirEntry :=
  { state := .shared, owner := 0, sharers := [1], next := 0, serve := 0, lost := false, busy := none, acksDue := [], waiting := [], granted := 0 }

/-- A hub with a directory entry for the first line of its Held page. -/
def lined (e : DirEntry) : State := { hub with order := { hub.order with directory := [(16384, e)] } }

def copy : HeldCopy := { node := 1, line := 0, tenant := 5, state := .modified, data := List.replicate 128 1 }

def miss (r : LineRequest) : LineMiss := { node := 1, line := 0, tenant := 5, request := r, ticket := none }

def object (typ : Nat) : SignedObject :=
  { typ := typ, signer := 0, maelcy := false, svn := 0, keyHashOk := true, ecdsaOk := true, lmsOk := true, bodyOk := true }

/-- A hub with the owner key of signer 0 fused. -/
def fused (s : State) : State := { s with sec := { s.sec with ownerSet := 1 } }

/-- A hub in the second phase of its firmware fetch. -/
def fetching (accepted : List Nat) : State :=
  fused { hub with boot := { hub.boot with fwPhase := if accepted.isEmpty then 2 else 3, fwAccepted := accepted } }

def fwFile (typ : Nat) (ok : Bool) : FwFile := { object := object typ, hashOk := ok, sizeOk := ok, major := 1, minor := 0 }

/-- A hub whose link 0 is down. -/
def unlinked (s : State) : State := { s with cxl := { s.cxl with links := List.replicate 8 CxlLink.down } }

/-- A valid image. -/
def good : Image :=
  { img with sectionIds := [1, 2, 3, 4, 9, 10, 11, 13, 14], routes := [(1, { primary := 0, alt1 := 15, alt2 := 15, alt3 := 15 })] }

/-- A hub whose layer table at SA 65536 names one row in a far page. -/
def far : State :=
  { hub with
    store := { hub.store with
      pages := hub.store.pages ++ [(4, { page 5 .plain 0 with tier := .far })]
      mem := [(65538, 0x80), (65544, 1)] } }

/-- A hub whose counter at SA 1048576 holds 1. -/
def counted : State := { hub with store := { hub.store with mem := [(1048576, 1)] } }

/-- A hub whose far tier is one small channel, more than half full, with one page that may be evicted. -/
def crowded (p : Page) : State :=
  { hub with
    units := { hub.units with ddr := [{ fit := { dimms := 1, ranks := 1, speed := 0, gib := 1, ok := true }, inService := true }] }
    journals := List.replicate 3 { Journal.home 0 with mirror := some 0 }
    ctrl := { hub.ctrl with pool := BitVec.ofNat 64 (512 + 1024 * 768) }
    store := { hub.store with
      pages := [(0, p)], scrubs := List.replicate 70 { tenant := 6, tier := .far, unit := 0, index := 0, lost := false } } }

/-- A hub whose near tier is one stack of few banks, with less than three quarters of its pages free. -/
def crammed : State :=
  { hub with
    units := { hub.units with
      hbm := [false, true], retired := (List.range 63).map (fun b => (.hbm, 1, b)) }
    journals := List.replicate 2 { Journal.home 0 with primary := some 1 }
    ctrl := { hub.ctrl with pool := BitVec.ofNat 64 (512 + 1024 * 768) }
    store := { hub.store with scrubs := List.replicate 40 { tenant := 6, tier := .near, unit := 1, index := 0, lost := false } } }

/-- The rows of a SCATTER_ADD as they are read. -/
def summed (s : State) (w : Work) : List Summed :=
  match scatterRead s w table with
  | .ok l => l
  | .error _ => []


/-- A descriptor of ATOMIC_BATCH whose old values go to SA 1048576. -/
def olds : Work := work 12 { desc 1 with ptr1 := 1048576 }

/-- Old values of `olds` can be written, whatever they are. -/
theorem olds_ready (v : Nat) :
    (resolve (busy hub olds) olds false (oldWrite olds.desc 0 v)).needs = [] ∧
    (resolve (busy hub olds) olds false (oldWrite olds.desc 0 v)).status = .ok := by
  have l : (leBytes 8 v).length = 8 := rfl
  have h : localWriteStatus (busy hub olds) olds.tenant (hubNode (busy hub olds)) 1048576 8 = .ok := by decide
  have d : deepPages (busy hub olds) 1048576 8 = [] := by decide
  have w : linesToWrite (busy hub olds) 1048576 8 = [] := by decide
  have e : resolve (busy hub olds) olds false (oldWrite olds.desc 0 v)
      = putHere (busy hub olds) olds false 1048576 (leBytes 8 v) false := by
    unfold resolve
    rw [if_pos (show (!(oldWrite olds.desc 0 v).tva) = true by show (!bit olds.desc.flags 1) = true; decide)]
    unfold putSa
    rw [if_neg (show ¬ (!saWellFormed (oldWrite olds.desc 0 v).addr) = true by show ¬ (!saWellFormed 1048576) = true; decide)]
    rw [if_pos (show (saNode (oldWrite olds.desc 0 v).addr == hubNode (busy hub olds)) = true by
      show (saNode 1048576 == hubNode (busy hub olds)) = true; decide)]
    rfl
  rw [e]
  simp [putHere, l, h, d, w]

/-! ### Ill-formed commands -/

/-- The check refuses every one of these commands. -/
def refusedAll (l : List Instr) : Bool := l.all (fun i => !i.wf)

def badMsg : MsgHeader := { msg with tag := 65536 }

def badExch : ExHeader := { exch with queue := 16384 }

/-- A bad header is refused for each of its fields. -/
theorem test_wf_headers :
    ([{ msg with src := 4096 }, { msg with tenant := 4096 }, badMsg, { msg with offset := 2 ^ 48 }] : List MsgHeader).all
      (fun m => !m.wf) = true ∧
    ([{ exch with table := 65536 }, { exch with tenant := 4096 }, { exch with src := 4096 }, { exch with epoch := 2 ^ 32 },
      badExch] : List ExHeader).all (fun h => !h.wf) = true ∧
    Sender.wf (.ld 64) = false ∧ msg.wf = true ∧ exch.wf = true := by decide

theorem test_wf_refuses_cores_and_clusters : refusedAll
    [.shapeChange 32, .stripCluster .mgmt 32, .cloveHalve 32, .srSourceFail 32 0, .srSourceFail 0 512,
     .srSourcePass 32 0, .srSourcePass 0 512, .laneLockLoss 0 4, .laneErrorWindow 0 4, .watchdogExpiry 35, .coreTrap 35,
     .coreEccError 35, .coreRestartTimeout 35, .coreRestartDone 35] = true := by decide

theorem test_wf_refuses_exchange_headers : refusedAll
    [.poolReq 0 badExch [], .poolRsp 0 badExch [] [], .busy 0 badExch, .prep 0 badExch [], .prepRsp 0 badExch,
     .delta 0 badExch [], .deltaAck 0 badExch, .release 0 badExch] = true := by decide

theorem test_wf_refuses_logical_devices :
    refusedAll
      [.sqTail 64 0 0, .cqHead 64 0 0, .msixPendingSend 64 0, .resume 64 0 0, .tlbInv 64 0, .tlbInvDone 64,
       .atsInvalidateRequest 64 0 0 0, .atsInvalidateCompletion 64, .bindTenant 64 0 0 false, .unbindTenant 64 0,
       .setHdmMap 64 0 false 0 0 0, .getEventRecords 64 0, .clearEventRecords 64 0 false [], .getEventInterruptPolicy 64,
       .setEventInterruptPolicy 64 [], .getFwInfo 64, .getTimestamp 64, .setTimestamp 64 0, .getSupportedLogs 64,
       .getLog 64 false, .identifyMemoryDevice 64, .getHealthInfo 64, .getAlertConfiguration 64,
       .setAlertConfiguration 64 [], .getPoisonList 64 0 0, .injectPoison 64 0, .clearPoison 64 0 [],
       .getScanMediaCapabilities 64 0 0, .scanMedia 64 0 0, .getScanMediaResults 64, .getHubInfo 64,
       .readRbs 64 0 0 false, .readFaults 64 0 0 0, .doeDiscovery 64, .cdatTableAccess 64, .compliance 64,
       .cxlMemRead 64 0 0 0 default, .cxlMemWrite 64 0 0 [] false default, .memHoldExpiry 64 0,
       .hdmDecoderCommit 64 0 default] = true ∧
    refusedAll
      [.functionLevelReset 64, .cxlReset 64] = true := by decide

theorem test_wf_refuses_message_headers : refusedAll
    [.load badMsg 0 none, .store badMsg [], .atomic badMsg 0 0 0 0 [], .atomicCheck badMsg 0 0 0 0 [],
     .readShared badMsg, .readOwn badMsg, .upgrade badMsg, .evict badMsg [], .retry badMsg default 0,
     .fwdShared badMsg 0, .fwdOwn badMsg 0, .inv badMsg, .recall badMsg, .data badMsg .ok default [], .grant badMsg,
     .nack badMsg 0, .invAck badMsg [], .versionNotice badMsg 0, .versionReq badMsg, .versionRsp badMsg .ok 0,
     .tallyStore badMsg []] = true := by decide

theorem test_wf_refuses_nodes :
    refusedAll
      [.poolReq 4096 exch [], .poolRsp 4096 exch [] [], .busy 4096 exch, .prep 4096 exch [], .prepRsp 4096 exch,
       .delta 4096 exch [], .deltaAck 4096 exch, .release 4096 exch, .loadRsp 4096 0 .ok 0 [], .storeAck 4096 0 .ok,
       .atomicRsp 4096 0 .ok [], .fwdShared msg 4096, .fwdOwn msg 4096, .tallyCredit 4096 0 0 0 0 0, .creditAck 4096 0,
       .flitForward 0 4096 0 0 0 0 [], .flitForward 0 0 4096 0 0 0 [], .linkTrainingDone 0 0 4096 0 default false,
       .barrier 4096 0, .barrierAck 4096, .heartbeat 4096 [] 0 false default, .memberUnreachable 4096,
       .change 4096 0 default, .changeAnswer 4096 0 .ok, .forward 4096 0 default, .forwardAnswer 4096 0 .ok,
       .flipRequest 4096 0 0 0, .catchUp 4096 0, .snapshot 4096 0 default, .seqQuery 4096 0, .seqReport 4096 0 [],
       .replicaStale 4096 0 0 0, .setHdmMap 0 0 false 0 4096 0, .moveShard 0 0 0 4096 0, .putIndex 0 default 4096,
       .dropIndex 0 4096, .setRoute 4096 0 default, .setRoute 0 4096 default, .setKvPool 0 false 0 4096 0,
       .kvAttach 0 4096] = true ∧
    refusedAll
      [.kvDetach 0 4096] = true := by decide

theorem test_wf_refuses_others : refusedAll
    [.registerWrite .mgmt 67108864 [], .dwellExpiry 16, .replay 4, .journalRebuildDone 4,
     .atsInvalidateRequest 0 (2 ^ 20) 0 0, .draftLeaseExpiry 0 0 4096, .tallyCredit 0 65536 0 0 0 0,
     .controlFlit 0 0 false 16 [] false, .flitForward 0 0 0 8 0 0 [], .flitForward 0 0 0 0 64 0 [],
     .linkTrainingDone 0 16 0 0 default false, .barrier 0 8, .bindTenant 0 0 (2 ^ 20) false, .setHdmMap 0 8 false 0 0 0,
     .bindQueue 0 0 0 64, .allocPages .mgmt 0 0 65536 0 0 0 0, .allocPages .mgmt 0 0 0 256 0 0 0,
     .allocPages .mgmt 0 0 0 0 256 0 0, .allocPages .mgmt 0 0 0 0 0 256 0, .allocPages .mgmt 0 0 0 0 0 0 256,
     .freePages .mgmt 0 0 65536 0, .freePages .mgmt 0 0 0 (2 ^ 64), .lineSalvage .mgmt 0 0 65536 0,
     .lineSalvage .mgmt 0 0 0 (2 ^ 64), .bindContent .mgmt 0 0 (2 ^ 32) 0 default,
     .bindContent .mgmt 0 0 0 (2 ^ 64) default, .hdmDecoderCommit 0 8 default,
     .hdmDecoderCommit 0 0 { base := 0, size := 0, ways := 1, gran := 256, position := 16, skip := 0, lock := false, commit := true },
     .regionIsolated 4, .eDieFailure 2, .flashDieFailure 32 [], .moveFlip 100663296, .deepPromotionDone 100663296,
     .promotedReturn 100663296, .pwrGoodRise 16 default, .fwFileAccept 256 default, .hubResetNRise 16, .thermtrip 48,
     .regionThermal 4 [], .sensorOut 48] = true := by decide

theorem test_wf_refuses_ports : refusedAll
    [.controlFlit 12 0 false 0 [] false, .flitForward 12 0 0 0 0 0 [], .laneLockLoss 12 0, .laneErrorWindow 12 0,
     .linkRetrain .mgmt 12, .linkTrainingDone 12 0 0 0 default false, .helloTimeout 12 0, .linkKeyUpdateDue 12,
     .linkFate 12 0, .linkFateTimeout 12, .getLdAllocations 4, .setLdAllocations 4 0 [], .getQosControl 4,
     .setQosControl 4 0, .getQosStatus 4, .getQosAllocatedBw 4, .setQosAllocatedBw 4 0 [], .getQosBwLimit 4,
     .setQosBwLimit 4 0 [], .cxlLinkDown 8, .hostHoldExpiry 8, .perstN 4, .hotReset 8, .ideIntegrityFailure 8,
     .d2dLaneFault 11, .portFailed default 12 0, .cxlIdeKm 8 false] = true := by decide

theorem test_wf_refuses_queues :
    refusedAll
      [.sqTail 0 16384 0, .cqHead 0 16384 0, .badSeq 16384, .descriptorAccept 16384, .segmentPlace 16384 0, .nop 16384 0,
       .gather 16384 0, .pool 16384 0, .scatterAdd 16384 0, .copyConvert 16384 0, .pqScan 16384 0, .hamScan 16384 0,
       .append 16384 0, .delete 16384 0, .seal 16384 0, .topkMerge 16384 0, .layerStream 16384 0, .kvPush 16384 0,
       .kvFetch 16384 0 0 none, .pageOut 16384 0, .pageIn 16384 0, .atomicBatch 16384 0, .fill 16384 0,
       .fenceQueue 16384 0, .fenceHub 16384 0, .fenceFabric 16384 0, .waitTally 16384 0, .glazePublish 16384 0,
       .glazeDiscard 16384 0, .glazeRefresh 16384 0, .glazeVersion 16384 0, .redoApply 16384 0, .descriptorComplete 16384,
       .stripQueue .mgmt 16384, .resume 0 16384 0, .straggle 16384 0 0, .atomic msg 0 16384 0 0 [],
       .atomicCheck msg 0 16384 0 0 [], .tallyCreditSend 16384 0, .bindQueue 16384 0 0 0] = true ∧
    refusedAll
      [.unbindQueue 16384] = true := by decide

theorem test_wf_refuses_senders : refusedAll
    [.registerWrite (.ld 64) 0 [], .faultSummaryClear (.ld 64) 0, .stripQueue (.ld 64) 0, .stripTenant (.ld 64) 0,
     .stripCluster (.ld 64) 0, .stripDone (.ld 64), .cloveClear (.ld 64), .linkRetrain (.ld 64) 0,
     .allocPages (.ld 64) 0 0 0 0 0 0 0, .freePages (.ld 64) 0 0 0 0, .lineSalvage (.ld 64) 0 0 0 0,
     .bindContent (.ld 64) 0 0 0 0 default, .unbindContent (.ld 64) 0 0 0, .debugUnlock (.ld 64) 0 default,
     .imageWrite (.ld 64) 0 0 0 0 0, .dirSet (.ld 64) 0 0, .getVersion (.ld 64), .getCapabilities (.ld 64),
     .negotiateAlgorithms (.ld 64) false, .getDigests (.ld 64), .getCertificate (.ld 64) 0, .challenge (.ld 64) 0 0,
     .getMeasurements (.ld 64) false 0, .keyExchange (.ld 64) false, .finish (.ld 64) false, .keyUpdate (.ld 64) none,
     .spdmHeartbeat (.ld 64), .endSession (.ld 64), .getLmsSignature (.ld 64)] = true := by decide

theorem test_wf_refuses_tables_and_indexes : refusedAll
    [.flipRequest 0 65536 0 0, .graceAdvance 65536, .replicaStale 0 65536 0 0, .putTable 65536 default,
     .dropTable 65536, .moveShard 65536 0 0 0 0, .refreshReplica 65536 0, .putIndex 65536 default 0, .dropIndex 65536 0] = true := by decide

theorem test_wf_refuses_tags : refusedAll
    [.atsCompletion 65536 default, .atsTimeout 65536, .loadRsp 0 65536 .ok 0 [], .storeAck 0 65536 .ok,
     .atomicRsp 0 65536 .ok [], .iflTimeout 65536, .tallyCredit 0 0 65536 0 0 0, .creditAck 0 65536,
     .forward 0 65536 default, .forwardAnswer 0 65536 .ok, .rbsRead 65536 0 0 false, .faultRead 65536 0 0 0,
     .allocPages .mgmt 65536 0 0 0 0 0 0, .freePages .mgmt 65536 0 0 0, .lineSalvage .mgmt 65536 0 0 0,
     .bindContent .mgmt 65536 0 0 0 default, .unbindContent .mgmt 65536 0 0, .debugUnlock .mgmt 65536 default,
     .imageWrite .mgmt 65536 0 0 0 0, .dirSet .mgmt 65536 0, .cxlMemRead 0 65536 0 0 default,
     .cxlMemWrite 0 65536 0 [] false default, .memHoldExpiry 0 65536, .cxlIoCompletion 65536 default,
     .cxlIoTimeout 65536] = true := by decide

theorem test_wf_refuses_tenants : refusedAll
    [.stripTenant .mgmt 4096, .tlbInv 0 4096, .draftLeaseExpiry 0 4096 0, .bindTenant 0 4096 0 false,
     .unbindTenant 0 4096, .setHdmMap 0 0 false 4096 0 0, .bindQueue 0 4096 0 0, .setQuota 4096 0 0 0,
     .setKvPool 0 false 4096 0 0, .skimContext 4096, .skimMemory 4096, .skimDone 4096,
     .allocPages .mgmt 0 4096 0 0 0 0 0, .freePages .mgmt 0 4096 0 0, .lineSalvage .mgmt 0 4096 0 0,
     .bindContent .mgmt 0 4096 0 0 default, .unbindContent .mgmt 0 4096 0, .backgroundErasure 4096 0] = true := by decide

theorem test_wf_refuses_versions : refusedAll
    [.versionNotice msg (2 ^ 64), .versionRsp msg .ok (2 ^ 64), .change 0 (2 ^ 64) default,
     .changeAnswer 0 (2 ^ 64) .ok, .catchUp 0 (2 ^ 64), .snapshot 0 (2 ^ 64) default, .seqQuery 0 (2 ^ 64),
     .seqReport 0 (2 ^ 64) []] = true := by decide

/-! ### One command at a time, with what the spec says of it -/

/-- The command answers a next state that meets a check. -/
def after (c : Instr) (s : State) (p : State → Bool) : Bool :=
  match Sys2Proof.Machine.exec c s with
  | .next t => p t
  | _ => false

theorem test_reset_sane : Sane State.reset := ⟨by decide, by decide, by decide⟩

/-- R98, R99: one is exponent 127 of BF16; 1 + 2⁻⁸ is held by FP16; E4M3 ends at 448. -/
theorem test_formats :
    encodeElem 1 .rne (decodeElem 0 0x3F800000) = (0x3F80, 0) ∧ encodeElem 2 .rne (decodeElem 0 0x3F808000) = (0x3C04, 0) ∧
    toFp32 (decodeElem 3 0x7E) = 0x43E00000 := by decide

/-- R406: a STORE of the page's tenant writes its byte. -/
theorem test_store : after (.store msg [7]) hub (fun t => t.store.mem == [(0, 7)]) = true := by decide

/-- A STORE of another tenant writes nothing. -/
theorem test_store_other_tenant : after (.store { msg with tenant := 6 } [7]) hub (fun t => t.store.mem == []) = true := by decide

/-- R376: with no entry READ_SHARED grants E to its sender. -/
theorem test_read_shared :
    after (.readShared { msg with offset := 2097152 }) hub
      (fun t => (Tbl.find t.order.directory 16384).map (fun e => (e.state, e.owner, e.sharers)) == some (.exclusive, 1, [])) =
      true := by decide

/-- A FENCE of its queue with nothing before it completes. -/
theorem test_fence_queue :
    after (.fenceQueue 3 0) (busy hub (work 0 (desc 2))) (fun t => (workOf t 3 0).map (·.phase) == some .done) = true := by decide

/-- A FENCE of the hub waits for the tenant's earlier descriptor. -/
theorem test_fence_hub_waits :
    after (.fenceHub 3 1) { hub with works := [work 0 (desc 1), { work 0 { desc 2 with param := 1 } with seq := 1, stamp := 2 }] }
      (fun t => (workOf t 3 1).map (·.phase) != some .done) = true := by decide

/-- A doorbell moves the tail. -/
theorem test_sq_tail : after (.sqTail 0 3 5) hub (fun t => (Tbl.find t.queues 3).map (·.sqTail) == some 5) = true := by decide

/-- CREDIT_ACK ends the transaction of its tag. -/
theorem test_credit_ack :
    after (.creditAck 1 9) (sent hub (.credit 3 0)) (fun t => t.fabric.outstanding == []) = true := by decide

/-- A CXL.mem write at the base of decoder 0 writes the first 64 bytes of its window. -/
theorem test_cxl_write :
    after (.cxlMemWrite 0 1 (2 ^ 32) (List.replicate 64 5) false .clean) hub
      (fun t => t.store.mem == (List.range 64).map (fun i => (i, 5))) = true := by decide

/-- SET_QUOTA sets the near ceiling of its tenant. -/
theorem test_set_quota : after (.setQuota 5 0 0 90) hub (fun t => (quotaOf t 5 .near).ceiling == 90) = true := by decide

/-- THERMTRIP latches its pin. -/
theorem test_thermtrip : after (.thermtrip 0) hub (fun t => t.pins.thermtrip) = true := by decide

/-! ### States that meet the hypotheses of the statements -/

/-- The hypotheses of StepRunsFrontCommand can be met. -/
theorem test_witness_StepRunsFrontCommand :
    ∃ (c : Instr) (rest : List Instr) (s : State), s.pending = c :: rest :=
  ⟨.bypass, [], { State.reset with pending := [.bypass] }, rfl⟩

/-- The hypotheses of SqTailTakenInWindow can be met. -/
theorem test_witness_SqTailTakenInWindow :
    ∃ (s : State) (ld : Nat) (queue : Nat) (tail : Seq48) (b : QueueBind), awake s ∧ bindOf s queue = some b ∧ boundTo s ld
    b.tenant ∧ s.pins.failing = false :=
  ⟨hub, 0, 3, 1, bind, by decide, by decide, by decide, by decide⟩

/-- The hypotheses of CqHeadTakenInWindow can be met. -/
theorem test_witness_CqHeadTakenInWindow :
    ∃ (s : State) (ld : Nat) (queue : Nat) (head : Seq48) (b : QueueBind), awake s ∧ bindOf s queue = some b ∧ boundTo s ld
    b.tenant ∧ s.pins.failing = false :=
  ⟨hub, 0, 3, 0, bind, by decide, by decide, by decide, by decide⟩

/-- The hypotheses of each clause of QueueRefusesAndResumes can be met. -/
theorem test_witness_QueueRefusesAndResumes :
    (∃ (s : State) (queue : Nat) (b : QueueBind), awake s ∧ bindOf s queue = some b ∧ (queueOf s queue).state = .running ∧
    (queueOf s queue).unbinding = false ∧ Seq48.before (queueOf s queue).accHead (queueOf s queue).sqTail ∧ (∀ d, readSlot s
    b (queueOf s queue).accHead = some d → d.seq ≠ (queueOf s queue).accHead)) ∧
    (∃ (s : State) (ld : Nat) (queue : Nat) (tail : Seq48) (b : QueueBind), awake s ∧ bindOf s queue = some b ∧ boundTo s ld
    b.tenant ∧ s.pins.failing = false) :=
  ⟨⟨{ hub with queues := [(3, { Queue.unbound with state := .running, accHead := 1, sqTail := 2 })] }, 3, bind, by decide,
     by decide, by decide, by decide, by decide, by intro d h; injection h with h; subst h; decide⟩,
    ⟨hub, 0, 3, 1, bind, by decide, by decide, by decide, by decide⟩⟩

/-- The hypotheses of AcceptanceAddsOneOpenEntry can be met. -/
theorem test_witness_AcceptanceAddsOneOpenEntry :
    ∃ (s : State) (queue : Nat) (b : QueueBind) (d : Descriptor), awake s ∧ bindOf s queue = some b ∧ (queueOf s queue).state
    = .running ∧ (queueOf s queue).unbinding = false ∧ Seq48.before (queueOf s queue).accHead (queueOf s queue).sqTail ∧
    Seq48.before (queueOf s queue).accHead ((queueOf s queue).cqHead + BitVec.ofNat 48 (64 * 2 ^ b.log2n)) ∧ acceptanceWaits
    s = false ∧ (journalOf s b.region).rebuilding = false ∧ (journalOf s b.region).replay = false ∧ hasCopy (journalOf s
    b.region) ∧ queuesStarted s b.region ∧ readSlot s b (queueOf s queue).accHead = some d ∧ d.seq = (queueOf s
    queue).accHead ∧ belowLimits s b.region ∧ railReady s :=
  ⟨hub, 3, bind, parseDesc (zeros 64), by decide, by decide, by decide, by decide, by decide, by decide, by decide,
   by decide, by decide, by decide, by decide, by decide, by decide, by decide, by decide⟩

/-- The hypotheses of each clause of NopIsDoneAndCompletionsGoInOrder can be met. -/
theorem test_witness_NopIsDoneAndCompletionsGoInOrder :
    (∃ (s : State) (queue : Nat) (seq : Seq48) (w : Work), awake s ∧ workOf s queue seq = some w ∧ w.desc.opcode = 0 ∧
    w.phase = .ready ∧ awaitsReplay s w = false) ∧
    (∃ (s : State) (queue : Nat) (b : QueueBind) (w : Work), awake s ∧ bindOf s queue = some b ∧ workOf s queue (queueOf s
    queue).cqTail = some w ∧ mayComplete s w ∧ (queueOf s queue).unbinding = false ∧ (queueOf s queue).state ≠ .stripping ∧
    s.embed.held = [] ∧ s.store.waits = [] ∧ w.follow = []) :=
  ⟨⟨busy hub (work 0 (desc 0)), 3, 0, work 0 (desc 0), by decide, by decide, by decide, by decide, by decide⟩,
    ⟨busy hub { work 0 (desc 0) with phase := .done }, 3, bind, { work 0 (desc 0) with phase := .done }, by decide,
     by decide, by decide, by decide, by decide, by decide, by decide, by decide, by decide⟩⟩

/-- The hypotheses of each clause of StripEndsDescriptorsOfItsTarget can be met. -/
theorem test_witness_StripEndsDescriptorsOfItsTarget :
    (∃ (s : State) (n : Nat) (queue : Nat) (b : QueueBind), awake s ∧ bindOf s queue = some b ∧ boundTo s n b.tenant ∧
    stripBusy s (.ld n) = false) ∧
    (∃ (s : State) (n : Nat) (tenant : Nat), awake s ∧ boundTo s n tenant ∧ stripBusy s (.ld n) = false) :=
  ⟨⟨hub, 0, 3, bind, by decide, by decide, by decide, by decide⟩,
    ⟨hub, 0, 5, by decide, by decide, by decide⟩⟩

/-- The hypotheses of each clause of StripOfClusterAndItsEnd can be met. -/
theorem test_witness_StripOfClusterAndItsEnd :
    (∃ (s : State) (who : Sender) (cluster : Nat), awake s ∧ hasAdmin s who ∧ cluster < 32 ∧ stripBusy s who = false) ∧
    (∃ (s : State) (who : Sender) (r : Strip), awake s ∧ Tbl.find s.strips (senderKey who) = some r ∧ r.busy = true ∧ (∀ w ∈
    s.works, w.strip = true → w.phase ≠ .applying ∧ r.targets ≠ [] ∧ w.queue ∉ r.targets)) :=
  ⟨⟨hub, .mgmt, 31, by decide, by decide, by decide, by decide⟩,
    ⟨{ hub with strips := [(0, { Strip.idle with busy := true, targets := [3] })] }, .ld 0,
     { Strip.idle with busy := true, targets := [3] }, by decide, by decide, by decide, by decide⟩⟩

/-- The hypotheses of SegmentGoesToLeastLoadedCluster can be met. -/
theorem test_witness_SegmentGoesToLeastLoadedCluster :
    ∃ (s : State) (queue : Nat) (seq : Seq48) (w : Work), awake s ∧ workOf s queue seq = some w ∧ w.desc.opcode = 1 ∧
    (w.phase = .ready ∨ w.phase = .waiting ∨ w.phase = .formed) ∧ w.placed < segmentCount w ∧ placing s ∧ placedBefore s w ∧
    awaitsReplay s w = false ∧ scanHeld s w = false ∧ (∃ d, d < 32 ∧ takesShape s w.shape d = true) :=
  ⟨{ hub with works := [work 0 (desc 1)] }, 3, 0, work 0 (desc 1), by decide, by decide, by decide, by decide, by decide,
   by decide, by decide, by decide, by decide, ⟨31, by decide, by decide⟩⟩

/-- The hypotheses of each clause of ClustersChangeShapeWhenIdle can be met. -/
theorem test_witness_ClustersChangeShapeWhenIdle :
    (∃ (s : State) (cluster : Nat) (g : Segment) (rest : List Segment), awake s ∧ (clusterOf s cluster).placed = g :: rest ∧
    (clusterOf s cluster).inFlight = [] ∧ clusterIn s cluster ∧ coreRuns s (3 + cluster)) ∧
    (∃ (s : State) (shape : Nat), awake s) :=
  ⟨⟨{ hub with units := { hub.units with clusters := { Cluster.idle with placed := [{ queue := 3, seq := 0, number := 0, shape := 2 }] } :: List.replicate 31 Cluster.idle } },
     0, { queue := 3, seq := 0, number := 0, shape := 2 }, [], by decide, by decide, by decide, by decide, by decide⟩,
    ⟨hub, 15, by decide⟩⟩

/-- The hypotheses of each clause of RandomSourcesAndClovesCount can be met. -/
theorem test_witness_RandomSourcesAndClovesCount :
    (∃ (s : State) (cluster : Nat) (lane : Nat), awake s ∧ s.faults.rings.length = 4) ∧
    (∃ (s : State) (cluster : Nat), awake s ∧ 2 ^ 20 ≤ Tbl.at s.embed.counts cluster 0) ∧
    (∃ (s : State) (who : Sender), awake s) :=
  ⟨⟨hub, 31, 511, by decide, by decide⟩,
    ⟨{ hub with embed := { hub.embed with counts := [(31, 1048576)] } }, 31, by decide, by decide⟩,
    ⟨hub, .ld 1, by decide⟩⟩

/-- The hypotheses of RwlFieldsTakeWritesUntilLocked can be met. -/
theorem test_witness_RwlFieldsTakeWritesUntilLocked :
    ∃ (s : State) (who : Sender) (r : CtrlReg) (data : List Byte), awake s ∧ data.length = 8 :=
  ⟨hub, .mgmt, .pool, zeros 8, by decide, by decide⟩

/-- The hypotheses of each clause of SelectionRegistersAreTheSenders can be met. -/
theorem test_witness_SelectionRegistersAreTheSenders :
    (∃ (s : State) (who : Sender) (data : List Byte), awake s ∧ data.length = 8) ∧
    (∃ (s : State) (who : Sender) (off : Nat) (data : List Byte), awake s ∧ (off % 8 ≠ 0 ∨ data.length % 8 ≠ 0)) :=
  ⟨⟨hub, .ld 63, zeros 8, by decide, by decide⟩,
    ⟨hub, .mgmt, 4, zeros 4, by decide, by decide⟩⟩

/-- The hypotheses of FaultSummaryClearsByAdminOnly can be met. -/
theorem test_witness_FaultSummaryClearsByAdminOnly :
    ∃ (s : State) (who : Sender) (value : Word), awake s :=
  ⟨hub, .ld 1, 768, by decide⟩

/-- The hypotheses of each clause of InvalidationsDropTranslations can be met. -/
theorem test_witness_InvalidationsDropTranslations :
    (∃ (s : State) (ld : Nat) (tenant : Nat), awake s ∧ boundTo s ld tenant ∧ (Tbl.at s.invs ld Invalidation.idle).busy =
    false) ∧
    (∃ (s : State) (ld : Nat) (tenant : Nat), awake s ∧ (boundTo s ld tenant = false ∨ (Tbl.at s.invs ld
    Invalidation.idle).busy = true)) ∧
    (∃ (s : State) (ld : Nat), awake s ∧ (Tbl.at s.invs ld Invalidation.idle).busy = true ∧ translatedOpen s (Tbl.at s.invs
    ld Invalidation.idle).tenant = false) ∧
    (∃ (s : State) (ld : Nat) (pasid : Nat) (addr : Nat) (size : Nat), awake s) ∧
    (∃ (s : State) (ld : Nat), awake s ∧ (Tbl.at s.invs ld Invalidation.idle).atsDue = true ∧ (∀ b ∈ s.comp.live.tenantBinds,
    b.ld = ld → translatedOpen s b.tenant = false)) :=
  ⟨⟨hub, 0, 5, by decide, by decide, by decide⟩,
    ⟨hub, 0, 6, by decide, by decide⟩,
    ⟨{ hub with invs := [(0, { Invalidation.idle with busy := true, tenant := 5 })] }, 0, by decide, by decide, by decide⟩,
    ⟨hub, 0, 1, 0, 4096, by decide⟩,
    ⟨{ hub with invs := [(0, { Invalidation.idle with atsDue := true })] }, 0, by decide, by decide, by decide⟩⟩

/-- The hypotheses of each clause of AtsAnswersInstallOrFault can be met. -/
theorem test_witness_AtsAnswersInstallOrFault :
    (∃ (s : State) (tag : Nat) (q : Nat) (c : Nat) (hpa : Nat) (k : Nat) (n : Seq48) (o : Outstanding) (write : Bool), awake
    s ∧ txOf s tag = some o ∧ o.await = .ats q n c ∧ o.stale = false) ∧
    (∃ (s : State) (tag : Nat) (q : Nat) (c : Nat) (n : Seq48) (o : Outstanding) (reply : AtsReply), awake s ∧ txOf s tag =
    some o ∧ o.await = .ats q n c ∧ o.stale = true) ∧
    (∃ (s : State) (tag : Nat) (q : Nat) (c : Nat) (n : Seq48) (o : Outstanding), awake s ∧ txOf s tag = some o ∧ o.await =
    .ats q n c ∧ o.stale = false) ∧
    (∃ (s : State) (tag : Nat) (q : Nat) (c : Nat) (n : Seq48) (o : Outstanding), awake s ∧ txOf s tag = some o ∧ o.await =
    .ats q n c ∧ s.faults.rings.length = 4) :=
  ⟨⟨sent hub (.ats 3 0 2), 9, 3, 2, 4096, 18, 0,
     { tag := 9, node := 1, await := .ats 3 0 2, tenant := 5, addr := 0, len := 4, stale := false }, true, by decide,
     by decide, by decide, by decide⟩,
    ⟨{ hub with fabric := { hub.fabric with outstanding := [{ tag := 9, node := 1, await := .ats 3 0 2, tenant := 5, addr := 0, len := 4, stale := true }] } },
     9, 3, 2, 0, { tag := 9, node := 1, await := .ats 3 0 2, tenant := 5, addr := 0, len := 4, stale := true }, .noAccess,
     by decide, by decide, by decide, by decide⟩,
    ⟨sent hub (.ats 3 0 2), 9, 3, 2, 0,
     { tag := 9, node := 1, await := .ats 3 0 2, tenant := 5, addr := 0, len := 4, stale := false }, by decide, by decide,
     by decide, by decide⟩,
    ⟨sent hub (.ats 3 0 2), 9, 3, 2, 0,
     { tag := 9, node := 1, await := .ats 3 0 2, tenant := 5, addr := 0, len := 4, stale := false }, by decide, by decide,
     by decide, by decide⟩⟩

/-- The hypotheses of each clause of ReplayRebuildAndPendingVectors can be met. -/
theorem test_witness_ReplayRebuildAndPendingVectors :
    (∃ (s : State) (k : Nat), awake s ∧ s.journals.length = 4 ∧ k < 4 ∧ (journalOf s k).replay = true ∧ hasCopy (journalOf s
    k)) ∧
    (∃ (s : State) (k : Nat) (u : Nat), awake s ∧ s.journals.length = 4 ∧ k < 4 ∧ (journalOf s k).rebuilding = true ∧
    (journalOf s k).primary = none ∧ (journalOf s k).mirror.isSome ∧ homeWithRoom s (journalOf s k) = some u) ∧
    (∃ (s : State) (ld : Nat) (vector : Nat), awake s ∧ ldUp s ld ∧ msiPending s ld vector ∧ orphaned s ld vector = false) :=
  ⟨⟨{ hub with journals := [{ Journal.home 0 with replay := true }, Journal.home 1, Journal.home 2, Journal.home 3] }, 0,
     by decide, by decide, by decide, by decide, by decide⟩,
    ⟨{ hub with journals := [{ Journal.home 0 with primary := none, rebuilding := true }, Journal.home 1, Journal.home 2, Journal.home 3] },
     0, 0, by decide, by decide, by decide, by decide, by decide, by decide, by decide⟩,
    ⟨hub, 0, 4, by decide, by decide, by decide, by decide⟩⟩

/-- The hypotheses of each clause of RowCommandsRunTheirPlans can be met. -/
theorem test_witness_RowCommandsRunTheirPlans :
    (∃ (s : State) (queue : Nat) (seq : Seq48) (w : Work), awake s ∧ workOf s queue seq = some w ∧ mayRun s w 0 ∧ Runnable s
    w (gatherPlan s w)) ∧
    (∃ (s : State) (queue : Nat) (seq : Seq48) (w : Work), awake s ∧ workOf s queue seq = some w ∧ mayRun s w 1 ∧ Runnable s
    w (poolPlan s w)) ∧
    (∃ (s : State) (queue : Nat) (seq : Seq48) (w : Work), awake s ∧ workOf s queue seq = some w ∧ mayRun s w 3 ∧ Runnable s
    w (copyPlan s w)) ∧
    (∃ (s : State) (queue : Nat) (seq : Seq48) (w : Work), awake s ∧ workOf s queue seq = some w ∧ mayRun s w 6 ∧ Runnable s
    w (topkPlan s w)) ∧
    (∃ (s : State) (queue : Nat) (seq : Seq48) (w : Work), awake s ∧ workOf s queue seq = some w ∧ mayRun s w 10 ∧ Runnable s
    w (pageOutPlan s w)) ∧
    (∃ (s : State) (queue : Nat) (seq : Seq48) (w : Work), awake s ∧ workOf s queue seq = some w ∧ mayRun s w 11 ∧ Runnable s
    w (pageInPlan s w) ∧ (bit w.desc.arg0 0 = false ∨ (w.status ≠ .permission ∧ (pageInPlan s w).status ≠ .permission ∧
    (Resolved s w (pageInPlan s w)).status ≠ .permission))) ∧
    (∃ (s : State) (queue : Nat) (seq : Seq48) (w : Work), awake s ∧ workOf s queue seq = some w ∧ mayRun s w 13 ∧ Runnable s
    w (fillPlan s w)) ∧
    (∃ (s : State) (queue : Nat) (seq : Seq48) (w : Work), awake s ∧ workOf s queue seq = some w ∧ mayRun s w 4 ∧ scanMode
    w.desc = 0 ∧ scanHeld s w = false ∧ Runnable s w (scanPlan s w)) ∧
    (∃ (s : State) (queue : Nat) (seq : Seq48) (w : Work), awake s ∧ workOf s queue seq = some w ∧ mayRun s w 5 ∧ scanMode
    w.desc = 0 ∧ scanHeld s w = false ∧ Runnable s w (scanPlan s w)) ∧
    (∃ (s : State) (queue : Nat) (seq : Seq48) (w : Work), awake s ∧ workOf s queue seq = some w ∧ mayRun s w w.shape ∧
    (w.shape = 4 ∨ w.shape = 5) ∧ scanMode w.desc = 1 ∧ Runnable s w (appendPlan s w)) ∧
    (∃ (s : State) (queue : Nat) (seq : Seq48) (w : Work), awake s ∧ workOf s queue seq = some w ∧ mayRun s w w.shape ∧
    (w.shape = 4 ∨ w.shape = 5) ∧ scanMode w.desc = 2 ∧ Runnable s w (deletePlan s w)) :=
  ⟨⟨busy hub (work 0 ({ desc 1 with param := 7, ptr1 := 1048576 })), 3, 0,
     work 0 ({ desc 1 with param := 7, ptr1 := 1048576 }), by decide, by decide, by decide, ⟨by decide, by decide⟩⟩,
    ⟨busy hub (work 1 ({ desc 1 with param := 7, ptr3 := 1048576 })), 3, 0,
     work 1 ({ desc 1 with param := 7, ptr3 := 1048576 }), by decide, by decide, by decide, ⟨by decide, by decide⟩⟩,
    ⟨busy hub (work 3 ({ desc 1 with param := 4, ptr1 := 1048576 })), 3, 0,
     work 3 ({ desc 1 with param := 4, ptr1 := 1048576 }), by decide, by decide, by decide, ⟨by decide, by decide⟩⟩,
    ⟨busy hub (work 6 ({ desc 1 with ptr1 := 1048576 })), 3, 0, work 6 ({ desc 1 with ptr1 := 1048576 }), by decide,
     by decide, by decide, ⟨by decide, by decide⟩⟩,
    ⟨busy hub (work 10 ({ desc 1 with count := 0 })), 3, 0, work 10 ({ desc 1 with count := 0 }), by decide, by decide,
     by decide, ⟨by decide, by decide⟩⟩,
    ⟨busy hub (work 11 ({ desc 1 with count := 0 })), 3, 0, work 11 ({ desc 1 with count := 0 }), by decide, by decide,
     by decide, ⟨by decide, by decide⟩, by decide⟩,
    ⟨busy hub (work 13 ({ desc 1 with ptr0 := 1048576 })), 3, 0, work 13 ({ desc 1 with ptr0 := 1048576 }), by decide,
     by decide, by decide, ⟨by decide, by decide⟩⟩,
    ⟨busy hub (work 4 ({ desc 1 with param := 8 })), 3, 0, work 4 ({ desc 1 with param := 8 }), by decide, by decide,
     by decide, by decide, by decide, ⟨by decide, by decide⟩⟩,
    ⟨busy hub (work 5 ({ desc 1 with param := 8, arg1 := 4 })), 3, 0, work 5 ({ desc 1 with param := 8, arg1 := 4 }),
     by decide, by decide, by decide, by decide, by decide, ⟨by decide, by decide⟩⟩,
    ⟨busy hub (work 5 ({ desc 1 with param := 8, arg0 := 1, arg1 := 5 })), 3, 0,
     work 5 ({ desc 1 with param := 8, arg0 := 1, arg1 := 5 }), by decide, by decide, by decide, by decide, by decide,
     ⟨by decide, by decide⟩⟩,
    ⟨busy hub (work 5 ({ desc 1 with param := 8, arg0 := 2, arg1 := 5 })), 3, 0,
     work 5 ({ desc 1 with param := 8, arg0 := 2, arg1 := 5 }), by decide, by decide, by decide, by decide, by decide,
     ⟨by decide, by decide⟩⟩⟩

/-- The hypotheses of FillWritesItsPattern can be met. -/
theorem test_witness_FillWritesItsPattern :
    ∃ (s : State) (queue : Nat) (seq : Seq48) (w : Work), awake s ∧ workOf s queue seq = some w ∧ mayRun s w 13 ∧ w.status =
    .ok ∧ 0 < w.desc.count ∧ bit w.desc.flags 0 = false ∧ w.desc.ptr0 < 2 ^ 60 ∧ saNode w.desc.ptr0 = hubNode s ∧ Memory.wf
    s.store.mem ∧ localWriteStatus s w.tenant (hubNode s) (saOff w.desc.ptr0) w.desc.count = .ok ∧ touchesPublished s (saOff
    w.desc.ptr0) w.desc.count = false ∧ linesToWrite s (saOff w.desc.ptr0) w.desc.count = [] ∧ deepPages s (saOff
    w.desc.ptr0) w.desc.count = [] ∧ unanswered s queue seq = false ∧ w.acks = [] :=
  ⟨busy hub (work 13 ({ desc 1 with count := 8, ptr0 := 1048576 })), 3, 0,
   work 13 ({ desc 1 with count := 8, ptr0 := 1048576 }), by decide, by decide, by decide, by decide, by decide, by decide,
   by decide, by decide, by decide, by decide, by decide, by decide, by decide, by decide, by decide⟩

/-- The hypotheses of SealRaisesSealedAndCompletes can be met. -/
theorem test_witness_SealRaisesSealedAndCompletes :
    ∃ (s : State) (queue : Nat) (seq : Seq48) (w : Work) (x : IndexDesc), awake s ∧ workOf s queue seq = some w ∧ mayRun s w
    w.shape ∧ w.status = .ok ∧ (w.shape = 4 ∨ w.shape = 5) ∧ scanMode w.desc = 3 ∧ indexOf s w.desc.param = some x ∧
    indexStatus s w = .ok ∧ bits w.desc.arg1 0 32 ≠ 0xFFFFFFFF ∧ bits w.desc.arg1 0 32 ≤ sealedNow x (openEpochs s
    w.desc.param) :=
  ⟨busy hub (work 5 { desc 1 with param := 8, arg0 := 3, arg1 := 6 }), 3, 0,
   work 5 { desc 1 with param := 8, arg0 := 3, arg1 := 6 }, index, by decide, by decide, by decide, by decide, by decide,
   by decide, by decide, by decide, by decide, by decide⟩

/-- The hypotheses of each clause of LayersAreStagedAndSentInOrder can be met. -/
theorem test_witness_LayersAreStagedAndSentInOrder :
    (∃ (s : State) (queue : Nat) (seq : Seq48) (w : Work) (layers : List Layer), awake s ∧ workOf s queue seq = some w ∧
    mayRun s w 7 ∧ layerBad w = false ∧ w.status = .ok ∧ (readPtr s w 0 0 (16 * w.desc.count)).needs = [] ∧ (readPtr s w 0 0
    (16 * w.desc.count)).status = .ok ∧ layers = layerTable w.desc (readPtr s w 0 0 (16 * w.desc.count)).data ∧ w.desc.count
    ≤ w.layer) ∧
    (∃ (s : State) (queue : Nat) (seq : Seq48) (w : Work) (layers : List Layer), awake s ∧ workOf s queue seq = some w ∧
    mayRun s w 7 ∧ layerBad w = false ∧ w.status = .ok ∧ (readPtr s w 0 0 (16 * w.desc.count)).needs = [] ∧ (readPtr s w 0 0
    (16 * w.desc.count)).status = .ok ∧ layers = layerTable w.desc (readPtr s w 0 0 (16 * w.desc.count)).data ∧ w.layer <
    w.desc.count ∧ boundBad s w layers = false ∧ ∃ j, nextToStage s w layers = some j ∧ Goes s w (stagePlan s w layers j)) ∧
    (∃ (s : State) (queue : Nat) (seq : Seq48) (w : Work) (layers : List Layer), awake s ∧ workOf s queue seq = some w ∧
    mayRun s w 7 ∧ layerBad w = false ∧ w.status = .ok ∧ (readPtr s w 0 0 (16 * w.desc.count)).needs = [] ∧ (readPtr s w 0 0
    (16 * w.desc.count)).status = .ok ∧ layers = layerTable w.desc (readPtr s w 0 0 (16 * w.desc.count)).data ∧ w.layer <
    w.desc.count ∧ boundBad s w layers = false ∧ nextToStage s w layers = none ∧ (w.layer < layerSlots w.desc ∨ ((readPtr s w
    3 0 8).needs = [] ∧ (readPtr s w 3 0 8).status = .ok ∧ w.layer + 1 ≤ fieldAt (readPtr s w 3 0 8).data 0 8 + layerSlots
    w.desc)) ∧ Goes s w (sendPlan s w layers)) :=
  ⟨⟨busy hub { work 7 ({ desc 1 with param := 4, arg0 := 32, ptr1 := 1048576, ptr2 := 1572864 }) with layer := 1 }, 3, 0,
     { work 7 ({ desc 1 with param := 4, arg0 := 32, ptr1 := 1048576, ptr2 := 1572864 }) with layer := 1 }, [(0, 0)],
     by decide, by decide, by decide, by decide, by decide, by decide, by decide, by decide, by decide⟩,
    ⟨busy far (work 7 ({ desc 1 with param := 4, arg0 := 32, ptr0 := 65536, ptr1 := 1048576, ptr2 := 1572864 })), 3, 0,
     work 7 ({ desc 1 with param := 4, arg0 := 32, ptr0 := 65536, ptr1 := 1048576, ptr2 := 1572864 }), [(4 * 2097152, 1)],
     by decide, by decide, by decide, by decide, by decide, by decide, by decide, by decide, by decide, by decide, 0,
     by decide, ⟨⟨by decide, by decide⟩, .inl (by decide)⟩⟩,
    ⟨busy hub (work 7 ({ desc 1 with param := 4, arg0 := 32, ptr1 := 1048576, ptr2 := 1572864 })), 3, 0,
     work 7 ({ desc 1 with param := 4, arg0 := 32, ptr1 := 1048576, ptr2 := 1572864 }), [(0, 0)], by decide, by decide,
     by decide, by decide, by decide, by decide, by decide, by decide, by decide, by decide, by decide, by decide,
     ⟨⟨by decide, by decide⟩, .inl (by decide)⟩⟩⟩

/-- The hypotheses of each clause of KvPushStoresLayersInOrder can be met. -/
theorem test_witness_KvPushStoresLayersInOrder :
    (∃ (s : State) (queue : Nat) (seq : Seq48) (w : Work) (k : KeyEntry), awake s ∧ workOf s queue seq = some w ∧ mayRun s w
    8 ∧ pushBad w.desc = false ∧ pushRefused s w = false ∧ w.staged ≠ [] ∧ keyOf s (pushPool w.desc) w.desc.arg0 = some k ∧
    (w.desc.count ≤ w.layer ∨ w.status ≠ .ok)) ∧
    (∃ (s : State) (queue : Nat) (seq : Seq48) (w : Work) (k : KeyEntry), awake s ∧ workOf s queue seq = some w ∧ mayRun s w
    8 ∧ pushBad w.desc = false ∧ pushRefused s w = false ∧ w.staged ≠ [] ∧ keyOf s (pushPool w.desc) w.desc.arg0 = some k ∧ ∃
    (c : Got) (g : Got) (p : Plan), w.layer < w.desc.count ∧ w.status = .ok ∧ c = readPtr s w 1 0 8 ∧ c.needs = [] ∧ c.status
    = .ok ∧ w.layer + 1 ≤ fieldAt c.data 0 8 ∧ g = readPtr s w 0 (w.layer * (k.pages * 65536)) (k.pages * 65536) ∧ g.needs =
    [] ∧ g.status = .ok ∧ p =
    { count := w.layer, result := pushResult s k, writes := layerWrites (hubNode s) k w.layer g.data false } ∧ Goes s w p) :=
  ⟨⟨{ busy hub { work 8 ({ desc 1 with param := 2, arg0 := 77, arg1 := 1, ptr1 := 1048576 }) with staged := [0], layer := 1 } with comp := { (busy hub { work 8 ({ desc 1 with param := 2, arg0 := 77, arg1 := 1, ptr1 := 1048576 }) with staged := [0], layer := 1 }).comp with keys := [{ key := 77, pool := 2, state := .opened, tenant := 5, pages := 1, layers := 1, stored := 0, missing := 1, pageList := [10], lostLayer := 0, release := false }] } },
     3, 0, { work 8 ({ desc 1 with param := 2, arg0 := 77, arg1 := 1, ptr1 := 1048576 }) with staged := [0], layer := 1 },
     { key := 77, pool := 2, state := .opened, tenant := 5, pages := 1, layers := 1, stored := 0, missing := 1, pageList := [10], lostLayer := 0, release := false },
     by decide, by decide, by decide, by decide, by decide, by decide, by decide, by decide⟩,
    ⟨{ busy counted { work 8 ({ desc 1 with param := 2, arg0 := 77, arg1 := 1, ptr1 := 1048576 }) with staged := [0] } with comp := { (busy counted { work 8 ({ desc 1 with param := 2, arg0 := 77, arg1 := 1, ptr1 := 1048576 }) with staged := [0] }).comp with keys := [{ key := 77, pool := 2, state := .opened, tenant := 5, pages := 0, layers := 1, stored := 0, missing := 1, pageList := [10], lostLayer := 0, release := false }] } },
     3, 0, { work 8 ({ desc 1 with param := 2, arg0 := 77, arg1 := 1, ptr1 := 1048576 }) with staged := [0] },
     { key := 77, pool := 2, state := .opened, tenant := 5, pages := 0, layers := 1, stored := 0, missing := 1, pageList := [10], lostLayer := 0, release := false },
     by decide, by decide, by decide, by decide, by decide, by decide, by decide,
     readPtr ({ busy counted { work 8 ({ desc 1 with param := 2, arg0 := 77, arg1 := 1, ptr1 := 1048576 }) with staged := [0] } with comp := { (busy counted { work 8 ({ desc 1 with param := 2, arg0 := 77, arg1 := 1, ptr1 := 1048576 }) with staged := [0] }).comp with keys := [{ key := 77, pool := 2, state := .opened, tenant := 5, pages := 0, layers := 1, stored := 0, missing := 1, pageList := [10], lostLayer := 0, release := false }] } }) { work 8 ({ desc 1 with param := 2, arg0 := 77, arg1 := 1, ptr1 := 1048576 }) with staged := [0] } 1 0 8,
     readPtr ({ busy counted { work 8 ({ desc 1 with param := 2, arg0 := 77, arg1 := 1, ptr1 := 1048576 }) with staged := [0] } with comp := { (busy counted { work 8 ({ desc 1 with param := 2, arg0 := 77, arg1 := 1, ptr1 := 1048576 }) with staged := [0] }).comp with keys := [{ key := 77, pool := 2, state := .opened, tenant := 5, pages := 0, layers := 1, stored := 0, missing := 1, pageList := [10], lostLayer := 0, release := false }] } }) { work 8 ({ desc 1 with param := 2, arg0 := 77, arg1 := 1, ptr1 := 1048576 }) with staged := [0] } 0 0 0,
     { count := 0, result := pushResult ({ busy counted { work 8 ({ desc 1 with param := 2, arg0 := 77, arg1 := 1, ptr1 := 1048576 }) with staged := [0] } with comp := { (busy counted { work 8 ({ desc 1 with param := 2, arg0 := 77, arg1 := 1, ptr1 := 1048576 }) with staged := [0] }).comp with keys := [{ key := 77, pool := 2, state := .opened, tenant := 5, pages := 0, layers := 1, stored := 0, missing := 1, pageList := [10], lostLayer := 0, release := false }] } }) ({ key := 77, pool := 2, state := .opened, tenant := 5, pages := 0, layers := 1, stored := 0, missing := 1, pageList := [10], lostLayer := 0, release := false }), writes := layerWrites 0 ({ key := 77, pool := 2, state := .opened, tenant := 5, pages := 0, layers := 1, stored := 0, missing := 1, pageList := [10], lostLayer := 0, release := false }) 0 [] false },
     by decide, by decide, rfl, by decide, by decide, by decide, rfl, by decide, by decide, rfl,
     ⟨⟨by decide, by decide⟩, .inl (by decide)⟩⟩⟩

/-- The hypotheses of each clause of KvFetchDeliversLayersInOrder can be met. -/
theorem test_witness_KvFetchDeliversLayersInOrder :
    (∃ (s : State) (queue : Nat) (seq : Seq48) (w : Work) (gen : Nat) (shown : Option KeyEntry), awake s ∧ workOf s queue seq
    = some w ∧ mayRun s w 9 ∧ 1 ≤ w.desc.count ∧ w.desc.count ≤ 1024 ∧ fetchRefused s w = false ∧ w.status = .ok ∧
    w.desc.count ≤ w.layer) ∧
    (∃ (s : State) (queue : Nat) (seq : Seq48) (w : Work) (gen : Nat) (shown : Option KeyEntry), awake s ∧ workOf s queue seq
    = some w ∧ mayRun s w 9 ∧ 1 ≤ w.desc.count ∧ w.desc.count ≤ 1024 ∧ fetchRefused s w = false ∧ w.status = .ok ∧ ∃ (g :
    Nat) (held : Option KeyEntry) (k : KeyEntry) (b : Got) (p : Plan), w.layer < w.desc.count ∧ unanswered s queue seq =
    false ∧ (g, held) = (if fetchHolder w.desc = hubNode s then (s.comp.bootGen, keyOf s (bits w.desc.param 0 8) w.desc.arg0)
    else (gen, shown)) ∧ layerFate s w g held (fetchFirst w.desc + w.layer) = .deliver ∧ held = some k ∧ b = layerBytes s w k
    (fetchFirst w.desc + w.layer) ∧ b.needs = [] ∧ b.status = .ok ∧ p =
    { count := w.layer, writes := [rowWrite w.desc 0 (w.desc.ptr0 + w.layer * (k.pages * 65536)) b.data false] } ∧ Goes s w
    p) :=
  ⟨⟨busy hub { work 9 ({ desc 1 with param := 2, arg0 := 77, ptr1 := 1 }) with layer := 1 }, 3, 0,
     { work 9 ({ desc 1 with param := 2, arg0 := 77, ptr1 := 1 }) with layer := 1 }, 1, none, by decide, by decide,
     by decide, by decide, by decide, by decide, by decide, by decide⟩,
    ⟨{ busy hub (work 9 ({ desc 1 with param := 2, arg0 := 77, ptr1 := 1 })) with comp := { (busy hub (work 9 ({ desc 1 with param := 2, arg0 := 77, ptr1 := 1 }))).comp with keys := [{ key := 77, pool := 2, state := .ready, tenant := 5, pages := 0, layers := 1, stored := 1, missing := 1, pageList := [10], lostLayer := 0, release := false }] } },
     3, 0, work 9 ({ desc 1 with param := 2, arg0 := 77, ptr1 := 1 }), 1, none, by decide, by decide, by decide, by decide,
     by decide, by decide, by decide, 1,
     some ({ key := 77, pool := 2, state := .ready, tenant := 5, pages := 0, layers := 1, stored := 1, missing := 1, pageList := [10], lostLayer := 0, release := false }),
     { key := 77, pool := 2, state := .ready, tenant := 5, pages := 0, layers := 1, stored := 1, missing := 1, pageList := [10], lostLayer := 0, release := false },
     layerBytes ({ busy hub (work 9 ({ desc 1 with param := 2, arg0 := 77, ptr1 := 1 })) with comp := { (busy hub (work 9 ({ desc 1 with param := 2, arg0 := 77, ptr1 := 1 }))).comp with keys := [{ key := 77, pool := 2, state := .ready, tenant := 5, pages := 0, layers := 1, stored := 1, missing := 1, pageList := [10], lostLayer := 0, release := false }] } }) (work 9 ({ desc 1 with param := 2, arg0 := 77, ptr1 := 1 })) ({ key := 77, pool := 2, state := .ready, tenant := 5, pages := 0, layers := 1, stored := 1, missing := 1, pageList := [10], lostLayer := 0, release := false }) 0,
     { count := 0, writes := [rowWrite ({ desc 1 with param := 2, arg0 := 77, ptr1 := 1 }) 0 0 [] false] }, by decide,
     by decide, by decide, rfl, by decide, rfl, by decide, by decide, rfl, ⟨⟨by decide, by decide⟩, .inl (by decide)⟩⟩⟩

/-- The hypotheses of ScatterAddFormsItsRedoRecord can be met. -/
theorem test_witness_ScatterAddFormsItsRedoRecord :
    ∃ (s : State) (queue : Nat) (seq : Seq48) (w : Work) (t : TableDesc) (sums : List Summed) (here : List Summed), awake s ∧
    workOf s queue seq = some w ∧ mayRun s w 2 ∧ tableOf s w.desc.param = some t ∧ scatterRead s w t = .ok sums ∧ here =
    sums.filter (fun u => saNode (ownerRowSa t u.index) == hubNode s) ∧ (∀ u ∈ here, permits s w.tenant (saOff (ownerRowSa t
    u.index)) (rowSize t) true = true ∧ deepPages s (saOff (ownerRowSa t u.index)) (rowSize t) = [] ∧ linesToWrite s (saOff
    (ownerRowSa t u.index)) (rowSize t) = [] ∧ (readSa s w (ownerRowSa t u.index) (rowSize t)).needs = []) ∧ (∀ o ∈ w.owners,
    o.2 = 1) ∧ (∀ u ∈ sums, saNode (ownerRowSa t u.index) ≠ hubNode s → reachable s (saNode (ownerRowSa t u.index)) = true ∧
    (saNode (ownerRowSa t u.index), 1) ∈ w.owners) ∧ prepOpen s w = false ∧ guardBlocked s w.stamp (dedup (here.flatMap (fun
    u => rowLines t (saOff (ownerRowSa t u.index))))) = false ∧ RedoRoom s w.region :=
  ⟨busy hub (work 2 ({ desc 1 with param := 7, ptr1 := 1048576 })), 3, 0,
   work 2 ({ desc 1 with param := 7, ptr1 := 1048576 }), table,
   summed (busy hub (work 2 ({ desc 1 with param := 7, ptr1 := 1048576 }))) (work 2 ({ desc 1 with param := 7, ptr1 := 1048576 })),
   summed (busy hub (work 2 ({ desc 1 with param := 7, ptr1 := 1048576 }))) (work 2 ({ desc 1 with param := 7, ptr1 := 1048576 })),
   by decide, by decide, by decide, by decide, rfl, rfl, by decide, by decide, by decide, by decide, by decide,
   ⟨by decide, by decide⟩⟩

/-- The hypotheses of AtomicBatchFormsItsRedoRecord can be met. -/
theorem test_witness_AtomicBatchFormsItsRedoRecord :
    ∃ (s : State) (queue : Nat) (seq : Seq48) (w : Work) (es : List (Nat × AtomicEntry)) (near : List (Nat × AtomicEntry))
    (far : List (Nat × AtomicEntry)), awake s ∧ workOf s queue seq = some w ∧ mayRun s w 12 ∧ 1 ≤ w.desc.count ∧ w.desc.count
    ≤ 1048576 ∧ bits w.desc.param 0 2 ≠ 3 ∧ (readPtr s w 0 0 (32 * w.desc.count)).needs = [] ∧ (readPtr s w 0 0 (32 *
    w.desc.count)).status = .ok ∧ es = (List.range (chunks 32 w.desc.count (readPtr s w 0 0 (32 *
    w.desc.count)).data).length).zip ((chunks 32 w.desc.count (readPtr s w 0 0 (32 * w.desc.count)).data).map parseAtomic) ∧
    (∀ e ∈ es, badAtomic e.2 = false) ∧ far = es.filter (fun e => bits w.desc.param 0 2 == 2 && saNode e.2.target != hubNode
    s) ∧ near = es.filter (fun e => !(bits w.desc.param 0 2 == 2 && saNode e.2.target != hubNode s)) ∧ (∀ e ∈ es, saNode
    e.2.target = hubNode s → saWellFormed e.2.target = true ∧ permits s w.tenant (saOff e.2.target) (atomicWidth e.2) true =
    true ∧ deepPages s (saOff e.2.target) 8 = [] ∧ linesToWrite s (saOff e.2.target) (atomicWidth e.2) = []) ∧ (∀ e ∈ es,
    saNode e.2.target ≠ hubNode s → hubOnly s = false ∧ reachable s (saNode e.2.target) = true ∧ ((domainHubs s).contains
    (saNode e.2.target) = true → (saNode e.2.target, 1) ∈ w.owners)) ∧ (∀ o ∈ w.owners, o.2 = 1) ∧ checkOpen s w = false ∧ (∀
    guards, (∀ g ∈ guards, ∃ e ∈ es, g = saOff e.2.target / 128 ∨ g = farGuard (saNode e.2.target) (saOff e.2.target / 128))
    → guardBlocked s w.stamp guards = false) ∧ (∀ e ∈ near, (readSa s w e.2.target (atomicWidth e.2)).needs = [] ∧ ((readSa s
    w e.2.target (atomicWidth e.2)).status = .ok ∨ (readSa s w e.2.target (atomicWidth e.2)).status = .poison)) ∧ (∀ e ∈ es,
    ∀ v, (resolve s w false (oldWrite w.desc e.1 v)).needs = [] ∧ (resolve s w false (oldWrite w.desc e.1 v)).status = .ok) ∧
    RedoRoom s w.region :=
  ⟨busy hub olds, 3, 0, olds, [(0, parseAtomic (zeros 32))], [(0, parseAtomic (zeros 32))], [], by decide, by decide,
   by decide, by decide, by decide, by decide, by decide, by decide, by decide, by decide, by decide, by decide, by decide,
   by decide, by decide, by decide, by intro g _; rfl, by decide,
   by intro e he v; obtain rfl : e = (0, parseAtomic (zeros 32)) := (by simpa using he); exact olds_ready v,
   ⟨by decide, by decide⟩⟩

/-- The hypotheses of RedoApplyWritesTheRecord can be met. -/
theorem test_witness_RedoApplyWritesTheRecord :
    ∃ (s : State) (queue : Nat) (seq : Seq48) (w : Work), awake s ∧ workOf s queue seq = some w ∧ w.phase = .redoReady ∧
    awaitsReplay s w = false ∧ s.pins.failing = false ∧ w.restored = false ∧ s.embed.held = [] :=
  ⟨busy hub { work 2 (desc 1) with phase := .redoReady, redo := [.bytes 0 [1]] }, 3, 0,
   { work 2 (desc 1) with phase := .redoReady, redo := [.bytes 0 [1]] }, by decide, by decide, by decide, by decide,
   by decide, by decide, by decide⟩

/-- The hypotheses of each clause of FenceCompletesOnceItsScopeIsDone can be met. -/
theorem test_witness_FenceCompletesOnceItsScopeIsDone :
    (∃ (s : State) (queue : Nat) (seq : Seq48) (w : Work) (scope : Nat) (c : Instr), awake s ∧ openOf s queue seq 2 = some w
    ∧ bits w.desc.param 0 2 = scope ∧ ((scope = 0 ∧ c = .fenceQueue queue seq) ∨ (scope = 1 ∧ c = .fenceHub queue seq) ∨
    (scope = 2 ∧ c = .fenceFabric queue seq)) ∧ ((∀ x ∈ s.works, x.stamp < w.stamp → x.strip = false → x.queue ≠ w.queue ∧
    (scope = 0 ∨ x.tenant ≠ w.tenant)) ∧ (scope = 2 → (∀ tag ∈ w.waits, txOf s tag = none) ∧ ∀ r ∈ s.embed.relays, r.h.tenant
    ≠ w.tenant))) ∧
    (∃ (s : State) (queue : Nat) (seq : Seq48) (w : Work) (scope : Nat) (c : Instr), awake s ∧ openOf s queue seq 2 = some w
    ∧ bits w.desc.param 0 2 = scope ∧ ((scope = 0 ∧ c = .fenceQueue queue seq) ∨ (scope = 1 ∧ c = .fenceHub queue seq) ∨
    (scope = 2 ∧ c = .fenceFabric queue seq)) ∧ (¬ ((∀ x ∈ s.works, x.stamp < w.stamp → x.strip = false → x.queue ≠ w.queue ∧
    (scope = 0 ∨ x.tenant ≠ w.tenant)) ∧ (scope = 2 → (∀ tag ∈ w.waits, txOf s tag = none) ∧ ∀ r ∈ s.embed.relays, r.h.tenant
    ≠ w.tenant)))) :=
  ⟨⟨busy hub (work 0 (desc 2)), 3, 0, work 0 (desc 2), 0, .fenceQueue 3 0, by decide, by decide, by decide, by decide,
     ⟨by decide, by decide⟩⟩,
    ⟨{ hub with works := [work 0 (desc 1), { work 0 { desc 2 with param := 2 } with seq := 1, stamp := 2 }] }, 3, 1,
     { work 0 { desc 2 with param := 2 } with seq := 1, stamp := 2 }, 2, .fenceFabric 3 1, by decide, by decide, by decide,
     by decide, by decide⟩⟩

/-- The hypotheses of each clause of WaitTallyCompletesAtItsTargets can be met. -/
theorem test_witness_WaitTallyCompletesAtItsTargets :
    (∃ (s : State) (queue : Nat) (seq : Seq48) (w : Work), awake s ∧ openOf s queue seq 3 = some w ∧ (∀ r, Tbl.find
    (tallyRecvs s) (bits w.desc.param 0 6) = some r → tallyValid s r = false ∨ r.tenant ≠ w.tenant)) ∧
    (∃ (s : State) (queue : Nat) (seq : Seq48) (w : Work), awake s ∧ openOf s queue seq 3 = some w ∧ ∃ r, Tbl.find
    (tallyRecvs s) (bits w.desc.param 0 6) = some r ∧ tallyValid s r = true ∧ r.tenant = w.tenant ∧ (((Tbl.at s.order.tally
    (bits w.desc.param 0 6) TallyCounter.zero).bytes - BitVec.ofNat 48 (bits w.desc.arg0 0 48)).toNat < 2 ^ 47 ∧ ((Tbl.at
    s.order.tally (bits w.desc.param 0 6) TallyCounter.zero).packets - BitVec.ofNat 32 (bits w.desc.arg1 0 32)).toNat < 2 ^
    31)) ∧
    (∃ (s : State) (queue : Nat) (seq : Seq48) (w : Work), awake s ∧ openOf s queue seq 3 = some w ∧ ∃ r, Tbl.find
    (tallyRecvs s) (bits w.desc.param 0 6) = some r ∧ tallyValid s r = true ∧ r.tenant = w.tenant ∧ (¬ (((Tbl.at
    s.order.tally (bits w.desc.param 0 6) TallyCounter.zero).bytes - BitVec.ofNat 48 (bits w.desc.arg0 0 48)).toNat < 2 ^ 47
    ∧ ((Tbl.at s.order.tally (bits w.desc.param 0 6) TallyCounter.zero).packets - BitVec.ofNat 32 (bits w.desc.arg1 0
    32)).toNat < 2 ^ 31)) ∧ declaredLost s r.src = true) ∧
    (∃ (s : State) (queue : Nat) (seq : Seq48) (w : Work), awake s ∧ openOf s queue seq 3 = some w ∧ ∃ r, Tbl.find
    (tallyRecvs s) (bits w.desc.param 0 6) = some r ∧ tallyValid s r = true ∧ r.tenant = w.tenant ∧ (¬ (((Tbl.at
    s.order.tally (bits w.desc.param 0 6) TallyCounter.zero).bytes - BitVec.ofNat 48 (bits w.desc.arg0 0 48)).toNat < 2 ^ 47
    ∧ ((Tbl.at s.order.tally (bits w.desc.param 0 6) TallyCounter.zero).packets - BitVec.ofNat 32 (bits w.desc.arg1 0
    32)).toNat < 2 ^ 31)) ∧ declaredLost s r.src = false) :=
  ⟨⟨busy hub (work 0 ({ desc 3 with param := 1, arg0 := 0, arg1 := 0 })), 3, 0,
     work 0 ({ desc 3 with param := 1, arg0 := 0, arg1 := 0 }), by decide, by decide,
     fun r h => by have h : none = some r := h; cases h⟩,
    ⟨busy hub (work 0 ({ desc 3 with param := 2, arg0 := 0, arg1 := 0 })), 3, 0,
     work 0 ({ desc 3 with param := 2, arg0 := 0, arg1 := 0 }), by decide, by decide,
     { src := 1, channel := 0, tenant := 5, queue := 3 }, by decide, by decide, by decide, by decide⟩,
    ⟨busy hub (work 0 ({ desc 3 with param := 2, arg0 := 5, arg1 := 0 })), 3, 0,
     work 0 ({ desc 3 with param := 2, arg0 := 5, arg1 := 0 }), by decide, by decide,
     { src := 1, channel := 0, tenant := 5, queue := 3 }, by decide, by decide, by decide, by decide, by decide⟩,
    ⟨busy net (work 0 ({ desc 3 with param := 2, arg0 := 5, arg1 := 0 })), 3, 0,
     work 0 ({ desc 3 with param := 2, arg0 := 5, arg1 := 0 }), by decide, by decide,
     { src := 1, channel := 0, tenant := 5, queue := 3 }, by decide, by decide, by decide, by decide, by decide⟩⟩

/-- The hypotheses of each clause of PublishFixesItsOutcome can be met. -/
theorem test_witness_PublishFixesItsOutcome :
    (∃ (s : State) (queue : Nat) (seq : Seq48) (w : Work) (r : Nat) (x : PubRegion), awake s ∧ openOf s queue seq 4 = some w
    ∧ glazeMode w.desc = 0 ∧ namedRegion s w.tenant w.desc.ptr0 = some (r, x) ∧ flipPending s r = false ∧ gateOpen s w ∧ (∀
    d, draftOf s r w.tenant (glazeWriter w.desc) = some d → d.granules = [])) ∧
    (∃ (s : State) (queue : Nat) (seq : Seq48) (w : Work) (r : Nat) (x : PubRegion), awake s ∧ openOf s queue seq 4 = some w
    ∧ glazeMode w.desc = 0 ∧ namedRegion s w.tenant w.desc.ptr0 = some (r, x) ∧ flipPending s r = false ∧ gateOpen s w ∧ ∃ d,
    draftOf s r w.tenant (glazeWriter w.desc) = some d ∧ d.granules ≠ [] ∧ x.lastWins = false ∧ w.desc.arg0 ≠ x.version) ∧
    (∃ (s : State) (queue : Nat) (seq : Seq48) (w : Work) (r : Nat) (x : PubRegion), awake s ∧ openOf s queue seq 4 = some w
    ∧ glazeMode w.desc = 0 ∧ namedRegion s w.tenant w.desc.ptr0 = some (r, x) ∧ flipPending s r = false ∧ gateOpen s w ∧ ∃ d,
    draftOf s r w.tenant (glazeWriter w.desc) = some d ∧ d.granules ≠ [] ∧ (x.lastWins = true ∨ w.desc.arg0 = x.version)) :=
  ⟨⟨busy hub (work 0 ({ desc 4 with param := 0, ptr0 := 4194304, arg0 := 7 })), 3, 0,
     work 0 ({ desc 4 with param := 0, ptr0 := 4194304, arg0 := 7 }), 2, { pages := 1, version := 7, lastWins := false },
     by decide, by decide, by decide, by decide, by decide, by decide, fun d h => by have h : none = some d := h; cases h⟩,
    ⟨busy { hub with order := { hub.order with drafts := [{ region := 2, tenant := 5, writer := 0, granules := [0], data := [], renewed := 0 }] } } (work 0 ({ desc 4 with param := 0, ptr0 := 4194304, arg0 := 6 })),
     3, 0, work 0 ({ desc 4 with param := 0, ptr0 := 4194304, arg0 := 6 }), 2,
     { pages := 1, version := 7, lastWins := false }, by decide, by decide, by decide, by decide, by decide, by decide,
     { region := 2, tenant := 5, writer := 0, granules := [0], data := [], renewed := 0 }, by decide, by decide, by decide,
     by decide⟩,
    ⟨busy { hub with order := { hub.order with drafts := [{ region := 2, tenant := 5, writer := 0, granules := [0], data := [], renewed := 0 }] } } (work 0 ({ desc 4 with param := 0, ptr0 := 4194304, arg0 := 7 })),
     3, 0, work 0 ({ desc 4 with param := 0, ptr0 := 4194304, arg0 := 7 }), 2,
     { pages := 1, version := 7, lastWins := false }, by decide, by decide, by decide, by decide, by decide, by decide,
     { region := 2, tenant := 5, writer := 0, granules := [0], data := [], renewed := 0 }, by decide, by decide, by decide⟩⟩

/-- The hypotheses of each clause of GlazeDiscardsRefreshesAndLearns can be met. -/
theorem test_witness_GlazeDiscardsRefreshesAndLearns :
    (∃ (s : State) (queue : Nat) (seq : Seq48) (w : Work) (r : Nat) (x : PubRegion), awake s ∧ openOf s queue seq 4 = some w
    ∧ glazeMode w.desc = 1 ∧ namedRegion s w.tenant w.desc.ptr0 = some (r, x) ∧ gateOpen s w) ∧
    (∃ (s : State) (queue : Nat) (seq : Seq48) (w : Work) (c : Instr), awake s ∧ openOf s queue seq 4 = some w ∧ w.phase =
    .ready ∧ gateOpen s w ∧ ((glazeMode w.desc = 2 ∧ c = .glazeRefresh queue seq) ∨ (glazeMode w.desc = 3 ∧ c = .glazeVersion
    queue seq)) ∧ ∃ r x, saNode w.desc.ptr0 = hubNode s ∧ namedRegion s w.tenant w.desc.ptr0 = some (r, x)) ∧
    (∃ (s : State) (queue : Nat) (seq : Seq48) (w : Work) (c : Instr), awake s ∧ openOf s queue seq 4 = some w ∧ w.phase =
    .ready ∧ gateOpen s w ∧ ((glazeMode w.desc = 2 ∧ c = .glazeRefresh queue seq) ∨ (glazeMode w.desc = 3 ∧ c = .glazeVersion
    queue seq)) ∧ saNode w.desc.ptr0 ≠ hubNode s ∧ saWellFormed w.desc.ptr0 ∧ (domainHubs s).contains (saNode w.desc.ptr0) ∧
    reachable s (saNode w.desc.ptr0)) :=
  ⟨⟨busy { hub with order := { hub.order with drafts := [{ region := 2, tenant := 5, writer := 0, granules := [0], data := [], renewed := 0 }] } } (work 0 ({ desc 4 with param := 1, ptr0 := 4194304, arg0 := 0 })),
     3, 0, work 0 ({ desc 4 with param := 1, ptr0 := 4194304, arg0 := 0 }), 2,
     { pages := 1, version := 7, lastWins := false }, by decide, by decide, by decide, by decide, by decide⟩,
    ⟨busy hub (work 0 ({ desc 4 with param := 2, ptr0 := 4194304, arg0 := 0 })), 3, 0,
     work 0 ({ desc 4 with param := 2, ptr0 := 4194304, arg0 := 0 }), .glazeRefresh 3 0, by decide, by decide, by decide,
     by decide, by decide, 2, { pages := 1, version := 7, lastWins := false }, by decide, by decide⟩,
    ⟨busy net (work 0 ({ desc 4 with param := 3, ptr0 := 2 ^ 48, arg0 := 0 })), 3, 0,
     work 0 ({ desc 4 with param := 3, ptr0 := 2 ^ 48, arg0 := 0 }), .glazeVersion 3 0, by decide, by decide, by decide,
     by decide, by decide, by decide, by decide, by decide, by decide⟩⟩

/-- The hypotheses of each clause of VersionMessagesAndLeases can be met. -/
theorem test_witness_VersionMessagesAndLeases :
    (∃ (s : State) (m : MsgHeader), awake s ∧ (isMember s m.src = false ∨ namedRegion s m.tenant (saOf (hubNode s) m.offset)
    = none)) ∧
    (∃ (s : State) (m : MsgHeader), awake s ∧ ∃ r x, isMember s m.src = true ∧ namedRegion s m.tenant (saOf (hubNode s)
    m.offset) = some (r, x)) ∧
    (∃ (s : State) (m : MsgHeader) (status : Status) (version : Nat) (o : Outstanding) (q : Nat) (n : Seq48) (w : Work),
    awake s ∧ txOf s m.tag = some o ∧ o.await = .version q n ∧ o.node = m.src ∧ workOf s q n = some w) ∧
    (∃ (s : State) (m : MsgHeader) (version : Nat), awake s) ∧
    (∃ (s : State) (region : Nat) (tenant : Nat) (writer : Nat), awake s) :=
  ⟨⟨hub, { msg with src := 2 }, by decide, by decide⟩,
    ⟨hub, { msg with offset := 4194304 }, by decide, 2, { pages := 1, version := 7, lastWins := false }, by decide,
     by decide⟩,
    ⟨busy (sent hub (.version 3 0)) (work 0 (desc 4)), { msg with tag := 9 }, .ok, 7,
     { tag := 9, node := 1, await := .version 3 0, tenant := 5, addr := 0, len := 4, stale := false }, 3, 0, work 0 (desc 4),
     by decide, by decide, by decide, by decide, by decide⟩,
    ⟨hub, msg, 7, by decide⟩,
    ⟨hub, 2, 5, 0, by decide⟩⟩

/-- The hypotheses of each clause of TallyCreditsCountOnce can be met. -/
theorem test_witness_TallyCreditsCountOnce :
    (∃ (s : State) (queue : Nat) (seq : Seq48) (w : Work) (ch : Nat) (b : TallySend), awake s ∧ workOf s queue seq = some w ∧
    w.phase = .done ∧ owesCredit w ∧ tallyOpen s queue seq = false ∧ (∀ x ∈ s.works, x.queue = queue → Seq48.before x.seq seq
    → owesCredit x = false) ∧ (tallySends s).find? (fun e => e.2.queue == queue) = some (ch, b)) ∧
    (∃ (s : State) (src : Nat) (channel : Nat) (tag : Nat) (seq : Seq48) (bytes : Nat) (packets : Nat) (id : Nat) (r :
    TallyRecv), awake s ∧ (tallyRecvs s).find? (fun e => e.2.src == src && e.2.channel == channel && tallyValid s e.2) = some
    (id, r)) ∧
    (∃ (s : State) (src : Nat) (channel : Nat) (tag : Nat) (seq : Seq48) (bytes : Nat) (packets : Nat), awake s ∧ (tallyRecvs
    s).find? (fun e => e.2.src == src && e.2.channel == channel && tallyValid s e.2) = none) ∧
    (∃ (s : State) (src : Nat) (tag : Nat) (o : Outstanding) (q : Nat) (n : Seq48), awake s ∧ txOf s tag = some o ∧ o.await =
    .credit q n ∧ o.node = src) :=
  ⟨⟨busy hub { work 0 (desc 1) with phase := .done, tallyPkts := 1 }, 3, 0,
     { work 0 (desc 1) with phase := .done, tallyPkts := 1 }, 0, { queue := 3, dest := 1, counter := 2 }, by decide,
     by decide, by decide, by decide, by decide, by decide, by decide⟩,
    ⟨hub, 1, 0, 4, 1, 64, 1, 2, { src := 1, channel := 0, tenant := 5, queue := 3 }, by decide, by decide⟩,
    ⟨hub, 1, 1, 4, 1, 64, 1, by decide, by decide⟩,
    ⟨sent hub (.credit 3 0), 1, 9,
     { tag := 9, node := 1, await := .credit 3 0, tenant := 5, addr := 0, len := 4, stale := false }, 3, 0, by decide,
     by decide, by decide, by decide⟩⟩

/-- The hypotheses of each clause of PoolRequestsAreServedOrReadThroughTrowel can be met. -/
theorem test_witness_PoolRequestsAreServedOrReadThroughTrowel :
    (∃ (s : State) (src : Nat) (h : ExHeader) (entries : List PoolEntry) (t : TableDesc), awake s ∧ exchServes s ∧
    receiveUsed s + poolReqBytes entries ≤ 67108864 ∧ tableOf s h.table = some t ∧ epochAhead t h.epoch = false ∧ isMember s
    src ∧ (∀ e ∈ entries, e.index < t.rows) ∧ (∀ e ∈ entries, ∀ sa, heldRowSa s t h.epoch e.index = some sa → permits s
    h.tenant (saOff sa) (rowSize t) false)) ∧
    (∃ (s : State) (src : Nat) (h : ExHeader) (entries : List PoolEntry), awake s ∧ exchServes s = false) ∧
    (∃ (s : State) (src : Nat) (h : ExHeader) (partials : List Partial) (stale : List PoolEntry) (w : Work), awake s ∧ workOf
    s h.queue h.seq = some w ∧ h.status = .ok ∧ stale = [] ∧ (∃ a ∈ w.asked, a.owner = src ∧ a.part = h.part ∧ a.answer =
    none)) ∧
    (∃ (s : State) (c : Instr) (queue : Nat) (part : Nat) (seq : Seq48) (hit : PoolAsk → Prop) (w : Work), awake s ∧ ((∃ src
    h, c = .busy src h ∧ h.queue = queue ∧ h.seq = seq ∧ h.part = part ∧ ∀ a, hit a ↔ a.answer = none ∧ a.owner = src ∧
    a.part = part) ∨ (c = .straggle queue seq part ∧ ∀ a, hit a ↔ a.answer = none ∧ a.part = part)) ∧ workOf s queue seq =
    some w) :=
  ⟨⟨hub, 1, exch, [{ index := 3, bag := 0, weight := 1 }], table, by decide, by decide, by decide, by decide, by decide,
     by decide, by decide,
     by intro e he sa hsa; obtain rfl := List.mem_singleton.mp he; obtain rfl : 4144 = sa := Option.some.inj (hsa : some 4144 = some sa); decide⟩,
    ⟨{ hub with ctrl := { hub.ctrl with exch := 1 } }, 1, exch, [], by decide, by decide⟩,
    ⟨busy hub { work 1 (desc 1) with asked := [{ owner := 1, part := 0, entries := [{ index := 3, bag := 0, weight := 1 }], answer := none }] },
     1, exch, [], [],
     { work 1 (desc 1) with asked := [{ owner := 1, part := 0, entries := [{ index := 3, bag := 0, weight := 1 }], answer := none }] },
     by decide, by decide, by decide, by decide, by decide⟩,
    ⟨busy hub { work 1 (desc 1) with asked := [{ owner := 1, part := 0, entries := [{ index := 3, bag := 0, weight := 1 }], answer := none }] },
     .busy 1 exch, 3, 0, 0, fun a => a.answer = none ∧ a.owner = 1 ∧ a.part = 0,
     { work 1 (desc 1) with asked := [{ owner := 1, part := 0, entries := [{ index := 3, bag := 0, weight := 1 }], answer := none }] },
     by decide, .inl ⟨1, exch, rfl, rfl, rfl, rfl, fun _ => Iff.rfl⟩, by decide⟩⟩

/-- The hypotheses of each clause of UpdatesAtTheOwnerCountOnce can be met. -/
theorem test_witness_UpdatesAtTheOwnerCountOnce :
    (∃ (s : State) (src : Nat) (h : ExHeader) (indices : List Nat) (t : TableDesc), awake s ∧ tableOf s h.table = some t ∧
    isMember s src ∧ fencedPrimary s t = false ∧ (∀ i ∈ indices, saNode (ownerRowSa t i) = hubNode s) ∧ (∀ i ∈ indices, i <
    t.rows ∧ permits s h.tenant (saOff (ownerRowSa t i)) (rowSize t) true)) ∧
    (∃ (s : State) (src : Nat) (h : ExHeader) (indices : List Nat) (t : TableDesc), awake s ∧ tableOf s h.table = some t ∧
    isMember s src ∧ fencedPrimary s t = false ∧ (∀ i ∈ indices, saNode (ownerRowSa t i) = hubNode s) ∧ ∃ i, i ∈ indices ∧ i
    < t.rows ∧ permits s h.tenant (saOff (ownerRowSa t i)) (rowSize t) true = false) ∧
    (∃ (s : State) (src : Nat) (h : ExHeader) (o : Outstanding) (w : Work), awake s ∧ s.embed.relays = [] ∧ updateTx s false
    src h = some o ∧ workOf s h.queue h.seq = some w) ∧
    (∃ (s : State) (src : Nat) (h : ExHeader) (items : List DeltaItem) (t : TableDesc) (rc : Receipt), awake s ∧ tableOf s
    h.table = some t ∧ isMember s src ∧ fencedPrimary s t = false ∧ items ≠ [] ∧ (∀ i ∈ items, i.index < t.rows ∧ saNode
    (ownerRowSa t i.index) = hubNode s) ∧ receiptOf s h.src h.queue h.seq h.part = some rc) ∧
    (∃ (s : State) (src : Nat) (h : ExHeader) (items : List DeltaItem) (t : TableDesc), awake s ∧ tableOf s h.table = some t
    ∧ isMember s src ∧ fencedPrimary s t = false ∧ items ≠ [] ∧ (∀ i ∈ items, i.index < t.rows ∧ saNode (ownerRowSa t
    i.index) = hubNode s ∧ i.elems.length = t.rowElems) ∧ receiptOf s h.src h.queue h.seq h.part = none ∧ isReplicated t =
    false ∧ s.comp.live.moves = [] ∧ deltaWaits s (dedup (items.map (fun i => saOff (ownerRowSa t i.index)))) (rowSize t) =
    false) ∧
    (∃ (s : State) (src : Nat) (h : ExHeader) (o : Outstanding) (w : Work), awake s ∧ s.embed.relays = [] ∧ updateTx s true
    src h = some o ∧ workOf s h.queue h.seq = some w) ∧
    (∃ (s : State) (src : Nat) (h : ExHeader), awake s ∧ s.embed.held = []) :=
  ⟨⟨hub, 1, exch, [3], table, by decide, by decide, by decide, by decide, by decide, by decide⟩,
    ⟨hub, 1, { exch with tenant := 6 }, [3], table, by decide, by decide, by decide, by decide, by decide, 3, by decide,
     by decide, by decide⟩,
    ⟨busy (sent hub (.prep 3 0)) (work 2 (desc 1)), 1, { exch with part := 0 },
     { tag := 9, node := 1, await := .prep 3 0, tenant := 5, addr := 0, len := 4, stale := false }, work 2 (desc 1),
     by decide, by decide, by decide, by decide⟩,
    ⟨{ hub with receipts := [{ src := 1, queue := 3, seq := 0, part := 0, flags := 0, status := .ok, olds := [] }] }, 1,
     exch, [{ index := 3, elems := [0, 0, 0, 0] }], table,
     { src := 1, queue := 3, seq := 0, part := 0, flags := 0, status := .ok, olds := [] }, by decide, by decide, by decide,
     by decide, by decide, by decide, by decide⟩,
    ⟨hub, 1, exch, [{ index := 3, elems := [0, 0, 0, 0] }], table, by decide, by decide, by decide, by decide, by decide,
     by decide, by decide, by decide, by decide, by decide⟩,
    ⟨busy (sent hub (.delta 3 0)) (work 2 (desc 1)), 1, exch,
     { tag := 9, node := 1, await := .delta 3 0, tenant := 5, addr := 0, len := 4, stale := false }, work 2 (desc 1),
     by decide, by decide, by decide, by decide⟩,
    ⟨hub, 1, exch, by decide, by decide⟩⟩

/-- The hypotheses of each clause of MessagesReadAndWriteThisHubsMemory can be met. -/
theorem test_witness_MessagesReadAndWriteThisHubsMemory :
    (∃ (s : State) (m : MsgHeader) (len : Nat), awake s ∧ isMember s m.src ∧ localReadStatus s m.tenant m.offset len = .ok ∧
    linesToRead s m.offset len = []) ∧
    (∃ (s : State) (m : MsgHeader) (data : List Byte) (c : Instr), awake s ∧ isMember s m.src ∧ (c = .store m data ∨ c =
    .tallyStore m data) ∧ Memory.wf s.store.mem ∧ localWriteStatus s m.tenant m.src m.offset data.length = .ok ∧
    touchesPublished s m.offset data.length = false ∧ deepPages s m.offset data.length = [] ∧ linesToWrite s m.offset
    data.length = []) ∧
    (∃ (s : State) (m : MsgHeader) (scope : Nat) (queue : Nat) (part : Nat) (seq : Seq48) (es : List AtomicEntry), awake s ∧
    isMember s m.src ∧ (∀ e ∈ es, permits s m.tenant (saOff e.target) (atomicWidth e) true)) ∧
    (∃ (s : State) (m : MsgHeader) (scope : Nat) (queue : Nat) (part : Nat) (seq : Seq48) (es : List AtomicEntry), awake s ∧
    isMember s m.src ∧ ∃ rc, receiptOf s m.src queue seq part = some rc) ∧
    (∃ (s : State) (m : MsgHeader) (scope : Nat) (queue : Nat) (part : Nat) (seq : Seq48) (es : List AtomicEntry), awake s ∧
    isMember s m.src ∧ receiptOf s m.src queue seq part = none ∧ fenced s = false ∧ (∀ e ∈ es, badAtomic e = false) ∧ (∀ e ∈
    es, permits s m.tenant (saOff e.target) (atomicWidth e) true) ∧ deltaWaits s (es.map (fun e => saOff e.target)) 8 =
    false) ∧
    (∃ (s : State) (m : MsgHeader) (len : Nat) (data : List Byte), awake s ∧ isMember s m.src = false) :=
  ⟨⟨hub, msg, 512, by decide, by decide, by decide, by decide⟩,
    ⟨hub, msg, [1, 2], .tallyStore msg [1, 2], by decide, by decide, by decide, by decide, by decide, by decide, by decide,
     by decide⟩,
    ⟨hub, msg, 2, 3, 0, 0, [{ target := 8, op := 0, wide := true, operand := 1, compare := 0, rsvd := false }], by decide,
     by decide, by decide⟩,
    ⟨{ hub with receipts := [{ src := 1, queue := 3, seq := 0, part := 0, flags := 0, status := .ok, olds := [] }] }, msg, 2,
     3, 0, 0, [], by decide, by decide, { src := 1, queue := 3, seq := 0, part := 0, flags := 0, status := .ok, olds := [] },
     by decide⟩,
    ⟨hub, msg, 2, 3, 0, 0, [{ target := 8, op := 0, wide := true, operand := 1, compare := 0, rsvd := false }], by decide,
     by decide, by decide, by decide, by decide, by decide, by decide⟩,
    ⟨hub, { msg with src := 2 }, 4, [], by decide, by decide⟩⟩

/-- The hypotheses of each clause of AnswersAndTimeoutsEndTransactions can be met. -/
theorem test_witness_AnswersAndTimeoutsEndTransactions :
    (∃ (s : State) (tag : Nat) (o : Outstanding) (q : Nat) (n : Seq48) (w : Work) (status : Status) (epoch : Nat) (data :
    List Byte), awake s ∧ txOf s tag = some o ∧ workOf s q n = some w ∧ o.await = .load q n none) ∧
    (∃ (s : State) (tag : Nat) (o : Outstanding) (q : Nat) (n : Seq48) (w : Work) (status : Status) (epoch : Nat) (data :
    List Byte), awake s ∧ txOf s tag = some o ∧ workOf s q n = some w ∧ o.await = .store q n) ∧
    (∃ (s : State) (tag : Nat) (o : Outstanding) (q : Nat) (n : Seq48) (w : Work) (status : Status) (epoch : Nat) (data :
    List Byte), awake s ∧ txOf s tag = some o ∧ workOf s q n = some w ∧ o.await = .check q n) ∧
    (∃ (s : State) (tag : Nat) (o : Outstanding) (q : Nat) (n : Seq48) (w : Work) (status : Status) (epoch : Nat) (data :
    List Byte), awake s ∧ txOf s tag = some o ∧ workOf s q n = some w ∧ o.await = .store q n ∧ w.desc.opcode = 1 ∧
    s.faults.rings.length = 4) ∧
    (∃ (s : State) (src : Nat) (tag : Nat) (status : Status) (epoch : Nat) (data : List Byte) (olds : List Nat), awake s ∧ (∀
    o, txOf s tag = some o → o.node ≠ src)) :=
  ⟨⟨busy (sent hub (.load 3 0 none)) (work 0 (desc 1)), 9,
     { tag := 9, node := 1, await := .load 3 0 none, tenant := 5, addr := 0, len := 4, stale := false }, 3, 0,
     work 0 (desc 1), .ok, 1, [1, 2, 3, 4], by decide, by decide, by decide, by decide⟩,
    ⟨busy (sent hub (.store 3 0)) (work 0 (desc 1)), 9,
     { tag := 9, node := 1, await := .store 3 0, tenant := 5, addr := 0, len := 4, stale := false }, 3, 0, work 0 (desc 1),
     .ok, 1, [1, 2, 3, 4], by decide, by decide, by decide, by decide⟩,
    ⟨busy (sent hub (.check 3 0)) (work 12 (desc 1)), 9,
     { tag := 9, node := 1, await := .check 3 0, tenant := 5, addr := 0, len := 4, stale := false }, 3, 0, work 12 (desc 1),
     .ok, 1, [1, 2, 3, 4], by decide, by decide, by decide, by decide⟩,
    ⟨busy (sent hub (.store 3 0)) (work 0 (desc 1)), 9,
     { tag := 9, node := 1, await := .store 3 0, tenant := 5, addr := 0, len := 4, stale := false }, 3, 0, work 0 (desc 1),
     .ok, 1, [1, 2, 3, 4], by decide, by decide, by decide, by decide, by decide, by decide⟩,
    ⟨sent hub (.store 3 0), 0, 9, .ok, 0, [], [], by decide, by intro o h; injection h with h; subst h; decide⟩⟩

/-- The hypotheses of each clause of HeldRequestsAreServedAtTheHome can be met. -/
theorem test_witness_HeldRequestsAreServedAtTheHome :
    (∃ (s : State) (m : MsgHeader), awake s ∧ (domainHubs s).contains m.src ∧ lineStatus s m false = .ok ∧ Tbl.find
    s.order.directory (m.offset / 128) = none ∧ directoryFull s (lineRegion s (m.offset / 128)) = false) ∧
    (∃ (s : State) (m : MsgHeader), awake s ∧ (domainHubs s).contains m.src ∧ lineStatus s m false = .ok ∧ ∃ e, Tbl.find
    s.order.directory (m.offset / 128) = some e ∧ e.busy = none) ∧
    (∃ (s : State) (m : MsgHeader), awake s ∧ (domainHubs s).contains m.src ∧ lineStatus s m true = .ok ∧ Tbl.find
    s.order.directory (m.offset / 128) = none ∧ directoryFull s (lineRegion s (m.offset / 128)) = false ∧ ∃ (c : Instr), (c =
    .readOwn m ∨ c = .upgrade m)) ∧
    (∃ (s : State) (m : MsgHeader), awake s ∧ (domainHubs s).contains m.src ∧ lineStatus s m true = .ok ∧ ∃ e, Tbl.find
    s.order.directory (m.offset / 128) = some e ∧ e.busy = none ∧ e.waiting = [] ∧ m.src ∈ holders e ∧ (∀ n ∈ holders e, n =
    m.src)) ∧
    (∃ (s : State) (m : MsgHeader), awake s ∧ (domainHubs s).contains m.src ∧ lineStatus s m true = .ok ∧ ∃ (e : _) (c :
    Instr), Tbl.find s.order.directory (m.offset / 128) = some e ∧ e.busy = none ∧ e.state = .shared ∧ (∃ n ∈ holders e, n ≠
    m.src) ∧ (c = .readOwn m ∨ c = .upgrade m)) ∧
    (∃ (s : State) (m : MsgHeader), awake s ∧ (domainHubs s).contains m.src ∧ lineStatus s m true = .ok ∧ ∃ (e : _) (c :
    Instr), Tbl.find s.order.directory (m.offset / 128) = some e ∧ e.busy.isSome = true ∧ (c = .readOwn m ∨ c = .upgrade m)) ∧
    (∃ (s : State) (m : MsgHeader) (request : LineRequest) (ticket : Nat) (e : DirEntry) (c : Instr), awake s ∧ Tbl.find
    s.order.directory (m.offset / 128) = some e ∧ e.busy = none ∧ ((request = .readShared ∧ c = .readShared m) ∨ (request =
    .readOwn ∧ c = .readOwn m) ∨ (request = .upgrade ∧ c = .upgrade m)) ∧ ticket = e.serve) ∧
    (∃ (s : State) (m : MsgHeader) (request : LineRequest) (ticket : Nat) (e : DirEntry) (c : Instr), awake s ∧ Tbl.find
    s.order.directory (m.offset / 128) = some e ∧ e.busy = none ∧ ((request = .readShared ∧ c = .readShared m) ∨ (request =
    .readOwn ∧ c = .readOwn m) ∨ (request = .upgrade ∧ c = .upgrade m)) ∧ ticket ≠ e.serve) ∧
    (∃ (s : State) (m : MsgHeader) (dirty : List Byte) (e : DirEntry), awake s ∧ Memory.wf s.store.mem ∧ Tbl.find
    s.order.directory (m.offset / 128) = some e ∧ e.busy = none ∧ e.owner = m.src ∧ (e.state = .modified ∨ e.state = .owned)
    ∧ dirty.length = 128) ∧
    (∃ (s : State) (m : MsgHeader) (data : List Byte) (e : DirEntry), awake s ∧ Memory.wf s.store.mem ∧ Tbl.find
    s.order.directory (m.offset / 128) = some e ∧ e.busy.isSome = true ∧ m.src ∈ e.acksDue ∧ (∃ n ∈ e.acksDue, n ≠ m.src) ∧
    data.length = 128) :=
  ⟨⟨hub, { msg with offset := 2097152 }, by decide, by decide, by decide, by decide, by decide⟩,
    ⟨lined held, { msg with offset := 2097152 }, by decide, by decide, by decide, held, by decide, by decide⟩,
    ⟨hub, { msg with offset := 2097152 }, by decide, by decide, by decide, by decide, by decide,
     .upgrade ({ msg with offset := 2097152 }), by decide⟩,
    ⟨lined held, { msg with offset := 2097152 }, by decide, by decide, by decide, held, by decide, by decide, by decide,
     by decide, by decide⟩,
    ⟨lined { held with sharers := [1, 0] }, { msg with offset := 2097152 }, by decide, by decide, by decide,
     { held with sharers := [1, 0] }, .readOwn ({ msg with offset := 2097152 }), by decide, by decide, by decide, by decide,
     by decide⟩,
    ⟨lined { held with busy := some (.member 0 3 .readOwn), acksDue := [1, 0], sharers := [1, 0] },
     { msg with offset := 2097152 }, by decide, by decide, by decide,
     { held with busy := some (.member 0 3 .readOwn), acksDue := [1, 0], sharers := [1, 0] },
     .readOwn ({ msg with offset := 2097152 }), by decide, by decide, by decide⟩,
    ⟨lined held, { msg with offset := 2097152 }, .upgrade, 0, held, .upgrade ({ msg with offset := 2097152 }), by decide,
     by decide, by decide, by decide, by decide⟩,
    ⟨lined held, { msg with offset := 2097152 }, .readShared, 1, held, .readShared ({ msg with offset := 2097152 }),
     by decide, by decide, by decide, by decide, by decide⟩,
    ⟨lined { held with state := .modified, owner := 1, sharers := [] }, { msg with offset := 2097152 }, List.replicate 128 7,
     { held with state := .modified, owner := 1, sharers := [] }, by decide, by decide, by decide, by decide, by decide,
     by decide, List.length_replicate ..⟩,
    ⟨lined { held with busy := some (.member 0 3 .readOwn), acksDue := [1, 0], sharers := [1, 0] },
     { msg with offset := 2097152 }, List.replicate 128 7,
     { held with busy := some (.member 0 3 .readOwn), acksDue := [1, 0], sharers := [1, 0] }, by decide, by decide,
     by decide, by decide, by decide, by decide, List.length_replicate ..⟩⟩

/-- The hypotheses of each clause of HeldMessagesAtAMember can be met. -/
theorem test_witness_HeldMessagesAtAMember :
    (∃ (s : State) (m : MsgHeader) (requester : Nat) (c : HeldCopy), awake s ∧ heldCopy s m.src (m.offset / 128) = some c) ∧
    (∃ (s : State) (m : MsgHeader) (requester : Nat) (c : HeldCopy), awake s ∧ heldCopy s m.src (m.offset / 128) = some c ∧ ∃
    (i : Instr), (i = .inv m ∨ i = .recall m)) ∧
    (∃ (s : State) (m : MsgHeader) (x : LineMiss), awake s ∧ missOf s (m.offset / 128) = some x ∧ x.node = m.src ∧ ∃ (granted
    : LineState) (line : List Byte), Tbl.find s.order.directory (m.offset / 128) = none ∧ s.order.copies.length < 524288 ∧
    line.length = 128) ∧
    (∃ (s : State) (m : MsgHeader) (x : LineMiss), awake s ∧ missOf s (m.offset / 128) = some x ∧ x.node = m.src ∧ ∃ c,
    x.request = .upgrade ∧ heldCopy s m.src (m.offset / 128) = some c) ∧
    (∃ (s : State) (m : MsgHeader) (x : LineMiss), awake s ∧ missOf s (m.offset / 128) = some x ∧ x.node = m.src) :=
  ⟨⟨{ hub with order := { hub.order with copies := [copy] } }, msg, 0, copy, by decide, by decide⟩,
    ⟨{ hub with order := { hub.order with copies := [copy] } }, msg, 0, copy, by decide, by decide, .inv msg, by decide⟩,
    ⟨{ hub with order := { hub.order with misses := [miss .readOwn] } }, msg, miss .readOwn, by decide, by decide, by decide,
     .modified, List.replicate 128 1, by decide, by decide, List.length_replicate ..⟩,
    ⟨{ hub with order := { hub.order with misses := [miss .upgrade], copies := [copy] } }, msg, miss .upgrade, by decide,
     by decide, by decide, copy, by decide, by decide⟩,
    ⟨{ hub with order := { hub.order with misses := [miss .readShared] } }, msg, miss .readShared, by decide, by decide,
     by decide⟩⟩

/-- The hypotheses of each clause of PortsTrainLoseLanesAndRekey can be met. -/
theorem test_witness_PortsTrainLoseLanesAndRekey :
    (∃ (s : State) (who : Sender) (port : Nat), awake s ∧ port < s.fabric.ports.length ∧ port < 12 ∧ hasAdmin s who = true ∧
    (portOf s port).up = false ∧ (portOf s port).training = false ∧ (portOf s port).lanesOut ≠ 15 ∧ (portOf s port).inService
    = true) ∧
    (∃ (s : State) (who : Sender) (port : Nat), awake s ∧ port < s.fabric.ports.length ∧ port < 12 ∧ hasAdmin s who = false) ∧
    (∃ (s : State) (port : Nat) (partner : Nat) (domain : Nat) (device : BitVec 64) (encrypt : Bool), awake s ∧ port <
    s.fabric.ports.length ∧ s.faults.rings.length = 4 ∧ (portOf s port).training = true ∧ (portOf s port).lanesOut = 0) ∧
    (∃ (s : State) (port : Nat) (reason : Nat), awake s ∧ port < s.fabric.ports.length ∧ s.faults.rings.length = 4 ∧ (portOf
    s port).training = true) ∧
    (∃ (s : State) (port : Nat) (lane : Nat) (c : Instr), awake s ∧ port < s.fabric.ports.length ∧ s.faults.rings.length = 4
    ∧ (portOf s port).up = true ∧ lane < 4 ∧ bit (portOf s port).lanesOut lane = false ∧ bit (portOf s port).lanes lane =
    true ∧ (c = .laneLockLoss port lane ∨ c = .laneErrorWindow port lane)) ∧
    (∃ (s : State) (port : Nat), awake s ∧ port < s.fabric.ports.length ∧ (portOf s port).up = true ∧ (portOf s
    port).encrypted = true ∧ securityFailed s = false) :=
  ⟨⟨hub, .ld 0, 11, by decide, by decide, by decide, by decide, by decide, by decide, by decide, by decide⟩,
    ⟨hub, .ld 1, 11, by decide, by decide, by decide, by decide⟩,
    ⟨{ hub with fabric := { hub.fabric with ports := { IflPort.down with training := true } :: List.replicate 11 IflPort.down } },
     0, 1, 3, 0, true, by decide, by decide, by decide, by decide, by decide⟩,
    ⟨{ hub with fabric := { hub.fabric with ports := { IflPort.down with training := true } :: List.replicate 11 IflPort.down } },
     0, 1, by decide, by decide, by decide, by decide⟩,
    ⟨net, 0, 3, .laneLockLoss 0 3, by decide, by decide, by decide, by decide, by decide, by decide, by decide, by decide⟩,
    ⟨{ net with fabric := { net.fabric with ports := { IflPort.down with up := true, lanes := 15, partner := 1, encrypted := true } :: List.replicate 11 IflPort.down } },
     0, by decide, by decide, by decide, by decide, by decide⟩⟩

/-- The hypotheses of each clause of FlitsAreAcknowledgedForwardedAndMoved can be met. -/
theorem test_witness_FlitsAreAcknowledgedForwardedAndMoved :
    (∃ (s : State) (port : Nat) (ackSeq : Nat) (retry : Bool) (credits : List Nat) (tagOk : Bool), awake s ∧ port <
    s.fabric.ports.length ∧ (portOf s port).up = true ∧ ((portOf s port).encrypted = false ∨ tagOk = true) ∧ (portOf s
    port).tries < 7) ∧
    (∃ (s : State) (port : Nat) (ackSeq : Nat) (lanes : Nat) (retry : Bool) (credits : List Nat), awake s ∧ port <
    s.fabric.ports.length ∧ (portOf s port).up = true ∧ (portOf s port).encrypted = true ∧ (portOf s port).tagRun = []) ∧
    (∃ (s : State) (port : Nat) (src : Nat) (dst : Nat) (vc : Nat) (hops : Nat) (kind : Nat) (payload : List Byte), awake s ∧
    port < s.fabric.ports.length ∧ s.faults.rings.length = 4 ∧ dst ≠ hubNode s ∧ ∃ p, activePort s dst = some p) ∧
    (∃ (s : State) (src : Nat) (vc : Nat), awake s) ∧
    (∃ (s : State) (src : Nat), awake s) ∧
    (∃ (s : State) (port : Nat) (fseq : Nat), awake s ∧ port < s.fabric.ports.length ∧ (portOf s port).up = false) :=
  ⟨⟨net, 0, 0, true, [1], false, by decide, by decide, by decide, by decide, by decide⟩,
    ⟨{ net with fabric := { net.fabric with ports := { IflPort.down with up := true, lanes := 15, partner := 1, encrypted := true } :: List.replicate 11 IflPort.down } },
     0, 0, 15, false, [], by decide, by decide, by decide, by decide, by decide⟩,
    ⟨net, 0, 2, 1, 7, 0, 0, [], by decide, by decide, by decide, by decide, 0, by decide⟩,
    ⟨hub, 1, 7, by decide⟩,
    ⟨hub, 1, by decide⟩,
    ⟨hub, 11, 0, by decide, by decide, by decide⟩⟩

/-- The hypotheses of each clause of CompositionCommandsTakeEffectInOrder can be met. -/
theorem test_witness_CompositionCommandsTakeEffectInOrder :
    (∃ (s : State) (c : Instr) (cmd : CompCmd) (out : Status → Out), awake s ∧ coreRuns s schedulerCore = true ∧
    s.comp.acting = true ∧ s.comp.waits = [] ∧ seenHubs s = [] ∧ (∀ m ∈ s.comp.live.moves, m.oldNode ≠ hubNode s) ∧ Asks s c
    cmd out ∧ compStatus s cmd ≠ .ok) ∧
    (∃ (s : State) (c : Instr) (cmd : CompCmd) (out : Status → Out), awake s ∧ coreRuns s schedulerCore = true ∧
    s.comp.acting = true ∧ s.comp.waits = [] ∧ seenHubs s = [] ∧ (∀ m ∈ s.comp.live.moves, m.oldNode ≠ hubNode s) ∧ Asks s c
    cmd out ∧ compStatus s cmd = .ok ∧ waitsForRings s cmd = false ∧ CopiesNothing s cmd) ∧
    (∃ (s : State) (c : Instr) (cmd : CompCmd), awake s ∧ asComp c = some cmd ∧ coreRuns s schedulerCore = false) ∧
    (∃ (s : State) (c : Instr) (cmd : CompCmd), awake s ∧ asComp c = some cmd ∧ coreRuns s schedulerCore = true ∧
    s.comp.acting = false ∧ fenced s = true) ∧
    (∃ (s : State) (c : Instr) (cmd : CompCmd), awake s ∧ asComp c = some cmd ∧ coreRuns s schedulerCore = true ∧
    s.comp.acting = false ∧ fenced s = false ∧ ∃ h, compHubOf s = some h ∧ h ≠ hubNode s) :=
  ⟨⟨hub, .setQuota 6 0 0 1, .setQuota 6 0 0 1, fun st => .fmAnswer st [], by decide, by decide, by decide, by decide,
     by decide, by decide, .inl ⟨rfl, rfl⟩, by decide⟩,
    ⟨hub, .setQuota 5 0 0 90, .setQuota 5 0 0 90, fun st => .fmAnswer st [], by decide, by decide, by decide, by decide,
     by decide, by decide, .inl ⟨rfl, rfl⟩, by decide, by decide, trivial⟩,
    ⟨{ hub with power := { hub.power with cores := List.replicate 35 Core.empty } }, .setQuota 5 0 0 90, .setQuota 5 0 0 90,
     by decide, by decide, by decide⟩,
    ⟨{ hub with comp := { hub.comp with acting := false }, fabric := { hub.fabric with authority := false } },
     .setQuota 5 0 0 90, .setQuota 5 0 0 90, by decide, by decide, by decide, by decide, by decide⟩,
    ⟨{ net with boot := { net.boot with image := some { img with compHubs := [1] } }, comp := { net.comp with acting := false }, fabric := { net.fabric with authorities := [1] } },
     .setQuota 5 0 0 90, .setQuota 5 0 0 90, by decide, by decide, by decide, by decide, by decide, 1, by decide, by decide⟩⟩

/-- The hypotheses of each clause of ChangesReachEveryHubInOrder can be met. -/
theorem test_witness_ChangesReachEveryHubInOrder :
    (∃ (s : State) (src : Nat) (seq : Nat) (cmd : CompCmd), awake s ∧ fenced s = false ∧ (domainHubs s).contains src = true ∧
    coreRuns s schedulerCore = true ∧ s.faults.rings.length = 4 ∧ seq ≤ s.comp.live.lastSeq) ∧
    (∃ (s : State) (src : Nat) (seq : Nat) (cmd : CompCmd), awake s ∧ fenced s = false ∧ (domainHubs s).contains src = true ∧
    coreRuns s schedulerCore = true ∧ s.faults.rings.length = 4 ∧ seq = s.comp.live.lastSeq + 1 ∧ src ≠ hubNode s ∧
    waitsForRings s cmd = false ∧ CopiesNothing s cmd ∧ (∀ m ∈ s.comp.live.moves, m.oldNode ≠ hubNode s)) ∧
    (∃ (s : State) (src : Nat) (seq : Nat) (cmd : CompCmd), awake s ∧ fenced s = false ∧ (domainHubs s).contains src = true ∧
    coreRuns s schedulerCore = true ∧ s.faults.rings.length = 4 ∧ s.comp.live.lastSeq + 1 < seq) ∧
    (∃ (s : State) (src : Nat) (seq : Nat) (st : Status) (w : ChangeWait), awake s ∧ s.comp.waits = [w] ∧ w.changeSeq = seq ∧
    src ∈ w.missing ∧ w.reply = some .fm ∧ (∀ n ∈ w.missing, n = src)) ∧
    (∃ (s : State) (src : Nat) (seq : Nat) (st : Status) (w : ChangeWait), awake s ∧ s.comp.waits = [w] ∧ w.changeSeq = seq ∧
    src ∈ w.missing ∧ w.reply = some .fm ∧ (∃ n ∈ w.missing, n ≠ src)) ∧
    (∃ (s : State) (src : Nat) (tag : Nat) (st : Status), awake s ∧ s.comp.forwards.find? (fun f => f.1 == tag) = some (tag,
    .fm)) ∧
    (∃ (s : State) (src : Nat) (seq : Nat), awake s ∧ (domainHubs s).contains src = true ∧ s.comp.acting = true) ∧
    (∃ (s : State) (src : Nat) (seq : Nat), awake s ∧ (domainHubs s).contains src = true ∧ ∃ (comp : Composition), fenced s =
    false ∧ s.comp.live.lastSeq < seq ∧ comp.tenantBinds = s.comp.live.tenantBinds ∧ comp.queueBinds = s.comp.live.queueBinds
    ∧ comp.indexes = [] ∧ s.embed.held = []) ∧
    (∃ (s : State) (src : Nat) (seq : Nat), awake s ∧ s.comp.gathering = [src] ∧ s.comp.live.moves = []) ∧
    (∃ (s : State) (src : Nat) (c : Instr) (cmd : CompCmd), awake s ∧ coreRuns s schedulerCore = true ∧ s.comp.acting = true
    ∧ s.comp.waits = [] ∧ seenHubs s = [] ∧ (domainHubs s).contains src = true ∧ (∀ m ∈ s.comp.live.moves, m.oldNode ≠
    hubNode s) ∧ compStatus s cmd = .ok ∧ ((∃ i sh m t, c = .flipRequest src i sh t.mapEpoch ∧ cmd = .flip i sh t.mapEpoch ∧
    tableOf s i = some t ∧ m ∈ s.comp.live.moves ∧ m.table = i ∧ m.shard = sh ∧ m.oldNode = src ∧ m.step < 4) ∨ (∃ i m, c =
    .graceAdvance i ∧ cmd = .grace i ∧ m ∈ s.comp.live.moves ∧ m.table = i ∧ 4 ≤ m.step) ∨ (∃ i e t, c = .replicaStale src i
    e t.mapEpoch ∧ cmd = .replicaState i e 2 ∧ tableOf s i = some t))) :=
  ⟨⟨net, 1, 0, .setQuota 5 0 0 90, by decide, by decide, by decide, by decide, by decide, by decide⟩,
    ⟨net, 1, 1, .setQuota 5 0 0 90, by decide, by decide, by decide, by decide, by decide, by decide, by decide, by decide,
     trivial, by decide⟩,
    ⟨net, 1, 2, .setQuota 5 0 0 90, by decide, by decide, by decide, by decide, by decide, by decide⟩,
    ⟨{ hub with comp := { hub.comp with waits := [{ changeSeq := 4, missing := [1], reply := some .fm, status := .ok }] } },
     1, 4, .ok, { changeSeq := 4, missing := [1], reply := some .fm, status := .ok }, by decide, by decide, by decide,
     by decide, by decide, by decide⟩,
    ⟨{ hub with comp := { hub.comp with waits := [{ changeSeq := 4, missing := [1, 2], reply := some .fm, status := .ok }] } },
     1, 4, .ok, { changeSeq := 4, missing := [1, 2], reply := some .fm, status := .ok }, by decide, by decide, by decide,
     by decide, by decide, by decide⟩,
    ⟨{ hub with comp := { hub.comp with forwards := [(9, .fm)] } }, 1, 9, .ok, by decide, by decide⟩,
    ⟨net, 1, 0, by decide, by decide, by decide⟩,
    ⟨net, 1, 1, by decide, by decide, { net.comp.live with indexes := [] }, by decide, by decide, by decide, by decide,
     by decide, by decide⟩,
    ⟨{ hub with comp := { hub.comp with gathering := [1] } }, 1, 0, by decide, by decide, by decide⟩,
    ⟨{ hub with comp := { hub.comp with live := { hub.comp.live with moves := [{ table := 7, shard := 0, oldNode := 1, oldBase := 0, newNode := 0, newBase := 65536, step := 4 }] } } },
     1, .graceAdvance 7, .grace 7, by decide, by decide, by decide, by decide, by decide, by decide, by decide, by decide,
     .inr (.inl ⟨7, { table := 7, shard := 0, oldNode := 1, oldBase := 0, newNode := 0, newBase := 65536, step := 4 }, rfl, rfl, by decide, rfl, by decide⟩)⟩⟩

/-- The hypotheses of each clause of MembershipFollowsHeartbeats can be met. -/
theorem test_witness_MembershipFollowsHeartbeats :
    (∃ (s : State), awake s) ∧
    (∃ (s : State) (src : Nat) (votes : Nat) (seen : List Nat) (authority : Bool) (device : BitVec 64), awake s ∧ isMember s
    src = true ∧ src ≠ hubNode s ∧ strangeIdentity s src device = false) ∧
    (∃ (s : State) (src : Nat) (votes : Nat) (seen : List Nat) (authority : Bool) (device : BitVec 64), awake s ∧ isMember s
    src = true ∧ src ≠ hubNode s ∧ strangeIdentity s src device = true ∧ s.faults.rings.length = 4) ∧
    (∃ (s : State) (node : Nat), awake s ∧ s.fabric.seen.contains node = true ∧ (Tbl.at s.fabric.streak node 0 ≠ 3 ∨ node ∉
    s.fabric.listing)) ∧
    (∃ (s : State) (node : Nat), awake s ∧ s.fabric.seen.contains node = true ∧ Tbl.at s.fabric.streak node 0 = 3 ∧ node ∈
    s.fabric.listing) :=
  ⟨⟨net, by decide⟩,
    ⟨net, 1, 1, [0], true, 0, by decide, by decide, by decide, by decide⟩,
    ⟨{ net with fabric := { net.fabric with identities := [(1, 4)] } }, 1, 1, [0], true, 0, by decide, by decide, by decide,
     by decide, by decide⟩,
    ⟨{ net with fabric := { net.fabric with streak := [(1, 2)] } }, 1, by decide, by decide, by decide⟩,
    ⟨net, 1, by decide, by decide, by decide, by decide⟩⟩

/-- The hypotheses of each clause of SkimsLeaveNothingOfTheTenant can be met. -/
theorem test_witness_SkimsLeaveNothingOfTheTenant :
    (∃ (s : State) (tenant : Nat), awake s) ∧
    (∃ (s : State) (tenant : Nat), awake s ∧ skimStatus s tenant ≠ .ok) ∧
    (∃ (s : State) (tenant : Nat), awake s ∧ skimStatus s tenant = .ok ∧ (∀ e ∈ s.store.pages, e.2.owner = tenant → ∀ h ∈
    s.store.held, h.1 ≠ e.1)) ∧
    (∃ (s : State) (tenant : Nat), awake s ∧ tenant ∈ s.sec.skims) ∧
    (∃ (s : State) (tenant : Nat) (pages : Nat), awake s) :=
  ⟨⟨hub, 5, by decide⟩,
    ⟨hub, 5, by decide, by decide⟩,
    ⟨{ hub with store := { hub.store with pages := [(0, page 9 .plain 0)] } }, 9, by decide, by decide, by decide⟩,
    ⟨{ hub with sec := { hub.sec with skims := [9] } }, 9, by decide, by decide⟩,
    ⟨hub, 9, 1, by decide⟩⟩

/-- The hypotheses of each clause of PagesMoveBetweenTiers can be met. -/
theorem test_witness_PagesMoveBetweenTiers :
    (∃ (s : State) (tier : Tier), awake s ∧ s.store.waits = [] ∧ tierShort s tier = false) ∧
    (∃ (s : State) (tier : Tier), awake s ∧ s.store.waits = [] ∧ ∃ (page : Nat) (p : _), tierShort s tier = true ∧ tier ≠
    .deep ∧ evictable s tier = [(page, p)] ∧ evictedEnough s tier = false ∧ (quotaOf s p.owner tier).floor < pooledStaying s
    p.owner tier ∧ p.discard = true ∧ s.store.held = []) ∧
    (∃ (s : State) (tier : Tier), awake s ∧ s.store.waits = [] ∧ ∃ (page : Nat) (p : _), tierShort s tier = true ∧ tier ≠
    .deep ∧ evictable s tier = [(page, p)] ∧ evictedEnough s tier = false ∧ (quotaOf s p.owner tier).floor < pooledStaying s
    p.owner tier ∧ ∃ d u, p.discard = false ∧ evictTo s tier = some d ∧ placeUnit s d = some u ∧ isMoving s page = false) ∧
    (∃ (s : State), awake s ∧ tierAtHigh s .near = false) ∧
    (∃ (s : State), awake s ∧ ∃ (page : Nat) (p : _) (u : _), tierAtHigh s .near = true ∧ promotable s = [(page, p)] ∧
    poolLow s * tierTotal s .near ≤ (tierFree s .near - 1) * 1024 ∧ 0 < tierFree s .near ∧ isMoving s page = false ∧
    placeUnit s .near = some u) ∧
    (∃ (s : State) (page : Nat) (m : Move) (p : Page) (c : Instr), awake s ∧ moveOf s page = some m ∧ s.store.held = [] ∧
    s.store.waits = [] ∧ s.embed.held = [] ∧ Tbl.find s.store.pages page = some p ∧ ((c = .moveFlip page ∧ m.promotion =
    false) ∨ (c = .deepPromotionDone page ∧ m.promotion = true))) ∧
    (∃ (s : State) (page : Nat) (p : Page) (u : Nat), awake s ∧ Tbl.find s.store.pages page = some p ∧ p.phase = .promoted ∧
    moveRoom s .deep = true ∧ isMoving s page = false ∧ placeUnit s .deep = some u) :=
  ⟨⟨hub, .near, by decide, by decide, by decide⟩,
    ⟨crowded { page 5 .plain 0 with tier := .far, discard := true }, .far, by decide, by decide, 0,
     { page 5 .plain 0 with tier := .far, discard := true }, by decide, by decide, by decide, by decide, by decide,
     by decide, by decide⟩,
    ⟨crowded { page 5 .plain 0 with tier := .far, discard := false }, .far, by decide, by decide, 0,
     { page 5 .plain 0 with tier := .far, discard := false }, by decide, by decide, by decide, by decide, by decide, .deep,
     0, by decide, by decide, by decide, by decide⟩,
    ⟨crammed, by decide, by decide⟩,
    ⟨{ hub with store := { hub.store with pages := [(0, { page 5 .plain 0 with tier := .far })] } }, by decide, 0,
     { page 5 .plain 0 with tier := .far }, 1, by decide, by decide, by decide, by decide, by decide, by decide⟩,
    ⟨{ hub with store := { hub.store with moves := [{ page := 0, tier := .far, unit := 1, index := 0, promotion := false }] } },
     0, { page := 0, tier := .far, unit := 1, index := 0, promotion := false }, page 5 .plain 0, .moveFlip 0, by decide,
     by decide, by decide, by decide, by decide, by decide, by decide⟩,
    ⟨{ hub with store := { hub.store with pages := [(0, { page 5 .plain 0 with phase := .promoted })] } }, 0,
     { page 5 .plain 0 with phase := .promoted }, 0, by decide, by decide, by decide, by decide, by decide, by decide⟩⟩

/-- The hypotheses of each clause of FabricManagerReadsAndSetsDevices can be met. -/
theorem test_witness_FabricManagerReadsAndSetsDevices :
    (∃ (s : State) (port : Nat), awake s ∧ ∃ (c : Instr) (data : _), ((c = .getLdInfo port ∧ data = [16,
    Config.standardAnswer 1]) ∨ (c = .getLdAllocations port ∧ data = (List.range 16).map (fun i => (ldOf s (i + 16 *
    port)).capacity)) ∨ (c = .getQosControl port ∧ data = [Tbl.at s.cxl.qos port 0]) ∨ (c = .getQosAllocatedBw port ∧ data =
    (List.range 16).map (fun i => (ldOf s (i + 16 * port)).qosShare)) ∨ (c = .getQosBwLimit port ∧ data = (List.range 16).map
    (fun i => (ldOf s (i + 16 * port)).qosLimit)))) ∧
    (∃ (s : State) (port : Nat) (start : Nat) (values : List Nat) (c : Instr) (opcode : Nat) (held : LogicalDevice → Nat),
    awake s ∧ ((c = .setLdAllocations port start values ∧ opcode = 0x5402 ∧ held = LogicalDevice.capacity) ∨ (c =
    .setQosAllocatedBw port start values ∧ opcode = 0x5407 ∧ held = LogicalDevice.qosShare) ∨ (c = .setQosBwLimit port start
    values ∧ opcode = 0x5409 ∧ held = LogicalDevice.qosLimit)) ∧ (port < 4 ∧ start + values.length ≤ 16 ∧ (opcode = 0x5402 →
    ∀ v ∈ values, v % 2 ^ 28 = 0) ∧ setPermitted s opcode ((List.range values.length).map (fun i => 16 * port + start + i))
    values = true)) ∧
    (∃ (s : State) (port : Nat) (start : Nat) (values : List Nat) (c : Instr) (opcode : Nat) (held : LogicalDevice → Nat),
    awake s ∧ ((c = .setLdAllocations port start values ∧ opcode = 0x5402 ∧ held = LogicalDevice.capacity) ∨ (c =
    .setQosAllocatedBw port start values ∧ opcode = 0x5407 ∧ held = LogicalDevice.qosShare) ∨ (c = .setQosBwLimit port start
    values ∧ opcode = 0x5409 ∧ held = LogicalDevice.qosLimit)) ∧ (¬ (port < 4 ∧ start + values.length ≤ 16 ∧ (opcode = 0x5402
    → ∀ v ∈ values, v % 2 ^ 28 = 0) ∧ setPermitted s opcode ((List.range values.length).map (fun i => 16 * port + start + i))
    values = true))) ∧
    (∃ (s : State) (port : Nat) (value : Nat), awake s ∧ port < 4 ∧ setPermitted s 0x5404 [] [value] = true) ∧
    (∃ (s : State) (port : Nat) (value : Nat), awake s ∧ (4 ≤ port ∨ setPermitted s 0x5404 [] [value] = false)) :=
  ⟨⟨hub, 3, by decide, .getLdInfo 3, [16, Config.standardAnswer 1], .inl ⟨rfl, rfl⟩⟩,
    ⟨hub, 3, 15, [2 ^ 28], .setLdAllocations 3 15 [2 ^ 28], 0x5402, LogicalDevice.capacity, by decide, .inl ⟨rfl, rfl, rfl⟩,
     by decide⟩,
    ⟨hub, 4, 0, [2 ^ 28], .setLdAllocations 4 0 [2 ^ 28], 0x5402, LogicalDevice.capacity, by decide, .inl ⟨rfl, rfl, rfl⟩,
     by decide⟩,
    ⟨hub, 3, 4, by decide, by decide, by decide⟩,
    ⟨hub, 3, 5, by decide, by decide⟩⟩

/-- The hypotheses of each clause of DeviceMailboxAnswers can be met. -/
theorem test_witness_DeviceMailboxAnswers :
    (∃ (s : State) (ld : Nat), awake s ∧ beforeFirmware s = false ∧ ∃ (c : Instr) (code : Nat) (data : _), ((c =
    .getEventInterruptPolicy ld ∧ code = 0 ∧ data = (ldOf s ld).policy) ∨ (c = .getFwInfo ld ∧ code = 0 ∧ data = [1, 1, 0,
    s.boot.fwMajor, s.boot.fwMinor]) ∨ (c = .getTimestamp ld ∧ code = 0 ∧ data = [ldTime s ld]) ∨ (c = .getSupportedLogs ld ∧
    code = 0 ∧ data = [1, 4 * mailboxOpcodes.length]) ∨ (c = .getLog ld false ∧ code = 2 ∧ data = []) ∨ (c = .getLog ld true
    ∧ code = 0 ∧ data = (mailboxOpcodes.map (fun o => [o, Config.standardAnswer (65536 + o)])).flatten) ∨ (c =
    .identifyMemoryDevice ld ∧ code = 0 ∧ data = [(ldOf s ld).capacity, (ldOf s ld).capacity, 0, 0, 1024]) ∨ (c =
    .getAlertConfiguration ld ∧ code = 0 ∧ data = (ldOf s ld).thresholds) ∨ (c = .getScanMediaResults ld ∧ code = 0 ∧ data =
    (ldOf s ld).scanned) ∨ (c = .getHubInfo ld ∧ code = 0 ∧ data = (hubInfo s ld).map (·.toNat)) ∨ (∃ log l, c =
    .getEventRecords ld log ∧ (ldOf s ld).logs[log]? = some l ∧ code = 0 ∧ data = [flag (l.overflow != 0), l.overflow,
    l.records.length] ++ (l.records.map eventData).flatten) ∨ (∃ dpa len, c = .getPoisonList ld dpa len ∧ dpaKnown s ld dpa =
    true ∧ code = 0 ∧ data = [flag (decide (1024 < (poisonList s ld dpa len).length)), min 1024 (poisonList s ld dpa
    len).length] ++ (((poisonList s ld dpa len).take 1024).map (fun x => [x.1, x.2])).flatten) ∨ (∃ dpa len, (c =
    .getPoisonList ld dpa len ∨ c = .getScanMediaCapabilities ld dpa len ∨ c = .scanMedia ld dpa len) ∧ dpaKnown s ld dpa =
    false ∧ code = 2 ∧ data = []))) ∧
    (∃ (s : State) (ld : Nat), awake s ∧ beforeFirmware s = false ∧ ∃ dpa, dpaKnown s ld dpa = true) ∧
    (∃ (s : State) (ld : Nat), awake s ∧ beforeFirmware s = false ∧ ∃ (c : Instr) (code : Nat), ((∃ p, c =
    .setEventInterruptPolicy ld p ∧ p.length = 4 ∧ (∀ x ∈ p, x < 256 ∧ bits x 0 2 ≠ 3) ∧ code = 0) ∨ (∃ v, c = .setTimestamp
    ld v ∧ code = 0) ∨ (∃ th, c = .setAlertConfiguration ld th ∧ code = 0) ∨ (∃ dpa len, c = .scanMedia ld dpa len ∧ dpaKnown
    s ld dpa = true ∧ code = 1) ∨ (∃ log hs l, c = .clearEventRecords ld log true hs ∧ (ldOf s ld).logs[log]? = some l ∧ code
    = 0))) ∧
    (∃ (s : State) (ld : Nat) (dpa : Nat) (d : Nat) (sa : Nat), awake s ∧ beforeFirmware s = false ∧ dpaHit s ld dpa = some
    (d, sa) ∧ saNode sa = hubNode s ∧ ((s.boot.image.map (·.injectOk)).getD false = false ∨ saffronBound s = true)) ∧
    (∃ (s : State) (ld : Nat) (dpa : Nat) (d : Nat) (sa : Nat), awake s ∧ beforeFirmware s = false ∧ dpaHit s ld dpa = some
    (d, sa) ∧ saNode sa = hubNode s ∧ (s.boot.image.map (·.injectOk)).getD false = true ∧ saffronBound s = false ∧ (hdmOf s
    ld d).valid = true ∧ permits s (hdmOf s ld d).tenant (saOff sa / 64 * 64) 64 true = true ∧ rangeGone s (saOff sa / 64 *
    64) 64 = false) ∧
    (∃ (s : State) (ld : Nat) (dpa : Nat) (d : Nat) (sa : Nat), awake s ∧ beforeFirmware s = false ∧ dpaHit s ld dpa = some
    (d, sa) ∧ saNode sa = hubNode s ∧ ∃ (data : List Byte), data.length = 64 ∧ Memory.wf s.store.mem ∧ (hdmOf s ld d).valid =
    true ∧ permits s (hdmOf s ld d).tenant (saOff sa / 64 * 64) 64 true = true ∧ awaitsUnit s (saOff sa / 64 * 64) = false ∧
    localWriteStatus s (hdmOf s ld d).tenant (hubNode s) (saOff sa / 64 * 64) 64 = .ok ∧ touchesPublished s (saOff sa / 64 *
    64) 64 = false ∧ deepPages s (saOff sa / 64 * 64) 64 = [] ∧ linesToWrite s (saOff sa / 64 * 64) 64 = []) ∧
    (∃ (s : State) (ld : Nat), awake s ∧ ldUp s ld = true) :=
  ⟨⟨hub, 0, by decide, by decide, .getLog 0 false, 2, [], .inr (.inr (.inr (.inr (.inl ⟨rfl, rfl, rfl⟩))))⟩,
    ⟨hub, 0, by decide, by decide, 2 ^ 28 - 1, by decide⟩,
    ⟨hub, 0, by decide, by decide, .setTimestamp 0 5, 0, .inr (.inl ⟨5, rfl, rfl⟩)⟩,
    ⟨{ hub with boot := { hub.boot with image := some { img with injectOk := false } } }, 0, 0, 0, 0, by decide, by decide,
     by decide, by decide, by decide⟩,
    ⟨hub, 0, 64, 0, 64, by decide, by decide, by decide, by decide, by decide, by decide, by decide, by decide, by decide⟩,
    ⟨hub, 0, 64, 0, 64, by decide, by decide, by decide, by decide, zeros 64, by decide, by decide, by decide, by decide,
     by decide, by decide, by decide, by decide, by decide⟩,
    ⟨hub, 0, by decide, by decide⟩⟩

/-- The hypotheses of each clause of MailboxMessagesWaitAndReadbackReads can be met. -/
theorem test_witness_MailboxMessagesWaitAndReadbackReads :
    (∃ (s : State) (c : Instr) (who : Sender) (tag : Nat) (msg : Message), awake s ∧ asMessage c = some (who, tag, msg) ∧
    (mailboxOf s who).busy = true) ∧
    (∃ (s : State) (c : Instr) (who : Sender) (tag : Nat) (msg : Message), awake s ∧ asMessage c = some (who, tag, msg) ∧
    (mailboxOf s who).busy = false ∧ coreRuns s (servingCore (messageId msg)) = false) ∧
    (∃ (s : State) (ld : Nat) (address : Nat) (len : Nat) (freeze : Bool), awake s ∧ beforeFirmware s = false ∧ rbsReadOk s
    (.ld ld) address len 4096 freeze = true) ∧
    (∃ (s : State) (ld : Nat) (address : Nat) (len : Nat) (freeze : Bool), awake s ∧ beforeFirmware s = false ∧ rbsReadOk s
    (.ld ld) address len 4096 freeze = false) ∧
    (∃ (s : State) (ld : Nat) (level : Nat) (count : Nat) (first : Nat), awake s ∧ beforeFirmware s = false ∧ level < 4 ∧ 1 ≤
    count ∧ count ≤ 64) ∧
    (∃ (s : State) (ld : Nat) (level : Nat) (count : Nat) (first : Nat), awake s ∧ beforeFirmware s = false ∧ (4 ≤ level ∨
    count = 0 ∨ 64 < count)) ∧
    (∃ (s : State) (tag : Nat) (address : Nat) (len : Nat) (freeze : Bool), awake s ∧ (mailboxOf s .mgmt).busy = false ∧
    rbsReadOk s .mgmt address len 4072 freeze = true) ∧
    (∃ (s : State) (tag : Nat) (level : Nat) (count : Nat) (first : Nat), awake s ∧ (mailboxOf s .mgmt).busy = false ∧ level
    < 4 ∧ 1 ≤ count ∧ count ≤ 63) :=
  ⟨⟨{ hub with mailbox := [(64, { Mailbox.idle with busy := true })] }, .dirSet .mgmt 1 1, .mgmt, 1, .dirSet 1, by decide,
     by decide, by decide⟩,
    ⟨{ hub with power := { hub.power with cores := List.replicate 35 Core.empty } }, .dirSet .mgmt 1 1, .mgmt, 1, .dirSet 1,
     by decide, by decide, by decide, by decide⟩,
    ⟨hub, 0, 0, 4096, false, by decide, by decide, by decide⟩,
    ⟨hub, 0, 0, 4104, false, by decide, by decide, by decide⟩,
    ⟨hub, 0, 3, 64, 0, by decide, by decide, by decide, by decide, by decide⟩,
    ⟨hub, 0, 4, 1, 0, by decide, by decide, by decide⟩,
    ⟨hub, 1, 0, 4072, false, by decide, by decide, by decide⟩,
    ⟨hub, 1, 3, 63, 0, by decide, by decide, by decide, by decide, by decide⟩⟩

/-- The hypotheses of each clause of PageMessagesPlaceAndFreePages can be met. -/
theorem test_witness_PageMessagesPlaceAndFreePages :
    (∃ (s : State) (who : Sender) (tag : Nat) (tenant : Nat) (count : Nat) (flags : Nat) (format : Nat) (cls : Nat) (pub :
    Nat), awake s ∧ Taken s (.allocPages who tag tenant count flags format cls pub) ∧ mayActFor s who tenant = false) ∧
    (∃ (s : State) (who : Sender) (tag : Nat) (tenant : Nat) (count : Nat) (flags : Nat) (format : Nat) (cls : Nat) (pub :
    Nat), awake s ∧ Taken s (.allocPages who tag tenant count flags format cls pub) ∧ mayActFor s who tenant = true ∧ (count
    = 0 ∨ 512 < count ∨ 2 < cls)) ∧
    (∃ (s : State) (who : Sender) (tag : Nat) (tenant : Nat) (count : Nat) (flags : Nat) (format : Nat) (cls : Nat) (pub :
    Nat), awake s ∧ Taken s (.allocPages who tag tenant count flags format cls pub) ∧ mayActFor s who tenant = true ∧ 1 ≤
    count ∧ count ≤ 512 ∧ cls ≤ 2 ∧ withinCeiling s tenant (chooseTier s (bits flags 0 2) count) count = false) ∧
    (∃ (s : State) (who : Sender) (tag : Nat) (tenant : Nat) (count : Nat) (flags : Nat) (format : Nat) (cls : Nat) (pub :
    Nat), awake s ∧ Taken s (.allocPages who tag tenant count flags format cls pub) ∧ mayActFor s who tenant = true ∧ 1 ≤
    count ∧ count ≤ 512 ∧ cls ≤ 2 ∧ withinCeiling s tenant (chooseTier s (bits flags 0 2) count) count = true ∧ tierAvailable
    s (chooseTier s (bits flags 0 2) count) < count) ∧
    (∃ (s : State) (who : Sender) (tag : Nat) (tenant : Nat) (count : Nat) (flags : Nat) (format : Nat) (cls : Nat) (pub :
    Nat), awake s ∧ Taken s (.allocPages who tag tenant count flags format cls pub) ∧ mayActFor s who tenant = true ∧ 1 ≤
    count ∧ count ≤ 512 ∧ cls ≤ 2 ∧ withinCeiling s tenant (chooseTier s (bits flags 0 2) count) count = true ∧ count ≤
    tierAvailable s (chooseTier s (bits flags 0 2) count) ∧ Memory.wf s.store.mem) ∧
    (∃ (s : State) (who : Sender) (tag : Nat) (tenant : Nat) (count : Nat) (firstSa : Nat), awake s ∧ Taken s (.freePages who
    tag tenant count firstSa) ∧ s.store.waits = [] ∧ Memory.wf s.store.mem ∧ (∀ h ∈ s.store.held, h.1 < pageOf (saOff
    firstSa) ∨ pageOf (saOff firstSa) + count ≤ h.1) ∧ mayActFor s who tenant = true ∧ 1 ≤ count ∧ count ≤ 512 ∧ saWellFormed
    firstSa = true ∧ saNode firstSa = hubNode s ∧ saOff firstSa % Config.pageBytes = 0 ∧ (∀ i, i < count → ∃ p, Tbl.find
    s.store.pages (pageOf (saOff firstSa) + i) = some p ∧ p.owner = tenant)) ∧
    (∃ (s : State) (ticket : Nat) (w : AllocWait) (who : Sender) (tag : Nat) (tenant : Nat) (count : Nat) (flags : Nat)
    (format : Nat) (cls : Nat) (pub : Nat), awake s ∧ s.store.waits.find? (fun x => x.ticket == ticket) = some w ∧ w.ask =
    .pages who tag tenant count flags format cls pub ∧ mayActFor s who tenant = true ∧ 1 ≤ count ∧ count ≤ 512 ∧ cls ≤ 2 ∧
    allocStatus s tenant count (bits flags 0 2) = .quotaExceeded) :=
  ⟨⟨hub, (.ld 1), 1, 5, 1, 0, 0, 0, 0, by decide, ⟨(.ld 1), 1, .alloc 5 1 0 0 0 0, rfl, by decide, by decide⟩, by decide⟩,
    ⟨hub, .mgmt, 1, 5, 513, 0, 0, 0, 0, by decide, ⟨.mgmt, 1, .alloc 5 513 0 0 0 0, rfl, by decide, by decide⟩, by decide,
     by decide⟩,
    ⟨hub, .mgmt, 1, 5, 512, 0, 0, 0, 0, by decide, ⟨.mgmt, 1, .alloc 5 512 0 0 0 0, rfl, by decide, by decide⟩, by decide,
     by decide, by decide, by decide, by decide⟩,
    ⟨{ hub with units := { hub.units with hbm := List.replicate 8 false } }, (.ld 0), 1, 5, 1, 0, 0, 2, 0, by decide,
     ⟨(.ld 0), 1, .alloc 5 1 0 0 2 0, rfl, by decide, by decide⟩, by decide, by decide, by decide, by decide, by decide,
     by decide⟩,
    ⟨hub, (.ld 0), 1, 5, 96, 0, 0, 2, 0, by decide, ⟨(.ld 0), 1, .alloc 5 96 0 0 2 0, rfl, by decide, by decide⟩, by decide,
     by decide, by decide, by decide, by decide, by decide, by decide⟩,
    ⟨hub, .ld 0, 1, 5, 2, 2097152, by decide, ⟨_, _, .free 5 2 2097152, rfl, by decide, by decide⟩, by decide, by decide,
     by decide, by decide, by decide, by decide, by decide, by decide, by decide,
     by intro i hi; obtain rfl | rfl : i = 0 ∨ i = 1 := (by omega); exact ⟨page 5 .held 1, rfl, rfl⟩; exact ⟨page 5 .published 2, rfl, rfl⟩⟩,
    ⟨{ hub with store := { hub.store with waits := [{ ticket := 0, ask := .pages .mgmt 1 5 512 0 0 0 0 }] } }, 0,
     { ticket := 0, ask := .pages .mgmt 1 5 512 0 0 0 0 }, .mgmt, 1, 5, 512, 0, 0, 0, 0, by decide, by decide, by decide,
     by decide, by decide, by decide, by decide, by decide⟩⟩

/-- The hypotheses of each clause of SecurityMessagesBindUnlockAndWrite can be met. -/
theorem test_witness_SecurityMessagesBindUnlockAndWrite :
    (∃ (s : State) (ld : Nat) (tag : Nat) (tenant : Nat) (lines : Nat) (firstSa : Nat), awake s ∧ Taken s (.lineSalvage (.ld
    ld) tag tenant lines firstSa) ∧ boundTo s ld tenant = true ∧ saWellFormed firstSa = true ∧ saNode firstSa = hubNode s ∧
    lines ≠ 0 ∧ (∀ i ∈ pagesOf (saOff firstSa) (128 * lines), ∃ p, Tbl.find s.store.pages i = some p ∧ p.owner = tenant)) ∧
    (∃ (s : State) (who : Sender) (tag : Nat) (tenant : Nat) (pages : Nat) (firstSa : Nat) (r : BindingRecord), awake s ∧
    Taken s (.bindContent who tag tenant pages firstSa r) ∧ failedCheck s 5 r.object = none ∧ pages ≠ 0 ∧ r.namesHub = true ∧
    r.unwrapOk = true ∧ saWellFormed firstSa = true ∧ saNode firstSa = hubNode s ∧ saOff firstSa % Config.pageBytes = 0 ∧ (∀
    i, i < pages → ∃ p, Tbl.find s.store.pages (pageOf (saOff firstSa) + i) = some p ∧ p.owner = tenant) ∧ rangeBound s
    (pageOf (saOff firstSa)) pages = false ∧ s.sec.ranges.length < 1024) ∧
    (∃ (s : State) (who : Sender) (tag : Nat) (tenant : Nat) (pages : Nat) (firstSa : Nat) (r : BindingRecord), awake s ∧
    Taken s (.bindContent who tag tenant pages firstSa r) ∧ ∃ check, failedCheck s 5 r.object = some check ∧
    s.faults.rings.length = 4) ∧
    (∃ (s : State) (who : Sender) (tag : Nat) (tenant : Nat) (handle : Nat), awake s ∧ Taken s (.unbindContent who tag tenant
    handle) ∧ (∃ r ∈ s.sec.ranges, r.handle = handle ∧ r.tenant = tenant)) ∧
    (∃ (s : State) (who : Sender) (tag : Nat) (tenant : Nat) (handle : Nat), awake s ∧ Taken s (.unbindContent who tag tenant
    handle) ∧ (¬ ∃ r ∈ s.sec.ranges, r.handle = handle ∧ r.tenant = tenant)) ∧
    (∃ (s : State) (who : Sender) (tag : Nat) (k : DebugToken), awake s ∧ Taken s (.debugUnlock who tag k) ∧ failedCheck s 3
    k.object = none ∧ s.order.copies = [] ∧ tokenFits s k = true ∧ (k.level = 1 ∨ k.level = 2)) ∧
    (∃ (s : State) (who : Sender) (tag : Nat) (k : DebugToken), awake s ∧ Taken s (.debugUnlock who tag k) ∧ failedCheck s 3
    k.object = none ∧ s.order.copies = [] ∧ tokenFits s k = false) ∧
    (∃ (s : State), awake s ∧ s.sec.opening = true) ∧
    (∃ (s : State), awake s ∧ s.sec.opening = false) ∧
    (∃ (s : State) (who : Sender) (tag : Nat) (slot : Nat) (offset : Nat) (len : Nat) (sa : Nat), awake s ∧ Taken s
    (.imageWrite who tag slot offset len sa) ∧ hasAdmin s who = true ∧ slot < 2 ∧ offset % 4096 = 0 ∧ len % 4096 = 0 ∧ len ≠
    0 ∧ len ≤ 1048576 ∧ slot ≠ s.boot.slotUsed ∧ offset + len ≤ 31 * 1048576 ∧ saWellFormed sa = true ∧ saNode sa = hubNode s
    ∧ (∀ p ∈ pagesOf (saOff sa) len, Tbl.has s.store.pages p = true) ∧ rangeGone s (saOff sa) len = false ∧ rangePoison s
    (saOff sa) len = false) ∧
    (∃ (s : State) (who : Sender) (tag : Nat) (slot : Nat) (offset : Nat) (len : Nat) (sa : Nat), awake s ∧ Taken s
    (.imageWrite who tag slot offset len sa) ∧ hasAdmin s who = true ∧ slot < 2 ∧ offset % 4096 = 0 ∧ len % 4096 = 0 ∧ len ≠
    0 ∧ len ≤ 1048576 ∧ slot = s.boot.slotUsed) ∧
    (∃ (s : State) (who : Sender) (tag : Nat) (slot : Nat) (offset : Nat) (len : Nat) (sa : Nat), awake s ∧ Taken s
    (.imageWrite who tag slot offset len sa) ∧ hasAdmin s who = true ∧ slot < 2 ∧ offset % 4096 = 0 ∧ len % 4096 = 0 ∧ len ≠
    0 ∧ len ≤ 1048576 ∧ slot ≠ s.boot.slotUsed ∧ 31 * 1048576 < offset + len) ∧
    (∃ (s : State) (who : Sender) (tag : Nat) (active : Nat), awake s ∧ Taken s (.dirSet who tag active) ∧ hasAdmin s who =
    true ∧ s.boot.dir0.valid = true ∧ s.boot.dir1.valid = true) ∧
    (∃ (s : State) (who : Sender) (tag : Nat) (active : Nat), awake s ∧ Taken s (.dirSet who tag active) ∧ hasAdmin s who =
    false) :=
  ⟨⟨hub, 0, 1, 5, 1, 2097152, by decide, ⟨_, _, .salvage 5 1 2097152, rfl, by decide, by decide⟩, by decide, by decide,
     by decide, by decide,
     by intro i hi; obtain rfl : i = 1 := (by revert hi; decide +revert); exact ⟨page 5 .held 1, rfl, rfl⟩⟩,
    ⟨fused hub, .ld 0, 1, 5, 1, 0, { object := object 5, hash := 1, namesHub := true, unwrapOk := true, consumers := [] },
     by decide,
     ⟨_, _, .bindContent 5 1 0 { object := object 5, hash := 1, namesHub := true, unwrapOk := true, consumers := [] }, rfl, by decide, by decide⟩,
     by decide, by decide, by decide, by decide, by decide, by decide, by decide,
     by intro i hi; obtain rfl : i = 0 := (by omega); exact ⟨page 5 .plain 0, rfl, rfl⟩, by decide, by decide⟩,
    ⟨hub, .ld 0, 1, 5, 1, 0, { object := object 5, hash := 1, namesHub := true, unwrapOk := true, consumers := [] },
     by decide,
     ⟨_, _, .bindContent 5 1 0 { object := object 5, hash := 1, namesHub := true, unwrapOk := true, consumers := [] }, rfl, by decide, by decide⟩,
     1, by decide, by decide⟩,
    ⟨{ hub with sec := { hub.sec with ranges := [{ handle := 3, tenant := 5, first := 0, pages := 1, hash := 1, consumers := [] }] } },
     .ld 0, 1, 5, 3, by decide, ⟨_, _, .unbindContent 5 3, rfl, by decide, by decide⟩, by decide⟩,
    ⟨hub, .ld 0, 1, 5, 3, by decide, ⟨_, _, .unbindContent 5 3, rfl, by decide, by decide⟩, by decide⟩,
    ⟨fused hub, .mgmt, 1,
     { object := object 3, deviceId := Config.deviceId, nonce := Config.nonce 0, level := 1, expires := 1 }, by decide,
     ⟨_, _, .debugUnlock ({ object := object 3, deviceId := Config.deviceId, nonce := Config.nonce 0, level := 1, expires := 1 }), rfl, by decide, by decide⟩,
     by decide, by decide, by simp [tokenFits, fused, hub, State.reset], by decide⟩,
    ⟨fused hub, .mgmt, 1,
     { object := object 3, deviceId := Config.deviceId, nonce := Config.nonce 0, level := 1, expires := 0 }, by decide,
     ⟨_, _, .debugUnlock ({ object := object 3, deviceId := Config.deviceId, nonce := Config.nonce 0, level := 1, expires := 0 }), rfl, by decide, by decide⟩,
     by decide, by decide, by simp [tokenFits, fused, hub, State.reset]⟩,
    ⟨{ hub with sec := { hub.sec with opening := true } }, by decide, by decide⟩,
    ⟨hub, by decide, by decide⟩,
    ⟨hub, .mgmt, 1, 1, 31 * 1048576 - 4096, 4096, 0, by decide,
     ⟨_, _, .imageWrite 1 (31 * 1048576 - 4096) 4096 0, rfl, by decide, by decide⟩, by decide, by decide, by decide,
     by decide, by decide, by decide, by decide, by decide, by decide, by decide, by decide, by decide, by decide⟩,
    ⟨hub, .mgmt, 1, 0, 0, 4096, 0, by decide, ⟨_, _, .imageWrite 0 0 4096 0, rfl, by decide, by decide⟩, by decide,
     by decide, by decide, by decide, by decide, by decide, by decide⟩,
    ⟨hub, .mgmt, 1, 1, 31 * 1048576, 4096, 0, by decide,
     ⟨_, _, .imageWrite 1 (31 * 1048576) 4096 0, rfl, by decide, by decide⟩, by decide, by decide, by decide, by decide,
     by decide, by decide, by decide, by decide⟩,
    ⟨hub, .mgmt, 1, 1, by decide, ⟨_, _, .dirSet 1, rfl, by decide, by decide⟩, by decide, by decide, by decide⟩,
    ⟨hub, .ld 1, 1, 1, by decide, ⟨_, _, .dirSet 1, rfl, by decide, by decide⟩, by decide⟩⟩

/-- The hypotheses of each clause of SecurityCoreAnswersSpdmAndJtag can be met. -/
theorem test_witness_SecurityCoreAnswersSpdmAndJtag :
    (∃ (s : State) (who : Sender), awake s ∧ spdmCarried s who = true ∧ (coreAt s securityCore).run = .running ∧ ∃ (c :
    Instr) (code : Nat) (data : _) (p' : _), ((c = .getVersion who ∧ code = 0x04 ∧ data = [0x12] ∧ p' =
    { (peerOf s who) with negotiated := false, transcript := none }) ∨ (c = .getCapabilities who ∧ code = 0x61 ∧ data =
    [25590] ∧ p' = (peerOf s who)) ∨ (c = .negotiateAlgorithms who true ∧ code = 0x63 ∧ data = [1, 2, 3, 4, 5] ∧ p' =
    { (peerOf s who) with negotiated := true }) ∨ (c = .negotiateAlgorithms who false ∧ code = 0x63 ∧ data = [] ∧ p' =
    { (peerOf s who) with negotiated := false }) ∨ (∃ slot, 3 ≤ slot ∧ c = .getCertificate who slot ∧ code = 0x7F ∧ data =
    [1] ∧ p' = (peerOf s who)) ∨ (∃ slot x, 2 ≤ slot ∧ c = .challenge who slot x ∧ code = 0x7F ∧ data = [1] ∧ p' = (peerOf s
    who)) ∨ (∃ m, (peerOf s who).negotiated = false ∧ c = .keyExchange who m ∧ code = 0x7F ∧ data = [4] ∧ p' = (peerOf s
    who)) ∨ (∃ m, (peerOf s who).negotiated = true ∧ sessionLimit who ≤ (peerOf s who).sessions + (peerOf s who).handshakes ∧
    c = .keyExchange who m ∧ code = 0x7F ∧ data = [3] ∧ p' = (peerOf s who)) ∨ (∃ ok, (peerOf s who).handshakes = 0 ∧ c =
    .finish who ok ∧ code = 0x7F ∧ data = [4] ∧ p' = (peerOf s who)) ∨ ((peerOf s who).handshakes ≠ 0 ∧ c = .finish who true
    ∧ code = 0x65 ∧ data = [] ∧ p' =
    { (peerOf s who) with handshakes := (peerOf s who).handshakes - 1, sessions := (peerOf s who).sessions + 1 }) ∨ ((peerOf
    s who).handshakes ≠ 0 ∧ c = .finish who false ∧ code = 0x7F ∧ data = [5] ∧ p' =
    { (peerOf s who) with handshakes := (peerOf s who).handshakes - 1 }) ∨ ((peerOf s who).sessions = 0 ∧ (c = .keyUpdate who
    none ∨ c = .spdmHeartbeat who ∨ c = .endSession who) ∧ code = 0x7F ∧ data = [4] ∧ p' = (peerOf s who)) ∨ ((peerOf s
    who).sessions ≠ 0 ∧ c = .keyUpdate who none ∧ code = 0x69 ∧ data = [] ∧ p' =
    { (peerOf s who) with keyUpdates := (peerOf s who).keyUpdates + 1 }) ∨ ((peerOf s who).sessions ≠ 0 ∧ c = .spdmHeartbeat
    who ∧ code = 0x68 ∧ data = [] ∧ p' = (peerOf s who)) ∨ ((peerOf s who).sessions ≠ 0 ∧ c = .endSession who ∧ code = 0x6C ∧
    data = [] ∧ p' = { (peerOf s who) with sessions := (peerOf s who).sessions - 1 }) ∨ ((peerOf s who).transcript = none ∧ c
    = .getLmsSignature who ∧ code = 0x7F ∧ data = [4] ∧ p' = (peerOf s who)))) ∧
    (∃ (s : State) (who : Sender), awake s ∧ spdmCarried s who = true ∧ (coreAt s securityCore).run = .running ∧ ∃ slot, slot
    < 3) ∧
    (∃ (s : State) (who : Sender), awake s ∧ spdmCarried s who = true ∧ (coreAt s securityCore).run = .running ∧ ∃ slot, slot
    < 2) ∧
    (∃ (s : State) (who : Sender), awake s ∧ spdmCarried s who = true ∧ (coreAt s securityCore).run = .running ∧ (peerOf s
    who).negotiated = true ∧ (peerOf s who).sessions + (peerOf s who).handshakes < sessionLimit who) ∧
    (∃ (s : State) (who : Sender), awake s ∧ spdmCarried s who = true ∧ (coreAt s securityCore).run = .running ∧ ∃ x, (peerOf
    s who).transcript = some x ∧ ∃ leaf, s.sec.lmsSigned.find? (fun e => e.1 == x) = some (x, leaf)) ∧
    (∃ (s : State) (who : Sender), awake s ∧ spdmCarried s who = true ∧ (coreAt s securityCore).run = .running ∧ ∃ x, (peerOf
    s who).transcript = some x ∧ s.sec.lmsSigned.find? (fun e => e.1 == x) = none ∧ s.sec.nextLeaf < 2 ^ 40) ∧
    (∃ (s : State) (who : Sender), awake s ∧ spdmCarried s who = true ∧ (coreAt s securityCore).run = .running ∧ ∃ x, (peerOf
    s who).transcript = some x ∧ s.sec.lmsSigned.find? (fun e => e.1 == x) = none ∧ 2 ^ 40 ≤ s.sec.nextLeaf) ∧
    (∃ (s : State) (c : Instr) (who : Sender), awake s ∧ asSpdm c = some who ∧ spdmCarried s who = true ∧ (coreAt s
    securityCore).run = .restarting) ∧
    (∃ (s : State) (c : Instr) (who : Sender), awake s ∧ asSpdm c = some who ∧ spdmCarried s who = true ∧ (coreAt s
    securityCore).run = .failed) ∧
    (∃ (s : State) (c : Instr) (who : Sender), awake s ∧ asSpdm c = some who ∧ (spdmCarried s who = false ∨ (coreAt s
    securityCore).run = .notLoaded)) ∧
    (∃ (s : State) (who : Sender) (port : Nat), awake s ∧ coreRuns s securityCore = true ∧ port < s.fabric.ports.length ∧
    (portOf s port).up = true ∧ (portOf s port).encrypted = true) ∧
    (∃ (s : State) (c : Instr) (code : Nat) (taken : Bool), s.pins.pwrGood = true ∧ ((c = .bypass ∧ code = 0 ∧ taken = true)
    ∨ (c = .idcode ∧ code = 1 ∧ taken = true) ∨ (c = .samplePreload ∧ code = 2 ∧ taken = !s.sec.saffronOn) ∨ ((c = .extest ∧
    code = 3 ∨ c = .clamp ∧ code = 4 ∨ c = .highz ∧ code = 5) ∧ taken = (!s.pins.released && !s.sec.saffronOn)))) :=
  ⟨⟨{ hub with sec := { hub.sec with spdm := [(64, { SpdmPeer.fresh with negotiated := true, sessions := 16 })] } }, .mgmt,
     by decide, by decide, by decide, .keyExchange .mgmt true, 0x7F, [3],
     { SpdmPeer.fresh with negotiated := true, sessions := 16 },
     .inr (.inr (.inr (.inr (.inr (.inr (.inr (.inl ⟨true, by decide, by decide, rfl, rfl, rfl, rfl⟩)))))))⟩,
    ⟨hub, .mgmt, by decide, by decide, by decide, 2, by decide⟩,
    ⟨hub, .mgmt, by decide, by decide, by decide, 1, by decide⟩,
    ⟨{ hub with sec := { hub.sec with spdm := [(64, { SpdmPeer.fresh with negotiated := true, sessions := 15 })] } }, .mgmt,
     by decide, by decide, by decide, by decide, by decide⟩,
    ⟨{ hub with sec := { hub.sec with lmsSigned := [(7, 2)], spdm := [(64, { SpdmPeer.fresh with transcript := some 7 })] } },
     .mgmt, by decide, by decide, by decide, 7, by decide, 2, by decide⟩,
    ⟨{ hub with sec := { hub.sec with spdm := [(64, { SpdmPeer.fresh with transcript := some 7 })] } }, .mgmt, by decide,
     by decide, by decide, 7, by decide, by decide, by decide⟩,
    ⟨{ hub with sec := { hub.sec with nextLeaf := 2 ^ 40, spdm := [(64, { SpdmPeer.fresh with transcript := some 7 })] } },
     .mgmt, by decide, by decide, by decide, 7, by decide, by decide, by decide⟩,
    ⟨{ hub with power := { hub.power with cores := { core with run := .restarting } :: List.replicate 34 core } },
     .getVersion .mgmt, .mgmt, by decide, by decide, by decide, by decide⟩,
    ⟨{ hub with power := { hub.power with cores := { core with run := .failed } :: List.replicate 34 core } },
     .getVersion .mgmt, .mgmt, by decide, by decide, by decide, by decide⟩,
    ⟨hub, .getVersion (.ld 63), .ld 63, by decide, by decide, by decide⟩,
    ⟨{ net with fabric := { net.fabric with ports := { IflPort.down with up := true, lanes := 15, partner := 1, encrypted := true } :: List.replicate 11 IflPort.down } },
     .mgmt, 0, by decide, by decide, by decide, by decide, by decide⟩,
    ⟨hub, .extest, 3, false, by decide, .inr (.inr (.inr ⟨.inl ⟨rfl, rfl⟩, by decide⟩))⟩⟩

/-- The hypotheses of each clause of CxlMemRequestsAndDecoders can be met. -/
theorem test_witness_CxlMemRequestsAndDecoders :
    (∃ (s : State) (ld : Nat) (tag : Nat) (hpa : Nat) (d : Nat) (sa : Nat) (len : Nat), awake s ∧ linkTakes s ld = true ∧
    beforeFirmware s = false ∧ hpaHit s ld hpa = some (d, sa) ∧ (hdmOf s ld d).valid = true ∧ saNode sa = hubNode s ∧
    cxlRequest s ld tag = none ∧ awaitsUnit s (saOff sa) = false ∧ localReadStatus s (hdmOf s ld d).tenant (saOff sa) len =
    .ok ∧ linesToRead s (saOff sa) len = []) ∧
    (∃ (s : State) (ld : Nat) (tag : Nat) (hpa : Nat) (d : Nat) (sa : Nat) (data : List Byte), awake s ∧ linkTakes s ld =
    true ∧ beforeFirmware s = false ∧ hpaHit s ld hpa = some (d, sa) ∧ (hdmOf s ld d).valid = true ∧ saNode sa = hubNode s ∧
    cxlRequest s ld tag = none ∧ Memory.wf s.store.mem ∧ awaitsUnit s (saOff sa) = false ∧ localWriteStatus s (hdmOf s ld
    d).tenant (hubNode s) (saOff sa) data.length = .ok ∧ touchesPublished s (saOff sa) data.length = false ∧ deepPages s
    (saOff sa) data.length = [] ∧ linesToWrite s (saOff sa) data.length = []) ∧
    (∃ (s : State) (ld : Nat) (tag : Nat) (hpa : Nat) (len : Nat) (data : List Byte) (poison : Bool) (cell : CellEvent),
    awake s ∧ linkTakes s ld = true ∧ beforeFirmware s = false ∧ hpaHit s ld hpa = none ∧ cxlRequest s ld tag = none) ∧
    (∃ (s : State) (ld : Nat) (tag : Nat) (hpa : Nat) (d : Nat) (sa : Nat) (len : Nat) (data : List Byte) (cell : CellEvent),
    awake s ∧ linkTakes s ld = true ∧ beforeFirmware s = false ∧ hpaHit s ld hpa = some (d, sa) ∧ (hdmOf s ld d).valid = true
    ∧ saNode sa ≠ hubNode s ∧ reachable s (saNode sa) = true) ∧
    (∃ (s : State) (ld : Nat) (tag : Nat), awake s ∧ ∃ r, cxlRequest s ld tag = some r ∧ r.dropped = false ∧
    s.faults.rings.length = 4) ∧
    (∃ (s : State) (ld : Nat) (tag : Nat), awake s ∧ cxlRequest s ld tag = none) ∧
    (∃ (s : State) (ld : Nat) (decoder : Nat) (x : DecoderSetup), awake s ∧ ∃ old, Tbl.find (decodersOf s ld) decoder = some
    old ∧ old.locked = true) ∧
    (∃ (s : State) (ld : Nat) (decoder : Nat) (x : DecoderSetup), awake s ∧ (∀ old, Tbl.find (decodersOf s ld) decoder = some
    old → old.locked = false)) :=
  ⟨⟨hub, 0, 1, 2 ^ 32 + 2 ^ 21 - 64, 0, 2 ^ 21 - 64, 64, by decide, by decide, by decide, by decide, by decide, by decide,
     by decide, by decide, by decide, by decide⟩,
    ⟨hub, 0, 1, 2 ^ 32, 0, 0, zeros 64, by decide, by decide, by decide, by decide, by decide, by decide, by decide,
     by decide, by decide, by decide, by decide, by decide, by decide⟩,
    ⟨hub, 0, 1, 2 ^ 32 - 64, 64, zeros 64, false, .clean, by decide, by decide, by decide, by decide, by decide⟩,
    ⟨{ net with comp := { net.comp with live := { net.comp.live with hdm := [(0, { saBase := 0, target := 1, tenant := 5, valid := true })] } } },
     0, 1, 2 ^ 32, 0, 2 ^ 48, 64, zeros 64, .clean, by decide, by decide, by decide, by decide, by decide, by decide,
     by decide⟩,
    ⟨{ hub with cxl := { hub.cxl with requests := [{ tag := 1, ld := 0, write := false, dpa := 0, len := 64, dropped := false }] } },
     0, 1, by decide, { tag := 1, ld := 0, write := false, dpa := 0, len := 64, dropped := false }, by decide, by decide,
     by decide⟩,
    ⟨hub, 0, 1, by decide, by decide⟩,
    ⟨{ hub with cxl := { hub.cxl with lds := [(0, { LogicalDevice.reset with decoders := [(0, { dpaBase := 0, base := 2 ^ 32, size := 2 ^ 28, ways := 1, gran := 256, position := 0, skip := 0, locked := true })] })] } },
     0, 0,
     { commit := true, base := 2 ^ 33, size := 2 ^ 28, ways := 1, gran := 256, position := 0, skip := 0, lock := true },
     by decide,
     { dpaBase := 0, base := 2 ^ 32, size := 2 ^ 28, ways := 1, gran := 256, position := 0, skip := 0, locked := true },
     by decide, by decide⟩,
    ⟨hub, 0, 1,
     { commit := true, base := 2 ^ 33, size := 2 ^ 28, ways := 1, gran := 256, position := 0, skip := 0, lock := true },
     by decide, fun old h => by have h : none = some old := h; cases h⟩⟩

/-- The hypotheses of each clause of CxlPortEventsTakeEffect can be met. -/
theorem test_witness_CxlPortEventsTakeEffect :
    (∃ (s : State) (link : Nat), awake s ∧ link < s.cxl.links.length ∧ (cxlLink s link).up = false) ∧
    (∃ (s : State) (link : Nat), awake s ∧ link < s.cxl.links.length ∧ (cxlLink s link).up = true) ∧
    (∃ (s : State) (link : Nat), awake s ∧ link < s.cxl.links.length) ∧
    (∃ (s : State) (port : Nat), s.pins.pwrGood = true ∧ s.pins.hubResetN = false) ∧
    (∃ (s : State) (port : Nat), awake s ∧ 2 * port + 1 < s.cxl.links.length) ∧
    (∃ (s : State) (ld : Nat) (c : Instr), awake s ∧ (c = .functionLevelReset ld ∨ c = .cxlReset ld)) ∧
    (∃ (s : State) (link : Nat), awake s ∧ link < s.cxl.links.length ∧ (cxlLink s link).up = true) ∧
    (∃ (s : State) (link : Nat), awake s ∧ link < s.cxl.links.length ∧ (cxlLink s link).up = false) ∧
    (∃ (s : State) (tag : Nat) (c : Instr) (st : Status) (data : Nat → List Byte), awake s ∧ ((∃ b, c = .cxlIoCompletion tag
    (.data b) ∧ st = .ok ∧ data = fun n => exactly n b) ∨ (c = .cxlIoCompletion tag .unsupportedOrAbort ∧ st = .permission ∧
    data = ones) ∨ (c = .cxlIoCompletion tag .poisoned ∧ st = .poison ∧ data = ones) ∨ (c = .cxlIoTimeout tag ∧ st =
    .nodeUnreachable ∧ data = ones)) ∧ txOf s tag = none) ∧
    (∃ (s : State) (tag : Nat) (c : Instr) (st : Status) (data : Nat → List Byte), awake s ∧ ((∃ b, c = .cxlIoCompletion tag
    (.data b) ∧ st = .ok ∧ data = fun n => exactly n b) ∨ (c = .cxlIoCompletion tag .unsupportedOrAbort ∧ st = .permission ∧
    data = ones) ∨ (c = .cxlIoCompletion tag .poisoned ∧ st = .poison ∧ data = ones) ∨ (c = .cxlIoTimeout tag ∧ st =
    .nodeUnreachable ∧ data = ones)) ∧ ∃ o q n ld w, txOf s tag = some o ∧ o.await = .hostRead q n ld ∧ workOf s q n = some
    w) ∧
    (∃ (s : State) (link : Nat), awake s ∧ link < s.cxl.links.length ∧ ((cxlLink s link).up = false ∨ (cxlLink s link).ide =
    false)) ∧
    (∃ (s : State) (link : Nat), awake s ∧ link < s.cxl.links.length ∧ (cxlLink s link).up = true ∧ (cxlLink s link).ide =
    true ∧ s.faults.rings.length = 4 ∧ (s.cxl.requests.map (fun r => (r.ld, r.tag))).Nodup) ∧
    (∃ (s : State) (link : Nat), awake s ∧ link < s.cxl.links.length ∧ (coreRuns s securityCore = false ∨ (cxlLink s link).up
    = false ∨ ((cxlLink s link).broken = true ∧ (cxlLink s link).resetSince = false))) ∧
    (∃ (s : State) (link : Nat), awake s ∧ link < s.cxl.links.length ∧ coreRuns s securityCore = true ∧ (cxlLink s link).up =
    true ∧ ((cxlLink s link).broken = false ∨ (cxlLink s link).resetSince = true) ∧ (cxlLink s link).keyed = false) ∧
    (∃ (s : State) (link : Nat), awake s ∧ link < s.cxl.links.length ∧ coreRuns s securityCore = true ∧ (cxlLink s link).up =
    true ∧ ((cxlLink s link).broken = false ∨ (cxlLink s link).resetSince = true) ∧ (cxlLink s link).keyed = true) :=
  ⟨⟨hub, 7, by decide, by decide, by decide⟩,
    ⟨hub, 0, by decide, by decide, by decide⟩,
    ⟨hub, 7, by decide, by decide⟩,
    ⟨{ hub with pins := { hub.pins with hubResetN := false } }, 3, by decide, by decide⟩,
    ⟨hub, 3, by decide, by decide⟩,
    ⟨hub, 0, .cxlReset 0, by decide, by decide⟩,
    ⟨hub, 0, by decide, by decide, by decide⟩,
    ⟨hub, 7, by decide, by decide, by decide⟩,
    ⟨hub, 9, .cxlIoTimeout 9, .nodeUnreachable, ones, by decide, .inr (.inr (.inr ⟨rfl, rfl, rfl⟩)), by decide⟩,
    ⟨busy (sent hub (.hostRead 3 0 0)) (work 0 (desc 1)), 9, .cxlIoCompletion 9 .poisoned, .poison, ones, by decide,
     .inr (.inr (.inl ⟨rfl, rfl, rfl⟩)),
     { tag := 9, node := 1, await := .hostRead 3 0 0, tenant := 5, addr := 0, len := 4, stale := false }, 3, 0, 0,
     work 0 (desc 1), by decide, by decide, by decide⟩,
    ⟨hub, 0, by decide, by decide, by decide⟩,
    ⟨{ hub with cxl := { hub.cxl with links := { CxlLink.down with up := true, ide := true } :: List.replicate 7 CxlLink.down } },
     0, by decide, by decide, by decide, by decide, by decide, by decide⟩,
    ⟨{ hub with cxl := { hub.cxl with links := { CxlLink.down with up := true, broken := true } :: List.replicate 7 CxlLink.down } },
     0, by decide, by decide, by decide⟩,
    ⟨hub, 0, by decide, by decide, by decide, by decide, by decide, by decide⟩,
    ⟨{ hub with cxl := { hub.cxl with links := { CxlLink.down with up := true, keyed := true, broken := true, resetSince := true } :: List.replicate 7 CxlLink.down } },
     0, by decide, by decide, by decide, by decide, by decide, by decide⟩⟩

/-- The hypotheses of each clause of FailedUnitsLeaveService can be met. -/
theorem test_witness_FailedUnitsLeaveService :
    (∃ (s : State) (link : Nat), awake s ∧ s.faults.rings.length = 4 ∧ ∃ n, s.units.d2d[link]? = some (n + 1)) ∧
    (∃ (s : State) (link : Nat), awake s ∧ s.faults.rings.length = 4 ∧ (s.units.d2d[link]?).getD 0 = 0) ∧
    (∃ (s : State) (channel : Nat) (pages : List Nat), awake s ∧ (s.store.pages.map (·.1)).Nodup) ∧
    (∃ (s : State) (kind : UnitKind) (unit : Nat) (cell : Nat) (cause : Nat), awake s ∧ (s.store.pages.map (·.1)).Nodup ∧
    (hasCell kind unit cell = false ∨ (kind, unit, cell) ∈ s.units.retired) ∧ s.boot.readyN = true) ∧
    (∃ (s : State) (kind : UnitKind) (unit : Nat) (cell : Nat) (cause : Nat), awake s ∧ (s.store.pages.map (·.1)).Nodup ∧
    hasCell kind unit cell = true ∧ (kind, unit, cell) ∉ s.units.retired ∧ s.store.held = []) ∧
    (∃ (s : State) (kind : UnitKind) (unit : Nat), awake s ∧ (s.store.pages.map (·.1)).Nodup ∧ blockIn s kind unit = false ∧
    s.boot.readyN = true) ∧
    (∃ (s : State) (kind : UnitKind) (unit : Nat), awake s ∧ (s.store.pages.map (·.1)).Nodup ∧ kind = .cluster ∧ clusterIn s
    unit = true) ∧
    (∃ (s : State) (kind : UnitKind) (unit : Nat), awake s ∧ (s.store.pages.map (·.1)).Nodup ∧ ∃ tier, kindTier kind = some
    tier ∧ unitIn s tier unit = true ∧ s.store.held = []) ∧
    (∃ (s : State) (k : Nat), awake s ∧ (s.store.pages.map (·.1)).Nodup ∧ (4 ≤ k ∨ k ∈ s.units.regionsOut) ∧ s.boot.readyN =
    true) ∧
    (∃ (s : State) (k : Nat), awake s ∧ (s.store.pages.map (·.1)).Nodup ∧ k < 4 ∧ k ∉ s.units.regionsOut ∧ s.store.held = []) ∧
    (∃ (s : State) (die : Nat), awake s ∧ (2 ≤ die ∨ die ∈ s.units.eDiesOut) ∧ s.boot.readyN = true) ∧
    (∃ (s : State) (die : Nat), awake s ∧ die < 2 ∧ die ∉ s.units.eDiesOut) ∧
    (∃ (s : State), awake s) ∧
    (∃ (s : State) (kind : UnitKind) (port : Nat) (cause : Nat), awake s ∧ portBlockIn s kind port = false ∧ s.boot.readyN =
    true) ∧
    (∃ (s : State) (kind : UnitKind) (port : Nat) (cause : Nat), awake s ∧ portBlockIn s kind port = true ∧ (kind = .ifl →
    port < s.fabric.ports.length)) :=
  ⟨⟨hub, 10, by decide, by decide, 7, by decide⟩,
    ⟨{ hub with units := { hub.units with d2d := [0] } }, 0, by decide, by decide, by decide⟩,
    ⟨hub, 31, [0], by decide, by decide⟩,
    ⟨hub, .hbm, 7, 64, 0, by decide, by decide, by decide, by decide⟩,
    ⟨hub, .flash, 31, 5, 0, by decide, by decide, by decide, by decide, by decide⟩,
    ⟨hub, .cluster, 32, by decide, by decide, by decide, by decide⟩,
    ⟨hub, .cluster, 31, by decide, by decide, by decide, by decide⟩,
    ⟨hub, .flash, 31, by decide, by decide, .deep, by decide, by decide, by decide⟩,
    ⟨hub, 4, by decide, by decide, by decide, by decide⟩,
    ⟨hub, 3, by decide, by decide, by decide, by decide, by decide⟩,
    ⟨hub, 2, by decide, by decide, by decide⟩,
    ⟨hub, 1, by decide, by decide, by decide⟩,
    ⟨hub, by decide⟩,
    ⟨hub, .cxl, 4, 0, by decide, by decide, by decide⟩,
    ⟨hub, .ifl, 11, 0, by decide, by decide, by decide⟩⟩

/-- The hypotheses of each clause of FirmwareFetchFollowsItsSteps can be met. -/
theorem test_witness_FirmwareFetchFollowsItsSteps :
    (∃ (s : State) (address : Nat), awake s ∧ s.boot.readyN = true ∧ s.boot.fwPhase ≠ 1) ∧
    (∃ (s : State) (address : Nat), awake s ∧ s.boot.readyN = true ∧ s.boot.fwPhase = 1) ∧
    (∃ (s : State) (c : Instr) (phases : List Nat) (error : Nat), awake s ∧ s.faults.rings.length = 4 ∧ (c, phases, error) ∈
    [(Instr.noLease, [1], 1), (.tftpTimeout, [2, 3], 3), (.tftpError, [2, 3], 2)] ∧ s.boot.fwPhase ∉ phases) ∧
    (∃ (s : State) (c : Instr) (phases : List Nat) (error : Nat), awake s ∧ s.faults.rings.length = 4 ∧ (c, phases, error) ∈
    [(Instr.noLease, [1], 1), (.tftpTimeout, [2, 3], 3), (.tftpError, [2, 3], 2)] ∧ s.boot.fwPhase ∈ phases) ∧
    (∃ (s : State) (block : Nat), awake s ∧ (¬ (transferring s = true ∧ block % 65536 = (s.boot.blocks + 1) % 65536))) ∧
    (∃ (s : State) (block : Nat), awake s ∧ transferring s = true ∧ block % 65536 = (s.boot.blocks + 1) % 65536) ∧
    (∃ (s : State) (cls : Nat) (file : FwFile), awake s ∧ s.boot.readyN = true ∧ s.faults.rings.length = 4 ∧ (transferring s
    = false ∨ cls ≠ s.boot.fwAccepted.length)) ∧
    (∃ (s : State) (cls : Nat) (file : FwFile), awake s ∧ s.boot.readyN = true ∧ s.faults.rings.length = 4 ∧ transferring s =
    true ∧ cls = s.boot.fwAccepted.length ∧ cls ≤ 4 ∧ (cls ≠ 0 ∧ (file.sizeOk = false ∨ file.hashOk = false) ∨ (failedCheck s
    (fileType cls) file.object).isSome)) ∧
    (∃ (s : State) (cls : Nat) (file : FwFile), awake s ∧ s.boot.readyN = true ∧ s.faults.rings.length = 4 ∧ transferring s =
    true ∧ cls = s.boot.fwAccepted.length ∧ cls ≤ 4 ∧ cls = 0 ∧ failedCheck s 2 file.object = none) ∧
    (∃ (s : State) (cls : Nat) (file : FwFile), awake s ∧ s.boot.readyN = true ∧ s.faults.rings.length = 4 ∧ transferring s =
    true ∧ cls = s.boot.fwAccepted.length ∧ cls ≤ 4 ∧ cls ≠ 0 ∧ file.sizeOk = true ∧ file.hashOk = true ∧ failedCheck s
    (fileType cls) file.object = none) ∧
    (∃ (s : State), awake s ∧ s.boot.fwPhase ≠ 5) ∧
    (∃ (s : State), awake s ∧ s.boot.fwPhase = 5) ∧
    (∃ (s : State), awake s ∧ (¬ ((s.boot.image.any (·.svnAuto)) = true ∧ ∀ i, i < 128 → namesInService s i = true → readyBit
    s i = true))) ∧
    (∃ (s : State), awake s ∧ ((s.boot.image.any (·.svnAuto)) = true ∧ ∀ i, i < 128 → namesInService s i = true → readyBit s
    i = true)) :=
  ⟨⟨{ hub with boot := { hub.boot with fwPhase := 2 } }, 5, by decide, by decide, by decide⟩,
    ⟨{ hub with boot := { hub.boot with fwPhase := 1 } }, 5, by decide, by decide, by decide⟩,
    ⟨{ hub with boot := { hub.boot with fwPhase := 2 } }, .noLease, [1], 1, by decide, by decide, by decide, by decide⟩,
    ⟨{ hub with boot := { hub.boot with fwPhase := 3 } }, .tftpError, [2, 3], 2, by decide, by decide, by decide, by decide⟩,
    ⟨{ hub with boot := { hub.boot with fwPhase := 2 } }, 2, by decide, by decide⟩,
    ⟨{ hub with boot := { hub.boot with fwPhase := 2 } }, 1, by decide, by decide, by decide⟩,
    ⟨fetching [], 1, fwFile 2 true, by decide, by decide, by decide, by decide⟩,
    ⟨fetching [0], 1, fwFile 4 false, by decide, by decide, by decide, by decide, by decide, by decide, by decide⟩,
    ⟨fetching [], 0, fwFile 2 true, by decide, by decide, by decide, by decide, by decide, by decide, by decide, by decide⟩,
    ⟨fetching [0, 1, 2, 3], 4, fwFile 2 true, by decide, by decide, by decide, by decide, by decide, by decide, by decide,
     by decide, by decide, by decide⟩,
    ⟨{ hub with boot := { hub.boot with fwPhase := 4 } }, by decide, by decide⟩,
    ⟨{ hub with boot := { hub.boot with fwPhase := 5 } }, by decide, by decide⟩,
    ⟨{ hub with boot := { hub.boot with image := none } }, by decide, by decide⟩,
    ⟨hub, by decide, by decide⟩⟩

/-- The hypotheses of each clause of StartUpChecksSlotsAndUnits can be met. -/
theorem test_witness_StartUpChecksSlotsAndUnits :
    (∃ (s : State) (straps : Nat) (board : Board), s.pins.pwrGood = true) ∧
    (∃ (s : State) (straps : Nat) (board : Board), s.pins.pwrGood = false) ∧
    (∃ (s : State) (slotB : Bool) (read : SlotRead), awake s ∧ (s.boot.state ≠ 0 ∨ flag slotB ≠ nextSlot s)) ∧
    (∃ (s : State) (slotB : Bool) (read : SlotRead), awake s ∧ s.boot.state = 0 ∧ flag slotB = nextSlot s ∧ (slotResult s
    read).1 ≠ 1 ∧ s.faults.rings.length = 4) ∧
    (∃ (s : State) (slotB : Bool) (read : SlotRead), awake s ∧ s.boot.state = 0 ∧ flag slotB = nextSlot s ∧ ∃ o i, read =
    .object o i ∧ (slotResult s read).1 = 1) ∧
    (∃ (s : State) (unit : ReadyUnit) (k : UnitKind) (tier : Tier) (u : Nat) (bit : Nat), awake s ∧ (unit, k, tier, bit) ∈
    [(ReadyUnit.hbm u, UnitKind.hbm, Tier.near, 16 + u), (.ddr u, .ddr, .far, 24 + u), (.flash u, .flash, .deep, 36 + u)] ∧ u
    < tierUnits tier ∧ unitIn s tier u = true) ∧
    (∃ (s : State) (unit : ReadyUnit) (k : UnitKind) (tier : Tier) (u : Nat) (bit : Nat), awake s ∧ (unit, k, tier, bit) ∈
    [(ReadyUnit.hbm u, UnitKind.hbm, Tier.near, 16 + u), (.ddr u, .ddr, .far, 24 + u), (.flash u, .flash, .deep, 36 + u)] ∧ u
    < tierUnits tier ∧ unitIn s tier u = true ∧ readyBit s bit = false) ∧
    (∃ (s : State) (k : Nat), awake s ∧ ∃ w r, 8 > k ∧ s.boot.state = 1 ∧ namesInService s (8 + k) = true ∧ (cxlLink s k).up
    = false ∧ w ∈ [1, 2, 4, 8, 16] ∧ w ≤ builtWidth s k ∧ r ≤ 2 ∧ k < s.cxl.links.length) ∧
    (∃ (s : State) (k : Nat), awake s ∧ readyBit s 4 = true) ∧
    (∃ (s : State) (k : Nat), awake s ∧ k < 4 ∧ copiesReady s k = true) ∧
    (∃ (s : State) (k : Nat), awake s ∧ s.boot.state = 1 ∧ s.boot.address ≠ none) ∧
    (∃ (s : State) (k : Nat), awake s ∧ portBlockIn s .cxl k = true ∧ readyBit s (8 + 2 * k) = false ∧ readyBit s (9 + 2 * k)
    = false) ∧
    (∃ (s : State), awake s ∧ (s.flush.area = none ∨ restoreDue s = false)) ∧
    (∃ (s : State), awake s ∧ ∃ f, s.flush.area = some f ∧ restoreDue s = true) :=
  ⟨⟨hub, 0, Board.largest, by decide⟩,
    ⟨{ hub with pins := { hub.pins with pwrGood := false } }, 15, Board.largest, by decide⟩,
    ⟨hub, false, .unreadable, by decide, by decide⟩,
    ⟨State.reset, false, .unreadable, by decide, by decide, by decide, by decide, by decide⟩,
    ⟨fused State.reset, false, .object (object 1) good, by decide, by decide, by decide, object 1, good, by decide,
     by decide⟩,
    ⟨hub, .hbm 7, .hbm, .near, 7, 23, by decide, by decide, by decide, by decide⟩,
    ⟨State.reset, .flash 31, .flash, .deep, 31, 67, by decide, by decide, by decide, by decide, by decide⟩,
    ⟨unlinked hub, 6, by decide, 16, 2, by decide, by decide, by decide, by decide, by decide, by decide, by decide,
     by decide⟩,
    ⟨hub, 0, by decide, by decide⟩,
    ⟨hub, 3, by decide, by decide, by decide⟩,
    ⟨hub, 0, by decide, by decide, by decide⟩,
    ⟨State.reset, 3, by decide, by decide, by decide, by decide⟩,
    ⟨hub, by decide, by decide⟩,
    ⟨{ hub with flush := { hub.flush with area := some { queues := [], binds := [], works := [], logs := [[], [], [], []], receipts := [] } } },
     by decide, { queues := [], binds := [], works := [], logs := [[], [], [], []], receipts := [] }, by decide, by decide⟩⟩

/-- The hypotheses of each clause of CoresRestartAndLoopsAct can be met. -/
theorem test_witness_CoresRestartAndLoopsAct :
    (∃ (s : State) (c : Instr) (core : Nat) (cause : Nat), awake s ∧ (c, cause) ∈ [(Instr.watchdogExpiry core, 1), (.coreTrap
    core, 2), (.coreEccError core, 3)] ∧ ((coreAt s core).run = .notLoaded ∨ (coreAt s core).run = .failed) ∧ s.boot.readyN =
    true) ∧
    (∃ (s : State) (c : Instr) (core : Nat) (cause : Nat), awake s ∧ (c, cause) ∈ [(Instr.watchdogExpiry core, 1), (.coreTrap
    core, 2), (.coreEccError core, 3)] ∧ core < s.power.cores.length ∧ (coreAt s core).run ≠ .notLoaded ∧ (coreAt s core).run
    ≠ .failed) ∧
    (∃ (s : State) (core : Nat), awake s ∧ (coreAt s core).run ≠ .restarting) ∧
    (∃ (s : State) (core : Nat), awake s ∧ (coreAt s core).run = .restarting ∧ core < s.power.cores.length) ∧
    (∃ (s : State) (watts : Nat) (below : Bool), awake s) ∧
    (∃ (s : State) (region : Nat) (temps : List Nat), awake s ∧ hottestOf s region temps = none) ∧
    (∃ (s : State) (region : Nat) (temps : List Nat), awake s ∧ ∃ deg n, hottestOf s region temps = some (deg, n)) ∧
    (∃ (s : State) (watts : Nat), awake s) ∧
    (∃ (s : State) (watts : Nat) (rails : List (Nat × Nat)) (counts : List (Nat × List Nat)), awake s) ∧
    (∃ (s : State) (drifts : List (Nat × Nat × Int)) (cause : Nat) (sensor : Nat), awake s ∧ s.faults.rings.length = 4 ∧
    (hasCal s = false ∨ s.boot.calRaised = true)) ∧
    (∃ (s : State) (drifts : List (Nat × Nat × Int)) (cause : Nat) (sensor : Nat), awake s ∧ s.faults.rings.length = 4 ∧
    hasCal s = true ∧ s.boot.calRaised = false) ∧
    (∃ (s : State) (drifts : List (Nat × Nat × Int)) (cause : Nat) (sensor : Nat), awake s ∧ s.faults.rings.length = 4 ∧ (48
    ≤ sensor ∨ sensor ∈ s.units.sensorsOut)) ∧
    (∃ (s : State) (drifts : List (Nat × Nat × Int)) (cause : Nat) (sensor : Nat), awake s ∧ s.faults.rings.length = 4 ∧
    sensor < 48 ∧ sensor ∉ s.units.sensorsOut) :=
  ⟨⟨{ hub with power := { hub.power with cores := { core with run := .failed } :: List.replicate 34 core } }, .coreTrap 0,
     0, 2, by decide, by decide, by decide, by decide⟩,
    ⟨hub, .watchdogExpiry 34, 34, 1, by decide, by decide, by decide, by decide, by decide⟩,
    ⟨hub, 34, by decide, by decide⟩,
    ⟨{ hub with power := { hub.power with cores := { core with run := .restarting } :: List.replicate 34 core } }, 0,
     by decide, by decide, by decide⟩,
    ⟨hub, 900, true, by decide⟩,
    ⟨hub, 3, [], by decide, by decide⟩,
    ⟨hub, 3, [40], by decide, 40, 36, by decide⟩,
    ⟨hub, 900, by decide⟩,
    ⟨hub, 900, [], [], by decide⟩,
    ⟨{ hub with boot := { hub.boot with calRaised := true } }, [], 0, 0, by decide, by decide, by decide⟩,
    ⟨hub, [], 0, 0, by decide, by decide, by decide, by decide⟩,
    ⟨hub, [], 0, 48, by decide, by decide, by decide⟩,
    ⟨hub, [], 0, 47, by decide, by decide, by decide, by decide⟩⟩

/-- The hypotheses of each clause of ResetsAndPowerLossKeepWhatTheyMay can be met. -/
theorem test_witness_ResetsAndPowerLossKeepWhatTheyMay :
    (∃ (s : State), s.pins.pwrGood = false) ∧
    (∃ (s : State), s.pins.pwrGood = true ∧ (s.store.pages.map (·.1)).Nodup) ∧
    (∃ (s : State), True) ∧
    (∃ (s : State), s.pins.pwrFailN = false) ∧
    (∃ (s : State), (s.pins.pwrGood = false ∨ s.units.xDieOut = true ∨ s.pins.thermtrip = true)) ∧
    (∃ (s : State), s.pins.pwrGood = true ∧ s.units.xDieOut = false ∧ s.pins.failing = false ∧ ∃ (c : Instr) (pins : Pins),
    ((c = .pwrFailNFall ∧ s.pins.pwrFailN = true ∧ pins =
    { s.pins with pwrFailN := false, pwrFailSeen := true, failing := true }) ∨ ((∃ sensor, c = .thermtrip sensor) ∧
    s.pins.thermtrip = false ∧ pins = { s.pins with thermtrip := true, failing := true }))) ∧
    (∃ (s : State), s.flush.running = false) ∧
    (∃ (s : State), s.flush.running = true) ∧
    (∃ (s : State), s.pins.resetPin = false) ∧
    (∃ (s : State), s.pins.resetPin = true ∧ (s.pins.pwrGood = false ∨ s.units.xDieOut = true ∨ s.pins.released = false)) ∧
    (∃ (s : State), s.pins.resetPin = true ∧ s.pins.pwrGood = true ∧ s.units.xDieOut = false ∧ s.pins.released = true ∧
    s.flush.running = true) ∧
    (∃ (s : State), s.pins.resetPin = true ∧ s.pins.pwrGood = true ∧ s.units.xDieOut = false ∧ s.pins.released = true ∧
    s.flush.running = false) ∧
    (∃ (s : State) (straps : Nat), s.pins.resetPin = true) ∧
    (∃ (s : State) (straps : Nat), s.pins.resetPin = false ∧ (s.pins.pwrGood = false ∨ s.units.xDieOut = true)) ∧
    (∃ (s : State) (straps : Nat), s.pins.resetPin = false ∧ s.pins.pwrGood = true ∧ s.units.xDieOut = false ∧
    s.pins.released = false) ∧
    (∃ (s : State) (straps : Nat), s.pins.resetPin = false ∧ s.pins.pwrGood = true ∧ s.units.xDieOut = false ∧
    s.pins.released = true ∧ s.flush.running = true) ∧
    (∃ (s : State) (straps : Nat), s.pins.resetPin = false ∧ s.pins.pwrGood = true ∧ s.units.xDieOut = false ∧
    s.pins.released = true ∧ s.flush.running = false) :=
  ⟨⟨{ hub with pins := { hub.pins with pwrGood := false } }, by decide⟩,
    ⟨hub, by decide, by decide⟩,
    ⟨hub, trivial⟩,
    ⟨{ hub with pins := { hub.pins with pwrFailN := false } }, by decide⟩,
    ⟨{ hub with pins := { hub.pins with thermtrip := true } }, by decide⟩,
    ⟨hub, by decide, by decide, by decide, .thermtrip 0, { hub.pins with thermtrip := true, failing := true },
     .inr ⟨⟨0, rfl⟩, rfl, rfl⟩⟩,
    ⟨hub, by decide⟩,
    ⟨{ hub with flush := { hub.flush with running := true } }, by decide⟩,
    ⟨{ hub with pins := { hub.pins with resetPin := false } }, by decide⟩,
    ⟨{ hub with pins := { hub.pins with released := false } }, by decide, by decide⟩,
    ⟨{ hub with flush := { hub.flush with running := true } }, by decide, by decide, by decide, by decide, by decide⟩,
    ⟨hub, by decide, by decide, by decide, by decide, by decide⟩,
    ⟨hub, 0, by decide⟩,
    ⟨{ hub with pins := { hub.pins with resetPin := false, pwrGood := false } }, 0, by decide, by decide⟩,
    ⟨{ hub with pins := { hub.pins with resetPin := false, released := false } }, 0, by decide, by decide, by decide,
     by decide⟩,
    ⟨{ hub with pins := { hub.pins with resetPin := false }, flush := { hub.flush with running := true } }, 0, by decide,
     by decide, by decide, by decide, by decide⟩,
    ⟨{ hub with pins := { hub.pins with resetPin := false } }, 0, by decide, by decide, by decide, by decide, by decide⟩⟩

/-- The hypotheses of EveryStepKeepsSane can be met. -/
theorem test_witness_EveryStepKeepsSane :
    ∃ (s : State) (t : State), Sane s ∧ step s = .next t :=
  ⟨State.reset, { State.reset with now := 10 }, ⟨by decide, by decide, by decide⟩, rfl⟩

end Sys2Proof.Tests
end

/-! Register fields as bits of a word (R8), and what a write to an RWL register changes (R13, R14, R526). -/

namespace Sys2Proof

/-! ### Fields of a number -/

theorem testBit_bits (w lo n i : Nat) : (bits w lo n).testBit i = (decide (i < n) && w.testBit (lo + i)) := by
  simp [bits]

/-- A number, cut at a field: what stands above it, the field's new value, and what stands below. -/
theorem setBits_eq (w lo n v : Nat) :
    setBits w lo n v = 2 ^ lo * (2 ^ n * (w / 2 ^ lo / 2 ^ n) + v % 2 ^ n) + w % 2 ^ lo := by
  have hw : 2 ^ lo * (w / 2 ^ lo) + w % 2 ^ lo = w := Nat.div_add_mod w (2 ^ lo)
  have hh : 2 ^ n * (w / 2 ^ lo / 2 ^ n) + w / 2 ^ lo % 2 ^ n = w / 2 ^ lo := Nat.div_add_mod _ _
  have hcut : w = 2 ^ lo * (2 ^ n * (w / 2 ^ lo / 2 ^ n)) + 2 ^ lo * (w / 2 ^ lo % 2 ^ n) + w % 2 ^ lo := by
    rw [← Nat.mul_add, hh, hw]
  simp only [setBits, bits, Nat.shiftLeft_eq, Nat.shiftRight_eq_div_pow, Nat.mul_comm _ (2 ^ lo), Nat.mul_add]
  omega

theorem testBit_setBits (w lo n v i : Nat) :
    (setBits w lo n v).testBit i = if lo ≤ i ∧ i < lo + n then v.testBit (i - lo) else w.testBit i := by
  rw [setBits_eq, Nat.testBit_two_pow_mul_add _ (Nat.mod_lt _ (Nat.two_pow_pos lo)),
    Nat.testBit_two_pow_mul_add _ (Nat.mod_lt _ (Nat.two_pow_pos n))]
  by_cases hlo : i < lo
  · simp [hlo, Nat.not_le.mpr hlo]
  · by_cases hn : i - lo < n
    · have : lo ≤ i ∧ i < lo + n := by omega
      simp [hlo, hn, this]
    · have hout : ¬ (lo ≤ i ∧ i < lo + n) := by omega
      have hsum : i - lo - n + n + lo = i := by omega
      simp [hlo, hn, hout, Nat.testBit_div_two_pow, hsum]

/-- A field copied from another number. -/
theorem testBit_setBits_bits (w new lo n i : Nat) :
    (setBits w lo n (bits new lo n)).testBit i = if lo ≤ i ∧ i < lo + n then new.testBit i else w.testBit i := by
  rw [testBit_setBits]
  refine ite_congr rfl (fun h => ?_) (fun _ => rfl)
  have hlt : i - lo < n := by omega
  have hadd : lo + (i - lo) = i := by omega
  simp [testBit_bits, hlt, hadd]

/-- A list that is one piece is cut into that piece. -/
theorem chunks_one {α : Type} {n : Nat} {l : List α} (hl : l.length = n) (hn : 0 < n) : chunks n 1 l = [l] := by
  cases l with
  | nil => exact absurd hl (Nat.ne_of_lt hn)
  | cons a t => simp [chunks, ← hl]

end Sys2Proof

namespace Sys2Proof.Machine

open Sys2Proof

/-! ### Fields of a register -/

theorem testBit_foldl_setBits (new : Nat) (fields : List (Nat × Nat)) (w i : Nat) :
    (fields.foldl (fun w f => setBits w f.1 f.2 (bits new f.1 f.2)) w).testBit i =
      if ∃ f ∈ fields, f.1 ≤ i ∧ i < f.1 + f.2 then new.testBit i else w.testBit i := by
  induction fields generalizing w with
  | nil => simp
  | cons f rest ih =>
    rw [List.foldl_cons, ih, testBit_setBits_bits]
    by_cases hrest : ∃ g ∈ rest, g.1 ≤ i ∧ i < g.1 + g.2
    · simp [hrest]
    · simp [hrest]

/-- The bits in the fields come from the new word, every other bit from the old one. -/
theorem getLsbD_takeFields (old new : Word) (fields : List (Nat × Nat)) {i : Nat} (hi : i < 64) :
    (takeFields old new fields).getLsbD i =
      if ∃ f ∈ fields, f.1 ≤ i ∧ i < f.1 + f.2 then new.getLsbD i else old.getLsbD i := by
  simp only [takeFields, BitVec.getLsbD_ofNat, hi, decide_true, Bool.true_and, testBit_foldl_setBits,
    BitVec.testBit_toNat]

/-! ### setCtrl -/

theorem setCtrl_only (s : State) (r : CtrlReg) (w : Word) : setCtrl s r w = { s with ctrl := (setCtrl s r w).ctrl } := rfl

theorem ctrlAt_setCtrl (s : State) (r r' : CtrlReg) (w : Word) :
    ctrlAt (setCtrl s r w) r' = if r' = r then w else ctrlAt s r' := by
  cases r <;> cases r' <;> rfl

@[simp] theorem ctrlAt_setCtrl_same (s : State) (r : CtrlReg) (w : Word) : ctrlAt (setCtrl s r w) r = w := by
  rw [ctrlAt_setCtrl, if_pos rfl]

theorem ctrlAt_setCtrl_other (s : State) {r r' : CtrlReg} (w : Word) (h : r' ≠ r) :
    ctrlAt (setCtrl s r w) r' = ctrlAt s r' := by
  rw [ctrlAt_setCtrl, if_neg h]

/-! ### writeRwl -/

theorem mayWriteRwl_iff (s : State) (who : Sender) :
    mayWriteRwl s who = true ↔ hasAdmin s who = true ∧ s.boot.locked = false := by
  simp [mayWriteRwl]

theorem writeRwl_only (s : State) (who : Sender) (r : CtrlReg) (w : Word) :
    writeRwl s who r w = { s with ctrl := (writeRwl s who r w).ctrl } := by
  unfold writeRwl
  split
  · exact setCtrl_only ..
  · rfl

theorem ctrlAt_writeRwl_other (s : State) (who : Sender) {r r' : CtrlReg} (w : Word) (h : r' ≠ r) :
    ctrlAt (writeRwl s who r w) r' = ctrlAt s r' := by
  unfold writeRwl
  split
  · exact ctrlAt_setCtrl_other s _ h
  · rfl

theorem getLsbD_ctrlAt_writeRwl (s : State) (who : Sender) (r : CtrlReg) (w : Word) {i : Nat} (hi : i < 64) :
    (ctrlAt (writeRwl s who r w) r).getLsbD i =
      if (hasAdmin s who = true ∧ s.boot.locked = false) ∧ (∃ f ∈ rwlFields r, f.1 ≤ i ∧ i < f.1 + f.2)
      then w.getLsbD i else (ctrlAt s r).getLsbD i := by
  unfold writeRwl
  by_cases hmay : mayWriteRwl s who = true
  · simp only [hmay, if_true, ctrlAt_setCtrl_same, getLsbD_takeFields _ _ _ hi, (mayWriteRwl_iff s who).mp hmay,
      and_self, true_and]
  · have hno : ¬ (hasAdmin s who = true ∧ s.boot.locked = false) := mt (mayWriteRwl_iff s who).mpr hmay
    simp only [hmay, hno, false_and, if_false, Bool.false_eq_true]

/-! ### The word of an RWL register -/

theorem ctrlOffset_in_chapters (r : CtrlReg) : 0x2000000 ≤ ctrlOffset r ∧ ctrlOffset r < 0x4000000 := by
  cases r <;> decide

theorem ctrlOffset_aligned (r : CtrlReg) : ctrlOffset r % 8 = 0 := by cases r <;> rfl

theorem find_ctrlRegs_ctrlOffset (r : CtrlReg) : ctrlRegs.find? (fun r' => ctrlOffset r' == ctrlOffset r) = some r := by
  cases r <;> rfl

/-- Beside its RWL fields, only CLOVE_CTRL has an action: its CLEAR drops the sketches (R268). -/
theorem writeChapter_ctrlOffset (s : State) (who : Sender) (r : CtrlReg) (w : Word) :
    writeChapter s who (ctrlOffset r) w =
      if r = .clove then ifBit w 1 clearSketches (writeRwl s who r w) else writeRwl s who r w := by
  simp [writeChapter, find_ctrlRegs_ctrlOffset]

/-- The words of the chapters' registers lie past every other block. -/
theorem writeWord_chapters (s : State) (who : Sender) {off : Nat} (w : Word) (hlo : 0x2000000 ≤ off) (hhi : off < 0x4000000) :
    writeWord s who off w = writeChapter s who off w := by
  have hsummary : ¬ off = 0x20 := by omega
  have hdoorbell : ¬ (0x100000 ≤ off ∧ off < 0x200000) := by omega
  have hqueue : ¬ (0x200000 ≤ off ∧ off < 0x400000) := by omega
  have hmailbox : ¬ (0x1000000 ≤ off ∧ off < 0x1003000) := by omega
  simp only [writeWord, beq_iff_eq, hsummary, hdoorbell, hqueue, hmailbox, hlo, hhi, and_self, if_true, if_false]

theorem ctrlAt_ifBit_clearSketches (s : State) (w : Word) (i : Nat) (r : CtrlReg) :
    ctrlAt (ifBit w i clearSketches s) r = ctrlAt s r := by
  unfold ifBit
  split
  · cases r <;> rfl
  · rfl

theorem ifBit_clearSketches_only (s : State) (w : Word) (i : Nat) :
    ifBit w i clearSketches s = { s with embed := { s.embed with sketch := (ifBit w i clearSketches s).embed.sketch } } := by
  unfold ifBit
  split <;> rfl

theorem ctrlAt_writeChapter_ctrlOffset (s : State) (who : Sender) (r r' : CtrlReg) (w : Word) :
    ctrlAt (writeChapter s who (ctrlOffset r) w) r' = ctrlAt (writeRwl s who r w) r' := by
  rw [writeChapter_ctrlOffset]
  split
  · exact ctrlAt_ifBit_clearSketches ..
  · rfl

theorem writeChapter_ctrlOffset_only (s : State) (who : Sender) (r : CtrlReg) (w : Word) :
    let t := writeChapter s who (ctrlOffset r) w
    t = { s with ctrl := t.ctrl, embed := { s.embed with sketch := t.embed.sketch } } := by
  simp only [writeChapter_ctrlOffset]
  split
  · rw [ifBit_clearSketches_only, writeRwl_only]
  · rw [writeRwl_only]

theorem writeChapter_ctrlOffset_only_ctrl (s : State) (who : Sender) {r : CtrlReg} (w : Word) (h : r ≠ .clove) :
    let t := writeChapter s who (ctrlOffset r) w
    t = { s with ctrl := t.ctrl } := by
  simp only [writeChapter_ctrlOffset, h, if_false]
  exact writeRwl_only ..

/-! ### REGISTER_WRITE -/

/-- REGISTER_WRITE of one aligned word, where the word's write sends nothing. -/
theorem exec_registerWrite_word (s : State) (who : Sender) (off : Nat) (data : List Byte) (ha : awake s = true)
    (hlen : data.length = 8) (hoff : off % 8 = 0)
    (hq : (writeWord s who off (BitVec.ofNat 64 (leNat data))).outbox = s.outbox) :
    exec (.registerWrite who off data) s = .next (writeWord s who off (BitVec.ofNat 64 (leNat data))) := by
  have heff : (if wholeWords off data.length then writeWords s who off (chunks 8 (data.length / 8) data) else s) =
      writeWord s who off (BitVec.ofNat 64 (leNat data)) := by
    simp [wholeWords, hoff, hlen, chunks_one hlen, writeWords]
  exact (act_quiet s _ ha ((congrArg State.outbox heff).trans hq)).trans (congrArg _ heff)

theorem exec_registerWrite_ctrlOffset (s : State) (who : Sender) (r : CtrlReg) (data : List Byte) (ha : awake s = true)
    (hlen : data.length = 8) :
    exec (.registerWrite who (ctrlOffset r) data) s =
      .next (writeChapter s who (ctrlOffset r) (BitVec.ofNat 64 (leNat data))) := by
  obtain ⟨hlo, hhi⟩ := ctrlOffset_in_chapters r
  have hword := writeWord_chapters s who (BitVec.ofNat 64 (leNat data)) hlo hhi
  have hquiet : (writeWord s who (ctrlOffset r) (BitVec.ofNat 64 (leNat data))).outbox = s.outbox := by
    rw [hword, writeChapter_ctrlOffset_only]
  rw [exec_registerWrite_word s who _ data ha hlen (ctrlOffset_aligned r) hquiet, hword]

/-- Settles O12: the write is that of the register's one word, whose RWL fields are copied bit by bit (R13, R14, R526). -/
theorem rwlFieldsTakeWritesUntilLocked : Obligations.RwlFieldsTakeWritesUntilLocked := by
  intro s who r data ha hlen
  refine ⟨_, exec_registerWrite_ctrlOffset s who r data ha hlen, writeChapter_ctrlOffset_only s who r _,
    writeChapter_ctrlOffset_only_ctrl s who _, fun r' hr => ?_, fun i hi => ?_⟩
  · rw [ctrlAt_writeChapter_ctrlOffset, ctrlAt_writeRwl_other s who _ hr]
  · rw [ctrlAt_writeChapter_ctrlOffset, getLsbD_ctrlAt_writeRwl s who r _ hi, BitVec.getLsbD_ofNat]
    simp only [hi, decide_true, Bool.true_and]

end Sys2Proof.Machine

/-! Units that leave service: what the hub writes about them, what stops, and what stays in service (R25, R37 to R43, R331, R427,
R602). -/

namespace Sys2Proof.Machine

open Sys2Proof

/-! ### The newest record of a ring -/

theorem getLast?_ringPush (r : FaultRing) (f : FaultRecord) : (ringPush r f).records.getLast? = some f := by
  unfold ringPush
  split <;> simp

theorem getLast?_ringMerge {r : FaultRing} {f : FaultRecord} (h : r.records.getLast? = some f) :
    (ringMerge r).records.getLast? = some { f with merged := min 0xFFFF (f.merged + 1) } := by
  simp [ringMerge, h]

/-- A record that merges into the newest one agrees with it in what names the fault (R565). -/
theorem mergesInto_same {new old : FaultRecord} (h : mergesInto new old = true) :
    old.code = new.code ∧ old.kind = new.kind ∧ old.inst = new.inst := by
  simp only [mergesInto, Bool.and_eq_true, beq_iff_eq] at h
  obtain ⟨⟨⟨⟨⟨⟨⟨-, hcode⟩, hkind⟩, hinst⟩, -⟩, -⟩, -⟩, -⟩ := h
  exact ⟨hcode, hkind, hinst⟩

theorem newestFault_of_set (s : State) (faults : Faults) {level : Nat} (ring : FaultRing)
    (hl : level < s.faults.rings.length) (hf : faults.rings = s.faults.rings.set level ring) :
    newestFault { s with faults := faults } level = ring.records.getLast? := by
  simp [newestFault, hf, hl]

/-- Written or merged, the newest record of the code's level names the fault that was raised. -/
theorem newestFault_raise (s : State) (code : Nat) (i : FaultInfo) (hi : i.level = none)
    (hlevel : (faultClass code).1 < s.faults.rings.length) :
    ∃ f, newestFault (raise s code i) (faultClass code).1 = some f ∧ f.code = code ∧ f.kind = i.kind ∧ f.inst = i.inst := by
  have hl : (faultRecord s code i).level = (faultClass code).1 := by simp [faultRecord, hi]
  unfold raise
  simp only [hl, List.getElem?_eq_getElem hlevel]
  split
  next old hold =>
    split
    · next hm =>
      obtain ⟨hcode, hkind, hinst⟩ := mergesInto_same hm
      exact ⟨_, (newestFault_of_set s _ _ hlevel rfl).trans (getLast?_ringMerge hold), hcode, hkind, hinst⟩
    · exact ⟨_, (newestFault_of_set s _ _ hlevel rfl).trans (getLast?_ringPush _ _), rfl, rfl, rfl⟩
  next => exact ⟨_, (newestFault_of_set s _ _ hlevel rfl).trans (getLast?_ringPush _ _), rfl, rfl, rfl⟩

/-! ### READY_VEC and READY_N -/

theorem unready_only (s : State) (kind : UnitKind) (unit : Nat) :
    unready s kind unit = { s with boot := (unready s kind unit).boot } := by
  unfold unready
  split <;> rfl

@[simp] theorem unready_units (s : State) (kind : UnitKind) (unit : Nat) : (unready s kind unit).units = s.units := by
  rw [unready_only]
@[simp] theorem unready_store (s : State) (kind : UnitKind) (unit : Nat) : (unready s kind unit).store = s.store := by
  rw [unready_only]
@[simp] theorem unready_cxl (s : State) (kind : UnitKind) (unit : Nat) : (unready s kind unit).cxl = s.cxl := by
  rw [unready_only]
@[simp] theorem unready_fabric (s : State) (kind : UnitKind) (unit : Nat) : (unready s kind unit).fabric = s.fabric := by
  rw [unready_only]

theorem unreadyAll_only (kind : UnitKind) (units : List Nat) (s : State) :
    unreadyAll s kind units = { s with boot := (unreadyAll s kind units).boot } := by
  induction units generalizing s with
  | nil => rfl
  | cons u rest ih =>
    have h := ih (unready s kind u)
    rw [unready_only s] at h
    simp only [unreadyAll, List.foldl_cons] at h ⊢
    rw [unready_only s, h]

@[simp] theorem unreadyAll_units (s : State) (kind : UnitKind) (units : List Nat) :
    (unreadyAll s kind units).units = s.units := by rw [unreadyAll_only]
@[simp] theorem unreadyAll_store (s : State) (kind : UnitKind) (units : List Nat) :
    (unreadyAll s kind units).store = s.store := by rw [unreadyAll_only]
@[simp] theorem unreadyAll_works (s : State) (kind : UnitKind) (units : List Nat) :
    (unreadyAll s kind units).works = s.works := by rw [unreadyAll_only]

theorem checkReady_only (s : State) : checkReady s = { s with boot := (checkReady s).boot } := by
  unfold checkReady
  split <;> rfl

theorem checkReady_ready {s : State} (h : s.boot.readyN = true) : checkReady s = s := by simp [checkReady, h]

/-! ### What the hub tells of a failure -/

theorem postEvent_only (cause : EventCause) (fault : Option FaultRecord) (s : State) (ld : Nat) :
    postEvent cause fault s ld =
      { s with outbox := (postEvent cause fault s ld).outbox
               cxl := { s.cxl with lds := (postEvent cause fault s ld).cxl.lds } } := by
  unfold postEvent
  dsimp only
  split <;> rfl

theorem postEvents_only (cause : EventCause) (fault : Option FaultRecord) (lds : List Nat) (s : State) :
    postEvents s lds cause fault =
      { s with outbox := (postEvents s lds cause fault).outbox
               cxl := { s.cxl with lds := (postEvents s lds cause fault).cxl.lds } } := by
  induction lds generalizing s with
  | nil => rfl
  | cons ld rest ih =>
    have h := ih (postEvent cause fault s ld)
    rw [postEvent_only cause fault s] at h
    simp only [postEvents, List.foldl_cons] at h ⊢
    rw [postEvent_only cause fault s, h]

@[simp] theorem postEvents_units (s : State) (lds : List Nat) (cause : EventCause) (fault : Option FaultRecord) :
    (postEvents s lds cause fault).units = s.units := by rw [postEvents_only]
@[simp] theorem postEvents_store (s : State) (lds : List Nat) (cause : EventCause) (fault : Option FaultRecord) :
    (postEvents s lds cause fault).store = s.store := by rw [postEvents_only]

/-- An event record reaches the outside as MSI-X messages at most (R438). -/
theorem postEvents_sends_msix (cause : EventCause) (fault : Option FaultRecord) (lds : List Nat) (s : State) :
    ∃ os, (postEvents s lds cause fault).outbox = s.outbox ++ os ∧ ∀ o ∈ os, ∃ ld vector, o = .msix ld vector := by
  induction lds generalizing s with
  | nil => exact ⟨[], by simp [postEvents], by simp⟩
  | cons ld rest ih =>
    obtain ⟨os, hos, hmsix⟩ := ih (postEvent cause fault s ld)
    have hone : (postEvent cause fault s ld).outbox = s.outbox ∨
        ∃ vector, (postEvent cause fault s ld).outbox = s.outbox ++ [.msix ld vector] := by
      unfold postEvent
      dsimp only
      split
      · exact .inr ⟨_, rfl⟩
      · exact .inl rfl
    simp only [postEvents, List.foldl_cons] at hos ⊢
    obtain hnone | ⟨vector, hsent⟩ := hone
    · exact ⟨os, by rw [hos, hnone], hmsix⟩
    · refine ⟨.msix ld vector :: os, by rw [hos, hsent]; simp, ?_⟩
      simpa using hmsix

theorem healthEvents_only (b a : State) :
    healthEvents b a = { a with outbox := (healthEvents b a).outbox
                                cxl := { a.cxl with lds := (healthEvents b a).cxl.lds } } := by
  unfold healthEvents
  split
  · rfl
  · exact postEvents_only ..

theorem healthEvents_sends_msix (b a : State) :
    ∃ os, (healthEvents b a).outbox = a.outbox ++ os ∧ ∀ o ∈ os, ∃ ld vector, o = .msix ld vector := by
  unfold healthEvents
  split
  · exact ⟨[], by simp, by simp⟩
  · exact postEvents_sends_msix ..

@[simp] theorem healthEvents_same (s : State) : healthEvents s s = s := by simp [healthEvents]

/-- A command that only posts health events of a silent effect sends to no other node. -/
theorem act_healthEvents (s : State) (f : State → State) (ha : awake s = true) (hq : (f s).outbox = s.outbox) :
    act s (fun s => healthEvents s (f s)) = .next (healthEvents s (f s)) := by
  obtain ⟨os, hos, hmsix⟩ := healthEvents_sends_msix s (f s)
  refine act_local s _ os ha (by rw [hos, hq]) fun o ho => ?_
  obtain ⟨ld, vector, rfl⟩ := hmsix o ho
  exact ⟨rfl, by simp⟩

@[simp] theorem tellChip_units (s : State) : (tellChip s).units = s.units := by
  unfold tellChip
  split <;> rfl
@[simp] theorem tellChip_store (s : State) : (tellChip s).store = s.store := by
  unfold tellChip
  split <;> rfl
@[simp] theorem tellChip_works (s : State) : (tellChip s).works = s.works := by
  unfold tellChip
  split <;> rfl
@[simp] theorem tellChip_comp (s : State) : (tellChip s).comp = s.comp := by
  unfold tellChip
  split <;> rfl
@[simp] theorem tellChip_cxl (s : State) : (tellChip s).cxl = s.cxl := by
  unfold tellChip
  split <;> rfl
@[simp] theorem tellChip_fabric (s : State) : (tellChip s).fabric = s.fabric := by
  unfold tellChip
  split <;> rfl

/-! ### Ports -/

theorem portOf_modPort (s : State) (p q : Nat) (f : IflPort → IflPort) :
    portOf (modPort s p f) q = if p = q ∧ q < s.fabric.ports.length then f (portOf s q) else portOf s q := by
  by_cases hq : q < s.fabric.ports.length
  · by_cases hp : p = q <;> simp [portOf, hq, hp]
  · simp [portOf, hq]

/-- A field of the ports that a change of one port keeps. -/
theorem portOf_modPort_keeps {β : Type} (g : IflPort → β) (s : State) (p q : Nat) {f : IflPort → IflPort}
    (hf : ∀ x, g (f x) = g x) : g (portOf (modPort s p f) q) = g (portOf s q) := by
  rw [portOf_modPort]
  split
  · exact hf _
  · rfl

theorem frameOne_cases (s : State) (o : Out) : frameOne s o = s ∨ ∃ p dst n, frameOne s o = modPort s p (sendFlits dst n) := by
  unfold frameOne
  split
  · exact .inr ⟨_, _, _, rfl⟩
  · split
    · exact .inl rfl
    · split
      · exact .inl rfl
      · exact .inr ⟨_, _, _, rfl⟩

/-- Flits move a port's sequence numbers and replay buffer alone: it stays up or down, in service or out of it. -/
theorem portOf_frameOut {β : Type} (g : IflPort → β) (hg : ∀ dst n x, g (sendFlits dst n x) = g x) (sent : Nat) (s : State)
    (q : Nat) : g (portOf (frameOut sent s) q) = g (portOf s q) := by
  refine foldl_keeps (fun t => g (portOf t q) = g (portOf s q)) frameOne (fun t o ht => ?_) _ s rfl
  obtain h | ⟨p, dst, n, h⟩ := frameOne_cases t o
  · rw [h, ht]
  · rw [h, portOf_modPort_keeps g t p q (hg dst n), ht]

/-! ### The outcome of a failure -/

/-- A state with the same units, data and links as another: what READY_N, event records and flits leave. -/
structure SameService (u t : State) : Prop where
  units : t.units = u.units
  store : t.store = u.store
  works : t.works = u.works
  comp : t.comp = u.comp
  links : t.cxl.links = u.cxl.links
  up : ∀ q, (portOf t q).up = (portOf u q).up
  inService : ∀ q, (portOf t q).inService = (portOf u q).inService

theorem sameService_of_checkReady (b a : State) : SameService a (checkReady (healthEvents b a)) := by
  rw [checkReady_only, healthEvents_only]
  exact ⟨rfl, rfl, rfl, rfl, rfl, fun _ => rfl, fun _ => rfl⟩

theorem sameService_frameOut (sent : Nat) (s : State) : SameService s (frameOut sent s) where
  units := by rw [frameOut_only]
  store := by rw [frameOut_only]
  works := by rw [frameOut_only]
  comp := by rw [frameOut_only]
  links := by rw [frameOut_only]
  up := portOf_frameOut IflPort.up (fun _ _ _ => rfl) sent s
  inService := portOf_frameOut IflPort.inService (fun _ _ _ => rfl) sent s

theorem SameService.trans {r s t : State} (h : SameService r s) (h' : SameService s t) : SameService r t where
  units := h'.units.trans h.units
  store := h'.store.trans h.store
  works := h'.works.trans h.works
  comp := h'.comp.trans h.comp
  links := h'.links.trans h.links
  up q := (h'.up q).trans (h.up q)
  inService q := (h'.inService q).trans (h.inService q)

theorem sameService_tellChip (s : State) : SameService s (tellChip s) where
  units := tellChip_units s
  store := tellChip_store s
  works := tellChip_works s
  comp := tellChip_comp s
  links := by rw [tellChip_cxl]
  up q := by rw [portOf, tellChip_fabric, portOf]
  inService q := by rw [portOf, tellChip_fabric, portOf]

/-- A failure's outcome is its effect, up to READY_N, event records and flits. -/
theorem act_failure (s : State) (f : State → State) (ha : awake s = true) :
    ∃ t, act s (fun s => checkReady (healthEvents s (f s))) = .next t ∧ SameService (f s) t :=
  ⟨_, act_awake s _ ha, (sameService_of_checkReady s (f s)).trans (sameService_frameOut _ _)⟩

/-- What is out of service already is not taken out again: on a hub with READY_N, nothing happens. -/
theorem act_failure_none (s : State) (f : State → State) (ha : awake s = true) (hr : s.boot.readyN = true) (hf : f s = s) :
    act s (fun s => checkReady (healthEvents s (f s))) = .next s := by
  have heff : checkReady (healthEvents s (f s)) = s := by rw [hf, healthEvents_same, checkReady_ready hr]
  exact (act_quiet s _ ha (congrArg State.outbox heff)).trans (congrArg _ heff)

end Sys2Proof.Machine

/-! Clusters that stop, and the pages of memory that leaves service (R37, R43, R202, R328, R331). -/

namespace Sys2Proof

/-! ### Tables -/

theorem Tbl.keys_alter {α : Type} (t : Tbl α) (k : Nat) (f : α → α) : (Tbl.alter t k f).map (·.1) = t.map (·.1) := by
  rw [Tbl.alter, List.map_map]
  refine List.map_congr_left fun e _ => ?_
  by_cases he : e.1 = k <;> simp [he]

theorem Tbl.find_eq_some_iff {α : Type} {t : Tbl α} (hn : (t.map (·.1)).Nodup) {k : Nat} {v : α} :
    Tbl.find t k = some v ↔ (k, v) ∈ t := by
  induction t with
  | nil => simp [Tbl.find]
  | cons e t ih =>
    obtain ⟨j, w⟩ := e
    rw [List.map_cons, List.nodup_cons] at hn
    obtain ⟨hj, hn⟩ := hn
    by_cases hk : j = k
    · subst hk
      have hv : (j, v) ∉ t := fun h => hj (List.mem_map.mpr ⟨_, h, rfl⟩)
      simp [Tbl.find, hv, eq_comm]
    · simp [Tbl.find, hk, Ne.symm hk, ih hn]

/-- A table holds one entry at a key: the key is among those of the entries that pass a test when its own entry does. -/
theorem Tbl.mem_keys_filter {α : Type} {t : Tbl α} (hn : (t.map (·.1)).Nodup) {k : Nat} {v : α} (hk : Tbl.find t k = some v)
    (test : Nat × α → Bool) : k ∈ (t.filter test).map (·.1) ↔ test (k, v) = true := by
  simp only [List.mem_map, List.mem_filter]
  constructor
  · rintro ⟨⟨j, w⟩, ⟨hmem, htest⟩, rfl⟩
    rw [← Tbl.find_eq_some_iff hn, hk, Option.some.injEq] at hmem
    rwa [hmem]
  · exact fun htest => ⟨(k, v), ⟨(Tbl.find_eq_some_iff hn).mp hk, htest⟩, rfl⟩

end Sys2Proof

namespace Sys2Proof.Machine

open Sys2Proof

/-- A field that every step of a fold keeps. -/
theorem foldl_same {α β : Type} (g : State → β) {f : State → α → State} (hf : ∀ s a, g (f s a) = g s) (l : List α)
    (s : State) : g (l.foldl f s) = g s :=
  foldl_keeps (fun t => g t = g s) f (fun t a ht => (hf t a).trans ht) l s rfl

/-! ### Which clusters serve -/

/-- Whether a cluster's own control lets it take segments, its region and E-die aside. -/
def clusterServes (u : Units) (c : Nat) : Bool := ((u.clusters[c]?).map (fun x => x.inService)).getD false

theorem clusterIn_eq (s : State) (c : Nat) : clusterIn s c =
    (regionIn s (clusterRegion c) && !s.units.eDiesOut.contains (clusterDie c) && clusterServes s.units c) := rfl

/-- Units that differ in their clusters alone, where every cluster of `stays` serves as before. -/
structure KeepsClusters (stays : Nat → Prop) (u v : Units) : Prop where
  only : v = { u with clusters := v.clusters }
  serves : ∀ c, stays c → clusterServes v c = clusterServes u c

section KeepsClusters

variable {stays : Nat → Prop}

theorem KeepsClusters.refl (u : Units) : KeepsClusters stays u u := ⟨rfl, fun _ _ => rfl⟩

theorem KeepsClusters.of_eq {u v : Units} (h : v = u) : KeepsClusters stays u v := h ▸ .refl v

theorem KeepsClusters.trans {u v w : Units} (h : KeepsClusters stays u v) (h' : KeepsClusters stays v w) :
    KeepsClusters stays u w :=
  ⟨by rw [h'.only, h.only], fun c hc => (h'.serves c hc).trans (h.serves c hc)⟩

theorem KeepsClusters.foldl {α : Type} {f : State → α → State} (hf : ∀ s a, KeepsClusters stays s.units (f s a).units)
    (l : List α) (s : State) : KeepsClusters stays s.units (l.foldl f s).units :=
  foldl_keeps (fun t => KeepsClusters stays s.units t.units) f (fun t a ht => ht.trans (hf t a)) l s (.refl _)

theorem KeepsClusters.unitIn {s t : State} (h : KeepsClusters stays s.units t.units) (tier : Tier) (u : Nat) :
    unitIn t tier u = unitIn s tier u := by
  unfold Machine.unitIn regionIn
  rw [h.only]

theorem KeepsClusters.clusterIn {s t : State} (h : KeepsClusters stays s.units t.units) {c : Nat} (hc : stays c) :
    clusterIn t c = clusterIn s c := by
  rw [clusterIn_eq, clusterIn_eq, h.serves c hc]
  unfold regionIn
  rw [h.only]

end KeepsClusters

/-- A change of a cluster that leaves its service alone. -/
theorem modCluster_keepsClusters (stays : Nat → Prop) (s : State) (c : Nat) {f : Cluster → Cluster}
    (hf : ∀ x, (f x).inService = x.inService) : KeepsClusters stays s.units (modCluster s c f).units := by
  refine ⟨rfl, fun d _ => ?_⟩
  simp only [clusterServes, modCluster_units, List.getElem?_modify]
  by_cases hd : c = d <;> simp [hd, Function.comp_def, hf]

/-- A cluster that changes leaves the others as they are. -/
theorem modCluster_keepsOthers (s : State) (c : Nat) (f : Cluster → Cluster) :
    KeepsClusters (· ≠ c) s.units (modCluster s c f).units := by
  refine ⟨rfl, fun d hd => ?_⟩
  simp [clusterServes, Ne.symm hd]

/-! ### Work that is to run again -/

@[simp] theorem abandon_store (s : State) (w : Work) : (abandon s w).store = s.store := rfl

@[simp] theorem abandon_works (s : State) (w : Work) : (abandon s w).works = s.works := rfl

/-- Segments leave the clusters; no cluster leaves service. -/
theorem abandon_keepsClusters (stays : Nat → Prop) (s : State) (w : Work) : KeepsClusters stays s.units (abandon s w).units := by
  refine ⟨rfl, fun c _ => ?_⟩
  simp [clusterServes, abandon, liftSegments, pullSegments, Function.comp_def]

theorem replayWorks_store (s : State) (hit : Work → Bool) : (replayWorks s hit).store = s.store :=
  foldl_same State.store abandon_store _ s

theorem replayWorks_works (s : State) (hit : Work → Bool) :
    (replayWorks s hit).works = s.works.map (fun w => if hit w then rerun w else w) :=
  congrArg (List.map _) (foldl_same State.works abandon_works _ s)

theorem replayWorks_keepsClusters (stays : Nat → Prop) (s : State) (hit : Work → Bool) :
    KeepsClusters stays s.units (replayWorks s hit).units :=
  KeepsClusters.foldl (abandon_keepsClusters stays) _ s

@[simp] theorem stopClusters_store (s : State) (hit : Nat → Bool) : (stopClusters s hit).store = s.store := by
  unfold stopClusters
  rw [unreadyAll_store]
  exact (foldl_same State.store (fun s c => modCluster_store s c _) _ _).trans (replayWorks_store ..)

@[simp] theorem stopClusters_works (s : State) (hit : Nat → Bool) :
    (stopClusters s hit).works = s.works.map (fun w => if onStopped s hit w then rerun w else w) := by
  unfold stopClusters
  rw [unreadyAll_works]
  exact (foldl_same State.works (fun s c => modCluster_works s c _) _ _).trans (replayWorks_works ..)

theorem stopClusters_keepsClusters (stays : Nat → Prop) (s : State) (hit : Nat → Bool) :
    KeepsClusters stays s.units (stopClusters s hit).units := by
  unfold stopClusters
  rw [unreadyAll_units]
  refine (replayWorks_keepsClusters stays s _).trans (.foldl (fun s c => ?_) _ _)
  exact modCluster_keepsClusters stays s c fun _ => rfl

/-! ### Journals after a loss -/

theorem loseQueue_store (s : State) (queue : Nat) : (loseQueue s queue).store = s.store := by
  rw [loseQueue, raise_store]
  exact foldl_same State.store abandon_store _ _

theorem loseQueue_keepsClusters (stays : Nat → Prop) (s : State) (queue : Nat) :
    KeepsClusters stays s.units (loseQueue s queue).units := by
  rw [loseQueue, raise_units]
  exact KeepsClusters.foldl (abandon_keepsClusters stays) _ (modQueue s queue _)

theorem loseJournal_store (s : State) (k : Nat) : (loseJournal s k).store = s.store :=
  foldl_same State.store loseQueue_store _ s

theorem loseJournal_keepsClusters (stays : Nat → Prop) (s : State) (k : Nat) :
    KeepsClusters stays s.units (loseJournal s k).units :=
  KeepsClusters.foldl (loseQueue_keepsClusters stays) _ s

/-- A journal stays as it is, or its copies change and a record says so; a journal without a copy is lost (R202, R208). -/
theorem checkJournal_cases (s : State) (k : Nat) : checkJournal s k = s ∨
    ∃ f code i, checkJournal s k = raise (modJournal s k f) code i ∨
      checkJournal s k = loseJournal (raise (modJournal s k f) code i) k := by
  unfold checkJournal
  extract_lets
  split
  · exact .inl rfl
  · split
    · exact .inr ⟨_, _, _, .inl rfl⟩
    · exact .inr ⟨_, _, _, .inr rfl⟩

theorem checkJournal_store (s : State) (k : Nat) : (checkJournal s k).store = s.store := by
  obtain h | ⟨f, code, i, h | h⟩ := checkJournal_cases s k
  · rw [h]
  · rw [h, raise_store, modJournal_store]
  · rw [h, loseJournal_store, raise_store, modJournal_store]

theorem checkJournal_keepsClusters (stays : Nat → Prop) (s : State) (k : Nat) :
    KeepsClusters stays s.units (checkJournal s k).units := by
  have hkeep (f code i) : KeepsClusters stays s.units (raise (modJournal s k f) code i).units :=
    .of_eq (by rw [raise_units, modJournal_units])
  obtain h | ⟨f, code, i, h | h⟩ := checkJournal_cases s k
  · exact .of_eq (congrArg _ h)
  · exact h ▸ hkeep f code i
  · exact h ▸ (hkeep f code i).trans (loseJournal_keepsClusters stays _ k)

theorem checkJournals_store (s : State) : (checkJournals s).store = s.store := foldl_same State.store checkJournal_store _ s

theorem checkJournals_keepsClusters (stays : Nat → Prop) (s : State) : KeepsClusters stays s.units (checkJournals s).units :=
  KeepsClusters.foldl (checkJournal_keepsClusters stays) _ s

/-! ### Pages that are LOST -/

/-- A page whose bytes are gone (R331). -/
def lostPage (p : Page) : Page := { p with phase := .lost }

/-- All that the loss of pages changes. -/
theorem foldl_losePage_only (gone : List Nat) (s : State) :
    gone.foldl losePage s =
      { s with store := { s.store with
                  pages := (gone.foldl losePage s).store.pages, moves := (gone.foldl losePage s).store.moves }
               comp := { s.comp with keys := (gone.foldl losePage s).comp.keys } } := by
  induction gone generalizing s with
  | nil => rfl
  | cons p rest ih =>
    rw [List.foldl_cons, ih]
    rfl

theorem find_foldl_losePage (gone : List Nat) (s : State) (k : Nat) :
    Tbl.find (gone.foldl losePage s).store.pages k =
      (Tbl.find s.store.pages k).map (fun p => if k ∈ gone then lostPage p else p) := by
  induction gone generalizing s with
  | nil => simp
  | cons p rest ih =>
    have hone : Tbl.find (losePage s p).store.pages k =
        if k = p then (Tbl.find s.store.pages k).map lostPage else Tbl.find s.store.pages k :=
      Tbl.find_alter s.store.pages p k lostPage
    rw [List.foldl_cons, ih, hone]
    by_cases hk : k = p
    · by_cases hr : k ∈ rest <;> simp [hk, Function.comp_def, lostPage]
    · simp [hk]

/-- Where the pages of a test leave service, save those that are LOST already, the test alone decides which are LOST after. -/
theorem find_losePages {u : State} {pages : Tbl Page} (hu : u.store.pages = pages) (hn : (pages.map (·.1)).Nodup)
    {k : Nat} {p : Page} (hk : Tbl.find pages k = some p) (hit : Nat × Page → Bool) (P : Prop) [Decidable P]
    (hP : hit (k, p) = true ↔ P ∧ p.phase ≠ .lost) :
    Tbl.find (((pages.filter hit).map (·.1)).foldl losePage u).store.pages k =
      some (if P then { p with phase := .lost } else p) := by
  rw [find_foldl_losePage, hu, hk, Option.map_some, Option.some.injEq]
  simp only [Tbl.mem_keys_filter hn hk, hP]
  by_cases hlost : p.phase = .lost
  · have hp : ({ p with phase := .lost } : Page) = p := by rw [← hlost]
    simp [hlost, hp]
  · simp [hlost, lostPage]

/-- Units, memory, held accesses and the keys of the page map stay; pages and moves may change. -/
structure KeepsBytes (s t : State) : Prop where
  units : t.units = s.units
  mem : t.store.mem = s.store.mem
  held : t.store.held = s.store.held
  keys : t.store.pages.map (·.1) = s.store.pages.map (·.1)

theorem KeepsBytes.refl (s : State) : KeepsBytes s s := ⟨rfl, rfl, rfl, rfl⟩

theorem KeepsBytes.trans {r s t : State} (h : KeepsBytes r s) (h' : KeepsBytes s t) : KeepsBytes r t :=
  ⟨h'.units.trans h.units, h'.mem.trans h.mem, h'.held.trans h.held, h'.keys.trans h.keys⟩

theorem KeepsBytes.foldl {α : Type} {f : State → α → State} (hf : ∀ s a, KeepsBytes s (f s a)) (l : List α) (s : State) :
    KeepsBytes s (l.foldl f s) :=
  foldl_keeps (KeepsBytes s) f (fun t a ht => ht.trans (hf t a)) l s (.refl s)

theorem losePage_keepsBytes (s : State) (page : Nat) : KeepsBytes s (losePage s page) :=
  ⟨rfl, rfl, rfl, Tbl.keys_alter s.store.pages page lostPage⟩

/-- A page whose move has ended where it stands (R328). -/
def stayedPage (p : Page) : Page := if p.phase == .lost then p else { p with phase := .resident }

theorem endMove_keepsBytes (s : State) (m : Move) : KeepsBytes s (endMove s m) :=
  ⟨rfl, rfl, rfl, Tbl.keys_alter s.store.pages m.page stayedPage⟩

theorem poisonUnit_store (s : State) (unit : Nat) :
    (poisonUnit s unit).store = { s.store with poison := (poisonUnit s unit).store.poison } := by
  unfold poisonUnit
  split <;> rfl

/-- A move that is cut short leaves poison, and nothing else in the store. -/
theorem cutMove_store (s : State) (m : Move) : (cutMove s m).store = { s.store with poison := (cutMove s m).store.poison } := by
  refine foldl_keeps (fun t => t.store = { s.store with poison := t.store.poison }) poisonUnit (fun t unit ht => ?_) _ _ rfl
  rw [poisonUnit_store, ht]

theorem cutMove_units (s : State) (m : Move) : (cutMove s m).units = s.units :=
  foldl_same State.units poisonUnit_units _ (spend s 1)

theorem cutMove_keepsBytes (s : State) (m : Move) : KeepsBytes s (cutMove s m) :=
  ⟨cutMove_units s m, by rw [cutMove_store], by rw [cutMove_store], by rw [cutMove_store]⟩

/-! ### Memory units that leave service -/

/-- The state once the moves onto units that a test takes have ended (R328). -/
def movesEnded (s : State) (hit : Tier → Nat → Bool) : State :=
  (s.store.moves.filter (fun m => hit m.tier m.unit)).foldl endMove s

/-- The moves off units that a test takes. -/
def movesOff (s : State) (hit : Tier → Nat → Bool) : List Move :=
  s.store.moves.filter (fun m => ((Tbl.find s.store.pages m.page).map (fun p => hit p.tier p.unit)).getD false)

/-- Whether a page is LOST with units that a test takes: it stands on one, and no move takes it away (R328, R331). -/
def losesPage (s : State) (hit : Tier → Nat → Bool) (e : Nat × Page) : Bool :=
  hit e.2.tier e.2.unit && e.2.phase != .lost && !(movesOff s hit).any (fun m => m.page == e.1)

/-- The state once the moves onto and off units that a test takes are over. -/
def movesCut (s : State) (hit : Tier → Nat → Bool) : State :=
  (movesOff (movesEnded s hit) hit).foldl cutMove (movesEnded s hit)

/-- The pages that are LOST with units that a test takes. -/
def pagesGone (s : State) (hit : Tier → Nat → Bool) : List Nat :=
  ((movesCut s hit).store.pages.filter (losesPage (movesEnded s hit) hit)).map (·.1)

/-- Beside its record, the loss of units is the end of the moves and the loss of the pages that no move saves. -/
theorem loseUnits_eq (s : State) (hit : Tier → Nat → Bool) (kind : UnitKind) (inst : Nat) (cause : Option (Nat × Nat)) :
    ∃ faults, loseUnits s hit kind inst cause = { (pagesGone s hit).foldl losePage (movesCut s hit) with faults := faults } := by
  have hgone : pagesGone s hit = ((movesCut s hit).store.pages.filter (fun e => hit e.2.tier e.2.unit && e.2.phase != .lost
      && !(movesOff (movesEnded s hit) hit).any (fun m => m.page == e.1))).map (·.1) := rfl
  unfold loseUnits
  dsimp only
  split
  next h => exact ⟨_, by rw [show pagesGone s hit = [] from h]; rfl⟩
  next => exact ⟨_, raise_only ..⟩

theorem movesEnded_keepsBytes (s : State) (hit : Tier → Nat → Bool) : KeepsBytes s (movesEnded s hit) :=
  .foldl endMove_keepsBytes _ s

theorem movesCut_keepsBytes (s : State) (hit : Tier → Nat → Bool) : KeepsBytes s (movesCut s hit) :=
  (movesEnded_keepsBytes s hit).trans (.foldl cutMove_keepsBytes _ _)

theorem loseUnits_keepsBytes (s : State) (hit : Tier → Nat → Bool) (kind : UnitKind) (inst : Nat) (cause : Option (Nat × Nat)) :
    KeepsBytes s (loseUnits s hit kind inst cause) := by
  obtain ⟨faults, h⟩ := loseUnits_eq s hit kind inst cause
  have hk := (movesCut_keepsBytes s hit).trans (.foldl losePage_keepsBytes (pagesGone s hit) _)
  rw [h]
  exact ⟨hk.units, hk.mem, hk.held, hk.keys⟩

/-- A page that is not being moved is not touched while other moves end. -/
theorem movesEnded_still {s : State} {k : Nat} (hk : isMoving s k = false) (hit : Tier → Nat → Bool) :
    Tbl.find (movesEnded s hit).store.pages k = Tbl.find s.store.pages k ∧ isMoving (movesEnded s hit) k = false := by
  refine List.foldlRecOn (motive := fun t => Tbl.find t.store.pages k = Tbl.find s.store.pages k ∧ isMoving t k = false) _ endMove
    ⟨rfl, hk⟩ fun t ⟨hpage, hstill⟩ m hm => ⟨?_, ?_⟩
  · have hne : k ≠ m.page := by
      rintro rfl
      simp only [isMoving, List.any_eq_false, beq_iff_eq] at hk
      exact hk m (List.mem_filter.mp hm).1 rfl
    exact (Tbl.find_alter t.store.pages m.page k stayedPage).trans ((if_neg hne).trans hpage)
  · simp only [isMoving, List.any_eq_false] at hstill ⊢
    exact fun x hx => hstill x (List.mem_filter.mp hx).1

theorem movesCut_pages (s : State) (hit : Tier → Nat → Bool) :
    (movesCut s hit).store.pages = (movesEnded s hit).store.pages :=
  foldl_same (fun t => t.store.pages) (fun t m => by rw [cutMove_store]) _ _

/-- Of the pages that are not being moved, those on the lost units are LOST, and the others are as before (R331). -/
theorem find_loseUnits {s : State} (hn : (s.store.pages.map (·.1)).Nodup) {k : Nat} {p : Page}
    (hk : Tbl.find s.store.pages k = some p) (hm : isMoving s k = false) (hit : Tier → Nat → Bool) (kind : UnitKind) (inst : Nat)
    (cause : Option (Nat × Nat)) :
    Tbl.find (loseUnits s hit kind inst cause).store.pages k =
      some (if hit p.tier p.unit = true then { p with phase := .lost } else p) := by
  obtain ⟨faults, h⟩ := loseUnits_eq s hit kind inst cause
  obtain ⟨hpage, hstill⟩ := movesEnded_still hm hit
  have hoff : (movesOff (movesEnded s hit) hit).any (fun m => m.page == k) = false := by
    simp only [isMoving, List.any_eq_false] at hstill ⊢
    exact fun x hx => hstill x (List.mem_filter.mp hx).1
  rw [h]
  refine find_losePages rfl ?_ ?_ _ _ ?_
  · rw [(movesCut_keepsBytes s hit).keys]
    exact hn
  · rw [movesCut_pages, hpage, hk]
  · simp [losesPage, hoff]

theorem releaseLost_of_none_held {s : State} (h : s.store.held = []) : releaseLost s = s := by
  simp [releaseLost, h, dedup]

section MemoryLost

variable {s : State} (hheld : s.store.held = []) (hit : Tier → Nat → Bool) (kind : UnitKind) (inst : Nat)
  (cause : Option (Nat × Nat))

include hheld

/-- With no access held for a page, memory that is lost is the loss of its units, and a check of the journals. -/
theorem memoryLost_eq :
    memoryLost s hit kind inst cause = checkJournals (loseUnits (loseScrubs s hit) hit kind inst cause) := by
  rw [memoryLost, releaseLost_of_none_held]
  rw [(loseUnits_keepsBytes ..).held]
  exact hheld

theorem memoryLost_keepsClusters (stays : Nat → Prop) :
    KeepsClusters stays s.units (memoryLost s hit kind inst cause).units := by
  rw [memoryLost_eq hheld]
  exact (KeepsClusters.of_eq (loseUnits_keepsBytes (loseScrubs s hit) hit kind inst cause).units).trans
    (checkJournals_keepsClusters stays _)

theorem memoryLost_mem : (memoryLost s hit kind inst cause).store.mem = s.store.mem := by
  rw [memoryLost_eq hheld, checkJournals_store, (loseUnits_keepsBytes ..).mem]
  rfl

theorem find_memoryLost (hn : (s.store.pages.map (·.1)).Nodup) {k : Nat} {p : Page} (hk : Tbl.find s.store.pages k = some p)
    (hm : isMoving s k = false) : Tbl.find (memoryLost s hit kind inst cause).store.pages k =
      some (if hit p.tier p.unit = true then { p with phase := .lost } else p) := by
  rw [memoryLost_eq hheld, checkJournals_store]
  exact find_loseUnits (s := loseScrubs s hit) hn hk hm hit kind inst cause

end MemoryLost

/-! ### Flash dies (R331) -/

/-- The state with one die of a flash channel gone. -/
def dieLost (s : State) (channel : Nat) : State :=
  { s with units := { s.units with flash := s.units.flash.modify channel (fun f =>
    { f with fit := { f.fit with luns := f.fit.luns - 1 } }) } }

/-- Whether a page is LOST with a die of a channel that held the pages given. -/
def onDie (channel : Nat) (pages : List Nat) (e : Nat × Page) : Bool :=
  pages.contains e.1 && e.2.tier == .deep && e.2.unit == channel && e.2.phase != .lost

/-- Beside its record, the failure of a die is the loss of the pages it held. -/
theorem flashDieFails_eq (s : State) (channel : Nat) (pages : List Nat) :
    ∃ faults, flashDieFails s channel pages =
      { ((s.store.pages.filter (onDie channel pages)).map (·.1)).foldl losePage (dieLost s channel) with faults := faults } := by
  have honDie : s.store.pages.filter (onDie channel pages) = s.store.pages.filter (fun e =>
      pages.contains e.1 && e.2.tier == .deep && e.2.unit == channel && e.2.phase != .lost) := rfl
  unfold flashDieFails
  dsimp only
  rw [honDie]
  split
  next h => exact ⟨_, by rw [h]; rfl⟩
  next => exact ⟨_, raise_only ..⟩

theorem flashDieFails_only (s : State) (channel : Nat) (pages : List Nat) :
    flashDieFails s channel pages = { s with
      faults := (flashDieFails s channel pages).faults
      store := { s.store with
        pages := (flashDieFails s channel pages).store.pages, moves := (flashDieFails s channel pages).store.moves }
      comp := { s.comp with keys := (flashDieFails s channel pages).comp.keys }
      units := (dieLost s channel).units } := by
  obtain ⟨faults, h⟩ := flashDieFails_eq s channel pages
  rw [h, foldl_losePage_only]
  rfl

theorem find_flashDieFails {s : State} (hn : (s.store.pages.map (·.1)).Nodup) {k : Nat} {p : Page}
    (hp : Tbl.find s.store.pages k = some p) (channel : Nat) (pages : List Nat) :
    Tbl.find (flashDieFails s channel pages).store.pages k =
      some (if k ∈ pages ∧ p.tier = .deep ∧ p.unit = channel then { p with phase := .lost } else p) := by
  obtain ⟨faults, h⟩ := flashDieFails_eq s channel pages
  rw [h]
  exact find_losePages (u := dieLost s channel) rfl hn hp _ _ (by simp [onDie, and_assoc])

theorem exec_flashDieFailure {s : State} (ha : awake s = true) (channel : Nat) (pages : List Nat) :
    exec (.flashDieFailure channel pages) s = .next (flashDieFails s channel pages) :=
  act_quiet s (fun s => flashDieFails s channel pages) ha (by rw [flashDieFails_only])

end Sys2Proof.Machine

/-! Blocks, cells, ports, dies and regions out of service: FailedUnitsLeaveService (R25, R37 to R43, R331, R427, R602). -/

namespace Sys2Proof.Machine

open Sys2Proof

/-! ### Who is in service -/

theorem regionIn_eq_false_iff (s : State) (k : Nat) : regionIn s k = false ↔ k ∈ s.units.regionsOut := by simp [regionIn]

theorem unitIn_of_regionOut {s : State} {tier : Tier} {u : Nat} (h : tierRegion tier u ∈ s.units.regionsOut) :
    unitIn s tier u = false := by
  unfold unitIn
  rw [(regionIn_eq_false_iff s _).mpr h, Bool.false_and]

theorem clusterIn_of_regionOut {s : State} {c : Nat} (h : clusterRegion c ∈ s.units.regionsOut) : clusterIn s c = false := by
  rw [clusterIn_eq, (regionIn_eq_false_iff s _).mpr h, Bool.false_and, Bool.false_and]

theorem clusterIn_of_eDieOut {s : State} {c : Nat} (h : clusterDie c ∈ s.units.eDiesOut) : clusterIn s c = false := by
  simp [clusterIn_eq, h]

theorem clusterIn_of_not_serves {s : State} {c : Nat} (h : clusterServes s.units c = false) : clusterIn s c = false := by
  rw [clusterIn_eq, h, Bool.and_false]

theorem SameService.clusterIn {u t : State} (h : SameService u t) (c : Nat) : clusterIn t c = clusterIn u c := by
  simp only [Machine.clusterIn, regionIn, h.units]

theorem SameService.unitIn {u t : State} (h : SameService u t) (tier : Tier) (n : Nat) : unitIn t tier n = unitIn u tier n := by
  simp only [Machine.unitIn, regionIn, h.units]

theorem SameService.portBlockIn {u t : State} (h : SameService u t) (kind : UnitKind) (port : Nat) :
    portBlockIn t kind port = portBlockIn u kind port := by
  cases kind
  case ifl => simp only [Machine.portBlockIn, h.inService]
  case cxl => simp only [Machine.portBlockIn, h.units]
  all_goals rfl

/-! ### Blocks (R37, R40, R41) -/

/-- A state whose memory controller is out of service. -/
def memoryOut (s : State) (tier : Tier) (unit : Nat) : State :=
  { s with units := match tier with
    | .near => { s.units with hbm := s.units.hbm.set unit false }
    | .far => { s.units with ddr := s.units.ddr.modify unit (fun d => { d with inService := false }) }
    | .deep => { s.units with flash := s.units.flash.modify unit (fun f => { f with inService := false }) } }

theorem getD_map_false {α : Type} (o : Option α) : (o.map (fun _ => false)).getD false = false := by cases o <;> rfl

theorem memoryOut_retired (s : State) (tier : Tier) (unit : Nat) : (memoryOut s tier unit).units.retired = s.units.retired := by
  cases tier <;> rfl

theorem unitIn_memoryOut (s : State) (tier : Tier) (unit : Nat) : unitIn (memoryOut s tier unit) tier unit = false := by
  cases tier
  case near => by_cases h : unit < s.units.hbm.length <;> simp [unitIn, memoryOut, h]
  all_goals simp [unitIn, memoryOut, Function.comp_def, getD_map_false]

theorem blockOut_memory (s : State) {kind : UnitKind} {tier : Tier} (hk : kindTier kind = some tier) (unit : Nat)
    (cause : Option (Nat × Nat)) : blockOut s kind unit cause =
      unready (memoryLost (memoryOut s tier unit) (fun t n => t == tier && n == unit) kind unit cause) kind unit := by
  cases kind <;> cases hk <;> rfl

theorem blockIn_memory (s : State) {kind : UnitKind} {tier : Tier} (hk : kindTier kind = some tier) (unit : Nat) :
    blockIn s kind unit = unitIn s tier unit := by
  cases kind <;> cases hk <;> rfl

/-- A block in service is a cluster or a memory controller. -/
theorem blockIn_cases {s : State} {kind : UnitKind} {unit : Nat} (h : blockIn s kind unit = true) :
    kind = .cluster ∨ ∃ tier, kindTier kind = some tier := by
  cases kind
  case cluster => exact .inl rfl
  case hbm | ddr | flash => exact .inr ⟨_, rfl⟩
  all_goals exact Bool.noConfusion h

theorem isolateBlock_of_out {s : State} {kind : UnitKind} {unit : Nat} (h : blockIn s kind unit = false) (arg : Nat)
    (cause : Option (Nat × Nat)) : isolateBlock s kind unit arg cause = s := by
  simp [isolateBlock, h]

/-- Beside its record, the isolation of a block in service takes it out. -/
theorem isolateBlock_of_in {s : State} {kind : UnitKind} {unit : Nat} (h : blockIn s kind unit = true) (arg : Nat)
    (cause : Option (Nat × Nat)) :
    ∃ faults up, isolateBlock s kind unit arg cause = blockOut { s with faults := faults } kind unit up := by
  simp only [isolateBlock, h, Bool.not_true, Bool.false_eq_true, if_false]
  exact ⟨_, _, congrArg (blockOut · kind unit _) (raise_only ..)⟩

section Cluster

variable (s : State) (c arg : Nat) (cause : Option (Nat × Nat))

theorem isolateBlock_cluster_keepsOthers :
    KeepsClusters (· ≠ c) s.units (isolateBlock s .cluster c arg cause).units := by
  by_cases h : blockIn s .cluster c = true
  · obtain ⟨faults, up, hout⟩ := isolateBlock_of_in h arg cause
    rw [hout]
    exact (stopClusters_keepsClusters _ { s with faults := faults } _).trans (modCluster_keepsOthers ..)
  · rw [isolateBlock_of_out (by simpa using h)]
    exact .refl _

theorem isolateBlock_cluster_store : (isolateBlock s .cluster c arg cause).store = s.store := by
  by_cases h : blockIn s .cluster c = true
  · obtain ⟨faults, up, hout⟩ := isolateBlock_of_in h arg cause
    rw [hout]
    exact stopClusters_store { s with faults := faults } _
  · rw [isolateBlock_of_out (by simpa using h)]

theorem isolateBlock_cluster_out : clusterIn (isolateBlock s .cluster c arg cause) c = false := by
  by_cases h : blockIn s .cluster c = true
  · obtain ⟨faults, up, hout⟩ := isolateBlock_of_in h arg cause
    rw [hout]
    refine clusterIn_of_not_serves ?_
    simp [clusterServes, blockOut, Function.comp_def, getD_map_false]
  · rw [isolateBlock_of_out (by simpa using h)]
    simpa [blockIn] using h

/-- The work of a cluster that is isolated is to run again elsewhere (R37). -/
theorem isolateBlock_cluster_works (h : clusterIn s c = true) : (isolateBlock s .cluster c arg cause).works =
    s.works.map (fun w => if onStopped s (· == c) w then rerun w else w) := by
  obtain ⟨faults, up, hout⟩ := isolateBlock_of_in (kind := .cluster) h arg cause
  rw [hout]
  exact stopClusters_works { s with faults := faults } _

end Cluster

section Memory

variable {s : State} {kind : UnitKind} {tier : Tier} (hk : kindTier kind = some tier) {unit : Nat}
  (hin : unitIn s tier unit = true) (hheld : s.store.held = []) (arg : Nat) (cause : Option (Nat × Nat))

include hk hin

theorem isolateBlock_memory_eq : ∃ faults up, isolateBlock s kind unit arg cause =
    unready (memoryLost (memoryOut { s with faults := faults } tier unit) (fun t n => t == tier && n == unit) kind unit up)
      kind unit := by
  obtain ⟨faults, up, h⟩ := isolateBlock_of_in ((blockIn_memory s hk unit).trans hin) arg cause
  exact ⟨faults, up, h.trans (blockOut_memory _ hk unit up)⟩

include hheld

theorem isolateBlock_memory_keepsClusters (stays : Nat → Prop) :
    KeepsClusters stays (memoryOut s tier unit).units (isolateBlock s kind unit arg cause).units := by
  obtain ⟨faults, up, h⟩ := isolateBlock_memory_eq hk hin arg cause
  rw [h, unready_units]
  exact memoryLost_keepsClusters (s := memoryOut { s with faults := faults } tier unit) hheld _ _ _ _ stays

theorem isolateBlock_memory_mem : (isolateBlock s kind unit arg cause).store.mem = s.store.mem := by
  obtain ⟨faults, up, h⟩ := isolateBlock_memory_eq hk hin arg cause
  rw [h, unready_store]
  exact memoryLost_mem (s := memoryOut { s with faults := faults } tier unit) hheld _ _ _ _

theorem find_isolateBlock (hn : (s.store.pages.map (·.1)).Nodup) {k : Nat} {p : Page} (hp : Tbl.find s.store.pages k = some p)
    (hm : isMoving s k = false) : Tbl.find (isolateBlock s kind unit arg cause).store.pages k =
      some (if p.tier = tier ∧ p.unit = unit then { p with phase := .lost } else p) := by
  obtain ⟨faults, up, h⟩ := isolateBlock_memory_eq hk hin arg cause
  rw [h, unready_store, find_memoryLost (s := memoryOut { s with faults := faults } tier unit) hheld _ _ _ _ hn hp hm]
  simp only [Bool.and_eq_true, beq_iff_eq]

end Memory

theorem isolateBlock_memory_out {s : State} {kind : UnitKind} {tier : Tier} (hk : kindTier kind = some tier) (unit : Nat)
    (hheld : s.store.held = []) (arg : Nat) (cause : Option (Nat × Nat)) :
    unitIn (isolateBlock s kind unit arg cause) tier unit = false := by
  by_cases hin : unitIn s tier unit = true
  · rw [(isolateBlock_memory_keepsClusters hk hin hheld arg cause fun _ => True).unitIn, unitIn_memoryOut]
  · rw [Bool.not_eq_true] at hin
    rw [isolateBlock_of_out ((blockIn_memory s hk unit).trans hin), hin]

theorem isolateBlock_retired {s : State} (hheld : s.store.held = []) (kind : UnitKind) (unit arg : Nat)
    (cause : Option (Nat × Nat)) : (isolateBlock s kind unit arg cause).units.retired = s.units.retired := by
  by_cases h : blockIn s kind unit = true
  · obtain rfl | ⟨tier, hk⟩ := blockIn_cases h
    · rw [(isolateBlock_cluster_keepsOthers s unit arg cause).only]
    · have hin := (blockIn_memory s hk unit).symm.trans h
      rw [(isolateBlock_memory_keepsClusters hk hin hheld arg cause fun _ => True).only, ← memoryOut_retired s tier unit]
  · rw [isolateBlock_of_out (by simpa using h)]

/-! ### Ports (R427, R602) -/

theorem portDown_only (s : State) (port : Nat) :
    portDown s port = { s with free := (portDown s port).free, outbox := (portDown s port).outbox
                               fabric := (portDown s port).fabric } := by
  unfold portDown
  dsimp only
  split <;> rfl

theorem portOf_portDown_up (s : State) (port : Nat) : (portOf (portDown s port) port).up = false := by
  by_cases hup : (portOf s port).up = true
  · have hdown : portOf (portDown s port) port =
        portOf (modPort s port (fun p => { p with up := false, training := false, encrypted := false })) port := by
      simp only [portDown, hup, Bool.not_true, Bool.false_eq_true, if_false]
      rfl
    rw [hdown, portOf_modPort]
    split
    · rfl
    · next hout =>
      have : s.fabric.ports.length ≤ port := by simpa using hout
      simp [portOf, this, IflPort.down]
  · rw [Bool.not_eq_true] at hup
    simp only [portDown, hup, Bool.not_false, if_true]
    refine (portOf_modPort_keeps IflPort.up s port port ?_).trans hup
    exact fun _ => rfl

theorem portDown_length (s : State) (port : Nat) : (portDown s port).fabric.ports.length = s.fabric.ports.length := by
  unfold portDown
  dsimp only
  split <;> exact List.length_modify ..

theorem linkLost_only (s : State) (h : Nat) :
    linkLost s h = { s with boot := (linkLost s h).boot, cxl := (linkLost s h).cxl } := by
  rw [linkLost, unready_only]
  rfl

theorem cxlLink_linkLost_up (s : State) (h q : Nat) :
    (cxlLink (linkLost s h) q).up = if q = h then false else (cxlLink s q).up := by
  have hlinks : (linkLost s h).cxl.links =
      s.cxl.links.modify h (fun l => { l with up := false, width := 0, rate := 0, ide := false, keyed := false }) := by
    rw [linkLost, unready_cxl]
    rfl
  simp only [cxlLink, hlinks, List.getElem?_modify]
  by_cases hq : q = h
  · subst hq
    cases hl : s.cxl.links[q]? <;> simp [CxlLink.down]
  · simp [hq, Ne.symm hq]

/-- A port that leaves service touches no work, no page and no table of the composition. -/
theorem portBlockOut_only (s : State) (kind : UnitKind) (port : Nat) :
    portBlockOut s kind port =
      { s with free := (portBlockOut s kind port).free, outbox := (portBlockOut s kind port).outbox
               boot := (portBlockOut s kind port).boot, fabric := (portBlockOut s kind port).fabric
               cxl := (portBlockOut s kind port).cxl
               units := { s.units with cxlPorts := (portBlockOut s kind port).units.cxlPorts } } := by
  cases kind
  case ifl =>
    simp only [portBlockOut]
    rw [unready_only, portDown_only]
    rfl
  case cxl =>
    simp only [portBlockOut]
    rw [linkLost_only, linkLost_only s]
  all_goals rfl

theorem portBlockOut_cxl_ports (s : State) (port : Nat) :
    (portBlockOut s .cxl port).units.cxlPorts = s.units.cxlPorts.set port false := by
  simp only [portBlockOut]
  rw [linkLost_only, linkLost_only s]

theorem portBlockOut_cxl_links (s : State) (port : Nat) :
    (cxlLink (portBlockOut s .cxl port) (2 * port)).up = false ∧ (cxlLink (portBlockOut s .cxl port) (2 * port + 1)).up = false := by
  have hlink (q : Nat) : cxlLink (portBlockOut s .cxl port) q = cxlLink (linkLost (linkLost s (2 * port)) (2 * port + 1)) q := rfl
  simp [hlink, cxlLink_linkLost_up]

theorem portBlockOut_ifl_port (s : State) {port : Nat} (h : port < s.fabric.ports.length) :
    (portOf (portBlockOut s .ifl port) port).up = false ∧ (portOf (portBlockOut s .ifl port) port).inService = false := by
  have hport : portOf (portBlockOut s .ifl port) port =
      portOf (modPort (portDown s port) port (fun p => { p with inService := false })) port := by
    simp only [portBlockOut, portOf, unready_fabric]
  rw [hport, portOf_modPort, if_pos ⟨rfl, by rwa [portDown_length]⟩]
  exact ⟨portOf_portDown_up s port, rfl⟩

theorem getD_set_false (l : List Bool) (n : Nat) : ((l.set n false)[n]?).getD false = false := by
  by_cases h : n < l.length <;> simp [h]

theorem portBlockIn_portBlockOut (s : State) {kind : UnitKind} {port : Nat} (h : kind = .ifl → port < s.fabric.ports.length) :
    portBlockIn (portBlockOut s kind port) kind port = false := by
  cases kind
  case ifl => rw [portBlockIn, (portBlockOut_ifl_port s (h rfl)).2, Bool.false_and]
  case cxl =>
    rw [portBlockIn, portBlockOut_cxl_ports]
    exact getD_set_false ..
  all_goals rfl

theorem failPort_of_out {s : State} {kind : UnitKind} {port : Nat} (h : portBlockIn s kind port = false) (arg : Nat)
    (cause : Option (Nat × Nat)) : failPort s kind port arg cause = s := by
  simp [failPort, h]

/-- Beside its record and the word of it, the failure of a port in service takes it out. -/
theorem failPort_of_in {s : State} {kind : UnitKind} {port : Nat} (h : portBlockIn s kind port = true) (arg : Nat)
    (cause : Option (Nat × Nat)) :
    ∃ faults, failPort s kind port arg cause = tellChip (portBlockOut { s with faults := faults } kind port) := by
  simp only [failPort, h, Bool.not_true, Bool.false_eq_true, if_false]
  exact ⟨_, congrArg (fun u => tellChip (portBlockOut u kind port)) (raise_only ..)⟩

theorem failPort_retired (s : State) (kind : UnitKind) (port arg : Nat) (cause : Option (Nat × Nat)) :
    (failPort s kind port arg cause).units.retired = s.units.retired := by
  by_cases h : portBlockIn s kind port = true
  · obtain ⟨faults, hout⟩ := failPort_of_in h arg cause
    rw [hout, tellChip_units, portBlockOut_only]
  · rw [failPort_of_out (by simpa using h)]

theorem failPort_cxl_out (s : State) (port arg : Nat) (cause : Option (Nat × Nat)) :
    ((failPort s .cxl port arg cause).units.cxlPorts[port]?).getD false = false := by
  by_cases h : portBlockIn s .cxl port = true
  · obtain ⟨faults, hout⟩ := failPort_of_in h arg cause
    rw [hout, tellChip_units, portBlockOut_cxl_ports]
    exact getD_set_false ..
  · rw [failPort_of_out (by simpa using h)]
    simpa [portBlockIn] using h

/-- The outcome of PORT_FAILED on a port in service: the port is out, and a record, READY_N and messages tell of it. -/
theorem exec_portFailed_in {s : State} (ha : awake s = true) {kind : UnitKind} {port : Nat} (hin : portBlockIn s kind port = true)
    (cause : Nat) : ∃ t faults, exec (.portFailed kind port cause) s = .next t ∧
      SameService (portBlockOut { s with faults := faults } kind port) t := by
  obtain ⟨t, ht, hsame⟩ := act_failure s
    (fun s => failPort s kind port cause (if cause == 2 then none else blockCause s kind port)) ha
  obtain ⟨faults, hfail⟩ := failPort_of_in hin cause (if cause == 2 then none else blockCause s kind port)
  have htold : SameService (portBlockOut { s with faults := faults } kind port)
      (failPort s kind port cause (if cause == 2 then none else blockCause s kind port)) := hfail ▸ sameService_tellChip _
  exact ⟨t, faults, ht, htold.trans hsame⟩

/-! ### Cells (R37 to R39) -/

/-- A bank that leaves service loses the pages held there and no other (R39, R331). -/
theorem find_bankOut {s : State} (hheld : s.store.held = []) (hn : (s.store.pages.map (·.1)).Nodup) {k : Nat} {p : Page}
    (hp : Tbl.find s.store.pages k = some p) (tier : Tier) (unit cell : Nat) :
    Tbl.find (bankOut s tier unit cell).store.pages k =
      some (if onBank tier unit cell (k, p) = true then { p with phase := .lost } else p) := by
  have hloss {u : State} (hu : u.store = s.store) := find_losePages (congrArg Store.pages hu) hn hp
    (fun e => onBank tier unit cell e && e.2.phase != .lost) (onBank tier unit cell (k, p) = true) (by simp)
  unfold bankOut
  dsimp only
  split
  next hnone =>
    have h := hloss (u := s) rfl
    rw [hnone] at h
    rw [postEvents_store]
    exact h
  next =>
    rw [releaseLost_of_none_held, raise_store]
    · exact hloss (postEvents_store ..)
    · rw [raise_store, (KeepsBytes.foldl losePage_keepsBytes _ _).held, postEvents_store, hheld]

theorem bankOut_units {s : State} (hheld : s.store.held = []) (tier : Tier) (unit cell : Nat) :
    (bankOut s tier unit cell).units = s.units := by
  unfold bankOut
  dsimp only
  split
  next => exact postEvents_units ..
  next =>
    rw [releaseLost_of_none_held, raise_units, (KeepsBytes.foldl losePage_keepsBytes _ _).units, postEvents_units]
    rw [raise_store, (KeepsBytes.foldl losePage_keepsBytes _ _).held, postEvents_store, hheld]

theorem retireCell_of_none {s : State} {kind : UnitKind} {unit cell : Nat}
    (h : hasCell kind unit cell = false ∨ (kind, unit, cell) ∈ s.units.retired) (cause : Nat) :
    retireCell s kind unit cell cause = s := by
  obtain h | h := h <;> simp [retireCell, h]

/-- The state with a retired cell's record written and the cell marked. -/
def cellMarked (s : State) (kind : UnitKind) (unit cell cause : Nat) : State :=
  let s := raise s 0x0103 { kind := kind, inst := unit, cell := cell, arg := cause, cause := cellCause s kind unit cell }
  { s with units := { s.units with retired := s.units.retired ++ [(kind, unit, cell)] } }

theorem cellMarked_store (s : State) (kind : UnitKind) (unit cell cause : Nat) :
    (cellMarked s kind unit cell cause).store = s.store := raise_store ..

theorem cellMarked_units (s : State) (kind : UnitKind) (unit cell cause : Nat) :
    (cellMarked s kind unit cell cause).units = { s.units with retired := s.units.retired ++ [(kind, unit, cell)] } := by
  simp only [cellMarked, raise_units]

/-- What retires with a cell: a block, a port, a scanner's lane, or a bank of a tier (R33, R39). -/
theorem hasCell_cases {kind : UnitKind} {unit cell : Nat} (hc : hasCell kind unit cell = true) :
    (kind = .cluster ∨ kind = .flash ∧ cell < 2) ∨ (kind = .ifl ∨ kind = .cxl) ∨ (kind = .flash ∧ 2 ≤ cell) ∨
      ∃ tier, kind = .hbm ∧ tier = Tier.near ∨ kind = .ddr ∧ tier = .far := by
  cases kind
  case cluster => exact .inl (.inl rfl)
  case flash => exact (Nat.lt_or_ge cell 2).imp (fun h => .inr ⟨rfl, h⟩) (fun h => .inr (.inl ⟨rfl, h⟩))
  case ifl => exact .inr (.inl (.inl rfl))
  case cxl => exact .inr (.inl (.inr rfl))
  case hbm => exact .inr (.inr (.inr ⟨_, .inl ⟨rfl, rfl⟩⟩))
  case ddr => exact .inr (.inr (.inr ⟨_, .inr ⟨rfl, rfl⟩⟩))
  all_goals exact Bool.noConfusion hc

section RetireCell

variable {s : State} {kind : UnitKind} {unit cell : Nat} (hc : hasCell kind unit cell = true)
  (hr : (kind, unit, cell) ∉ s.units.retired) (hheld : s.store.held = []) (cause : Nat)

include hc hr

theorem cell_not_skipped : (!hasCell kind unit cell || s.units.retired.contains (kind, unit, cell)) = false := by
  simp [hc, hr]

theorem retireCell_block (hk : kind = .cluster ∨ kind = .flash ∧ cell < 2) :
    retireCell s kind unit cell cause =
      isolateBlock (cellMarked s kind unit cell cause) kind unit 0 (newestRecord (cellMarked s kind unit cell cause) 1) := by
  have hskip := cell_not_skipped hc hr
  obtain rfl | ⟨rfl, hcell⟩ := hk
  · have hstage : isStage .cluster cell = true := (Bool.and_eq_true_iff.mp hc).2
    simp only [retireCell, hskip, hstage, Bool.false_eq_true, if_false, if_true]
    rfl
  · have hstage : isStage .flash cell = true := decide_eq_true hcell
    simp only [retireCell, hskip, hstage, Bool.false_eq_true, if_false, if_true]
    rfl

theorem retireCell_port (hk : kind = .ifl ∨ kind = .cxl) :
    retireCell s kind unit cell cause =
      failPort (cellMarked s kind unit cell cause) kind unit 1 (newestRecord (cellMarked s kind unit cell cause) 1) := by
  have hskip := cell_not_skipped hc hr
  have hstage : isStage kind cell = true := by obtain rfl | rfl := hk <;> exact (Bool.and_eq_true_iff.mp hc).2
  simp only [retireCell, hskip, hstage, Bool.false_eq_true, if_false, if_true]
  obtain rfl | rfl := hk <;> rfl

theorem retireCell_scanner (hk : kind = .flash ∧ 2 ≤ cell) :
    retireCell s kind unit cell cause = { cellMarked s kind unit cell cause with
      units := { (cellMarked s kind unit cell cause).units with
        flash := s.units.flash.modify unit (fun f => { f with lanesUp := f.lanesUp - 1 }) } } := by
  obtain ⟨rfl, hcell⟩ := hk
  have hskip := cell_not_skipped hc hr
  have hstage : isStage .flash cell = false := decide_eq_false (Nat.not_lt.mpr hcell)
  simp only [retireCell, hskip, hstage, kindTier, Bool.false_eq_true, if_false, cellMarked, raise_units]

theorem retireCell_bank {tier : Tier} (hk : kind = .hbm ∧ tier = .near ∨ kind = .ddr ∧ tier = .far) :
    retireCell s kind unit cell cause = bankOut (cellMarked s kind unit cell cause) tier unit cell := by
  have hskip := cell_not_skipped hc hr
  have hstage : isStage kind cell = false := by obtain ⟨rfl, -⟩ | ⟨rfl, -⟩ := hk <;> rfl
  simp only [retireCell, hskip, hstage, Bool.false_eq_true, if_false]
  obtain ⟨rfl, rfl⟩ | ⟨rfl, rfl⟩ := hk <;> rfl

theorem retireCell_cluster_out (hk : kind = .cluster) : clusterIn (retireCell s kind unit cell cause) unit = false := by
  rw [retireCell_block hc hr cause (.inl hk), hk]
  exact isolateBlock_cluster_out ..

theorem retireCell_cxl_out (hk : kind = .cxl) :
    ((retireCell s kind unit cell cause).units.cxlPorts[unit]?).getD false = false := by
  rw [retireCell_port hc hr cause (.inr hk), hk]
  exact failPort_cxl_out ..

include hheld

theorem retireCell_flash_out (hk : kind = .flash) (hcell : cell < 2) :
    unitIn (retireCell s kind unit cell cause) .deep unit = false := by
  rw [retireCell_block hc hr cause (.inr ⟨hk, hcell⟩)]
  exact isolateBlock_memory_out (hk ▸ rfl) unit (by rw [cellMarked_store, hheld]) ..

theorem find_retireCell (hn : (s.store.pages.map (·.1)).Nodup) {tier : Tier}
    (hk : kind = .hbm ∧ tier = .near ∨ kind = .ddr ∧ tier = .far) {k : Nat} {p : Page}
    (hp : Tbl.find s.store.pages k = some p) : Tbl.find (retireCell s kind unit cell cause).store.pages k =
      some (if onBank tier unit cell (k, p) = true then { p with phase := .lost } else p) := by
  have hstore := cellMarked_store s kind unit cell cause
  rw [retireCell_bank hc hr cause hk]
  exact find_bankOut (hstore ▸ hheld) (hstore ▸ hn) (hstore ▸ hp) ..

/-- What goes with a cell changes no mark of a retired one: the cell stays retired (R38). -/
theorem retireCell_retired :
    (retireCell s kind unit cell cause).units.retired = s.units.retired ++ [(kind, unit, cell)] := by
  have hmarked : (cellMarked s kind unit cell cause).units.retired = s.units.retired ++ [(kind, unit, cell)] := by
    rw [cellMarked_units]
  have hnone : (cellMarked s kind unit cell cause).store.held = [] := by rw [cellMarked_store, hheld]
  obtain hk | hk | hk | ⟨tier, hk⟩ := hasCell_cases hc
  · rw [retireCell_block hc hr cause hk, isolateBlock_retired hnone, hmarked]
  · rw [retireCell_port hc hr cause hk, failPort_retired, hmarked]
  · rw [retireCell_scanner hc hr cause hk, hmarked]
  · rw [retireCell_bank hc hr cause hk, bankOut_units hnone, hmarked]

end RetireCell

/-! ### Die-to-die links and dies (R25, R42) -/

/-- The effect of D2D_LANE_FAULT. -/
def d2dLosesModule (link : Nat) (s : State) : State :=
  match (s.units.d2d[link]?).getD 0 with
  | 0 => s
  | 1 => linkDown s link 0 none
  | n + 2 => raise { s with units := { s.units with d2d := s.units.d2d.set link (n + 1) } } 0x0301
      { kind := .d2d, inst := link, arg := n + 1 }

theorem exec_d2dLaneFault (link : Nat) (s : State) :
    exec (.d2dLaneFault link) s = act s (fun s => healthEvents s (d2dLosesModule link s)) := rfl

theorem d2dLosesModule_none {s : State} {link : Nat} (h : (s.units.d2d[link]?).getD 0 = 0) : d2dLosesModule link s = s := by
  simp [d2dLosesModule, h]

/-- A link that loses a module records how many it has left; with its last one it is down (R25). -/
theorem d2dLosesModule_some {s : State} {link n : Nat} (h : s.units.d2d[link]? = some (n + 1)) :
    d2dLosesModule link s = raise { s with units := { s.units with d2d := s.units.d2d.set link n } }
      (if n = 0 then 0x0307 else 0x0301) { kind := .d2d, inst := link, arg := n } := by
  cases n <;> simp [d2dLosesModule, h, linkDown]

theorem exec_d2dLaneFault_none {s : State} {link : Nat} (ha : awake s = true) (h : (s.units.d2d[link]?).getD 0 = 0) :
    exec (.d2dLaneFault link) s = .next s := by
  have hnone := d2dLosesModule_none h
  rw [exec_d2dLaneFault, act_healthEvents s (d2dLosesModule link) ha (by rw [hnone]), hnone, healthEvents_same]

/-- The outcome of D2D_LANE_FAULT on a link with modules left: one fewer, a record that names the link, and event records. -/
theorem exec_d2dLaneFault_some {s : State} {link n : Nat} (ha : awake s = true) (hr : s.faults.rings.length = 4)
    (h : s.units.d2d[link]? = some (n + 1)) : ∃ t f, exec (.d2dLaneFault link) s = .next t ∧
      t = { s with
        outbox := t.outbox, faults := t.faults, units := { s.units with d2d := s.units.d2d.set link n }
        cxl := { s.cxl with lds := t.cxl.lds } } ∧
      newestFault t (faultClass f.code).1 = some f ∧ f.code = (if n = 0 then 0x0307 else 0x0301) ∧ f.kind = .d2d ∧
      f.inst = link := by
  have hloses := d2dLosesModule_some h
  have hclass : (faultClass (if n = 0 then 0x0307 else 0x0301)).1 = 3 := by split <;> rfl
  obtain ⟨f, hnew, hcode, hkind, hinst⟩ := newestFault_raise { s with units := { s.units with d2d := s.units.d2d.set link n } }
    (if n = 0 then 0x0307 else 0x0301) { kind := .d2d, inst := link, arg := n } rfl (by rw [hclass, hr]; decide)
  have hquiet : (d2dLosesModule link s).outbox = s.outbox := by rw [hloses, raise_outbox]
  refine ⟨_, f, (exec_d2dLaneFault link s).trans (act_healthEvents s (d2dLosesModule link) ha hquiet), ?_, ?_, hcode, hkind,
    hinst⟩
  · rw [healthEvents_only, hloses, raise_only]
  · rw [healthEvents_only, hloses, hcode]
    exact hnew

theorem linkDown_units (s : State) (n arg : Nat) (cause : Option (Nat × Nat)) :
    (linkDown s n arg cause).units = { s.units with d2d := s.units.d2d.set n 0 } := raise_units ..

theorem linkDown_store (s : State) (n arg : Nat) (cause : Option (Nat × Nat)) : (linkDown s n arg cause).store = s.store :=
  raise_store ..

/-- Links with some of them down. -/
def linksDown (links ns : List Nat) : List Nat := ns.foldl (fun l n => l.set n 0) links

theorem getD_linksDown (ns : List Nat) (links : List Nat) (n : Nat) :
    ((linksDown links ns)[n]?).getD 0 = if n ∈ ns then 0 else (links[n]?).getD 0 := by
  induction ns generalizing links with
  | nil => simp [linksDown]
  | cons m rest ih =>
    have hone : ((links.set m 0)[n]?).getD 0 = if n = m then 0 else (links[n]?).getD 0 := by
      by_cases hm : n = m
      · subst hm
        by_cases hn : n < links.length <;> simp [hn]
      · simp [hm, Ne.symm hm]
    have hstep := ih (links.set m 0)
    rw [hone] at hstep
    rw [linksDown, List.foldl_cons]
    refine hstep.trans ?_
    by_cases hm : n = m <;> by_cases hr : n ∈ rest <;> simp [hm, hr]

theorem foldl_linkDown_units (arg : Nat) (cause : Option (Nat × Nat)) (ns : List Nat) (s : State) :
    (ns.foldl (fun s n => linkDown s n arg cause) s).units = { s.units with d2d := linksDown s.units.d2d ns } := by
  induction ns generalizing s with
  | nil => rfl
  | cons n rest ih =>
    rw [List.foldl_cons, ih, linkDown_units]
    rfl

/-- The die-to-die links of an E-die (R42). -/
def eDieLinks (die : Nat) : List Nat := [8 + die, 10, die, 2 + die, 4 + die, 6 + die]

/-- The clusters of an E-die, isolated one by one. -/
def eDieStopped (s : State) (die : Nat) : State :=
  ((List.range 16).map (· + 16 * die)).foldl (fun s c => isolateBlock s .cluster c 1 none) s

theorem KeepsClusters.mono {stays stays' : Nat → Prop} {u v : Units} (h : KeepsClusters stays u v)
    (hs : ∀ c, stays' c → stays c) : KeepsClusters stays' u v := ⟨h.only, fun c hc => h.serves c (hs c hc)⟩

theorem eDieStopped_keepsOthers (s : State) (die : Nat) :
    KeepsClusters (fun c => clusterDie c ≠ die) s.units (eDieStopped s die).units := by
  refine List.foldlRecOn (motive := fun t => KeepsClusters (fun c => clusterDie c ≠ die) s.units t.units) _ _ (.refl _)
    fun t ht c hc => ht.trans ((isolateBlock_cluster_keepsOthers t c 1 none).mono ?_)
  rintro d hd rfl
  obtain ⟨i, hi, rfl⟩ := List.mem_map.mp hc
  have hi : i < 16 := List.mem_range.mp hi
  exact hd (by unfold clusterDie; omega)

theorem eDieFails_of_out {s : State} {die : Nat} (h : 2 ≤ die ∨ die ∈ s.units.eDiesOut) : eDieFails s die = s := by
  obtain h | h := h <;> simp [eDieFails, h]

section EDie

variable {s : State} {die : Nat} (hd : die < 2) (ho : die ∉ s.units.eDiesOut)

include hd ho

theorem eDieFails_eq : ∃ u : State, eDieFails s die = { u with units := { u.units with eDiesOut := u.units.eDiesOut ++ [die] } } ∧
    u.store = s.store ∧ u.units = { (eDieStopped s die).units with
      d2d := linksDown (eDieStopped s die).units.d2d (eDieLinks die) } := by
  have hskip : (decide (2 ≤ die) || s.units.eDiesOut.contains die) = false := by simp [hd, ho]
  unfold eDieFails
  rw [hskip, if_neg Bool.false_ne_true]
  refine ⟨_, rfl, ?_, foldl_linkDown_units 1 none (eDieLinks die) (eDieStopped s die)⟩
  exact (foldl_same State.store (fun s n => linkDown_store s n 1 none) _ (eDieStopped s die)).trans
    (foldl_same State.store (fun s c => isolateBlock_cluster_store s c 1 none) _ s)

theorem eDieFails_store : (eDieFails s die).store = s.store := by
  obtain ⟨u, h, hstore, -⟩ := eDieFails_eq hd ho
  rw [h, ← hstore]

/-- With an E-die go its links and its clusters, and nothing else (R42). -/
theorem eDieFails_keepsOthers : KeepsClusters (fun c => clusterDie c ≠ die)
    { s.units with d2d := linksDown s.units.d2d (eDieLinks die), eDiesOut := s.units.eDiesOut ++ [die] }
    (eDieFails s die).units := by
  obtain ⟨u, h, -, hunits⟩ := eDieFails_eq hd ho
  obtain ⟨honly, hserves⟩ := eDieStopped_keepsOthers s die
  rw [h]
  refine ⟨?_, fun c hc => ?_⟩
  · simp only [hunits]
    rw [honly]
  · simp only [clusterServes, hunits]
    exact hserves c hc

end EDie

/-! ### Regions (R43) -/

theorem isolateRegion_of_out {s : State} {k : Nat} (h : 4 ≤ k ∨ k ∈ s.units.regionsOut) : isolateRegion s k = s := by
  obtain h | h := h <;> simp [isolateRegion, regionIn, h]

theorem KeepsClusters.regionsOut {stays : Nat → Prop} {u v : Units} (h : KeepsClusters stays u v) (ks : List Nat) :
    KeepsClusters stays { u with regionsOut := u.regionsOut ++ ks } { v with regionsOut := v.regionsOut ++ ks } :=
  ⟨by rw [h.only], h.serves⟩

/-- The units of a hub whose region is isolated, its clusters' work aside. -/
def regionUnits (u : Units) (k : Nat) : Units :=
  { u with d2d := linksDown u.d2d [2 * k, 2 * k + 1], regionsOut := u.regionsOut ++ [k] }

section Region

variable {s : State} {k : Nat} (hk : k < 4) (ho : k ∉ s.units.regionsOut)

include hk ho

/-- Once a region's links are closed and its clusters stopped, its memory is lost; journals and event records follow. -/
theorem isolateRegion_eq (stays : Nat → Prop) : ∃ (u : State) (cause : Option (Nat × Nat)), u.store = s.store ∧
    KeepsClusters stays (regionUnits s.units k) u.units ∧
    (isolateRegion s k).units = (memoryLost u (fun t n => tierRegion t n == k) .region k cause).units ∧
    (isolateRegion s k).store = (memoryLost u (fun t n => tierRegion t n == k) .region k cause).store := by
  have hskip : (decide (4 ≤ k) || !regionIn s k) = false := by simp [regionIn, hk, ho]
  unfold isolateRegion
  rw [hskip, if_neg Bool.false_ne_true]
  extract_lets raised fault cause closed stopped src out noHbm noDdr noFlash unreadied lost journal told
  have hclosed : closed.units = { s.units with d2d := linksDown s.units.d2d [2 * k, 2 * k + 1] } := by
    simp only [closed, linkDown_units, raised, raise_units]
    rfl
  have hunits : unreadied.units = { stopped.units with regionsOut := stopped.units.regionsOut ++ [k] } := by
    simp only [unreadied, noFlash, noDdr, noHbm, unready_units, unreadyAll_units]
    rfl
  have hstop : KeepsClusters stays closed.units stopped.units := stopClusters_keepsClusters stays closed _
  have hstore : unreadied.store = s.store := by
    simp only [unreadied, noFlash, noDdr, noHbm, out, stopped, closed, raised, unready_store, unreadyAll_store,
      stopClusters_store, linkDown_store, raise_store]
  refine ⟨unreadied, cause, hstore, ?_, ?_, ?_⟩
  · clear_value unreadied stopped closed
    have hout := hstop.regionsOut [k]
    rw [hclosed] at hout
    exact hunits ▸ hout
  · have htold : told.units = lost.units := by simp only [told, journal, postEvents_units, modJournal_units]
    clear_value told fault
    cases fault <;> exact htold
  · have htold : told.store = lost.store := by simp only [told, journal, postEvents_store, modJournal_store]
    clear_value told fault
    cases fault <;> exact htold

variable (hheld : s.store.held = [])

include hheld

theorem isolateRegion_keepsClusters (stays : Nat → Prop) :
    KeepsClusters stays (regionUnits s.units k) (isolateRegion s k).units := by
  obtain ⟨u, cause, hstore, hkeep, hunits, -⟩ := isolateRegion_eq hk ho stays
  rw [hunits]
  exact hkeep.trans (memoryLost_keepsClusters (hstore ▸ hheld) _ _ _ _ stays)

theorem isolateRegion_mem : (isolateRegion s k).store.mem = s.store.mem := by
  obtain ⟨u, cause, hstore, -, -, hlost⟩ := isolateRegion_eq hk ho fun _ => True
  rw [hlost, memoryLost_mem (hstore ▸ hheld), hstore]

theorem find_isolateRegion (hn : (s.store.pages.map (·.1)).Nodup) {i : Nat} {p : Page} (hp : Tbl.find s.store.pages i = some p)
    (hm : isMoving s i = false) : Tbl.find (isolateRegion s k).store.pages i =
      some (if tierRegion p.tier p.unit = k then { p with phase := .lost } else p) := by
  obtain ⟨u, cause, hstore, -, -, hlost⟩ := isolateRegion_eq hk ho fun _ => True
  have hmu : isMoving u i = false := by rw [isMoving, hstore]; exact hm
  rw [hlost, find_memoryLost (hstore ▸ hheld) _ _ _ _ (hstore ▸ hn) (hstore ▸ hp) hmu]
  simp only [beq_iff_eq]

end Region

/-! ### The failures of units -/

/-- Settles O54: each failure's effect is followed by READY_N, event records and flits alone, and takes out what it names: a module
of a link, the pages of a die, the block, port, lane or bank of a cell, a block, a region, an E-die, the X-die or a port. -/
theorem failedUnitsLeaveService : Obligations.FailedUnitsLeaveService := by
  refine ⟨fun s link ha hr => ⟨fun n h => exec_d2dLaneFault_some ha hr h, exec_d2dLaneFault_none ha⟩,
    fun s channel pages ha hn => ?flashDie,
    fun s kind unit cell cause ha hn => ⟨fun h hy => ?noCell, fun hc hr hheld => ?cell⟩,
    fun s kind unit ha hn => ⟨fun h hy => ?noBlock, fun hk hin => ?cluster, fun tier hk hin hheld => ?memory⟩,
    fun s k ha hn => ⟨fun h hy => ?noRegion, fun hk ho hheld => ?region⟩,
    fun s die ha => ⟨fun h hy => ?noEDie, fun hd ho => ?eDie⟩, fun s ha => ?xDie,
    fun s kind port cause ha => ⟨fun h hy => ?noPort, fun hin hifl => ?port⟩⟩
  case flashDie =>
    exact ⟨_, exec_flashDieFailure ha channel pages, flashDieFails_only s channel pages,
      fun k p hp => find_flashDieFails hn hp channel pages⟩
  case noCell => exact act_failure_none s (fun s => retireCell s kind unit cell cause) ha hy (retireCell_of_none h cause)
  case cell =>
    obtain ⟨t, ht, hsame⟩ := act_failure s (fun s => retireCell s kind unit cell cause) ha
    refine ⟨t, ht, ?_, fun hk hcell => ?_, fun hk => ?_, fun hk hcell => ?_, fun hk => ?_, fun tier hk k p hp => ?_⟩
    · rw [hsame.units, retireCell_retired hc hr hheld]
    · rw [hsame.store, hsame.units, retireCell_scanner hc hr cause ⟨hk, hcell⟩]
      exact ⟨cellMarked_store .., rfl⟩
    · rw [hsame.clusterIn, retireCell_cluster_out hc hr cause hk]
    · rw [hsame.unitIn, retireCell_flash_out hc hr hheld cause hk hcell]
    · rw [hsame.units, retireCell_cxl_out hc hr cause hk]
    · rw [hsame.store, find_retireCell hc hr hheld cause hn hk hp]
  case noBlock => exact act_failure_none s (fun s => isolateBlock s kind unit 1 none) ha hy (isolateBlock_of_out h 1 none)
  case cluster =>
    subst hk
    obtain ⟨t, ht, hsame⟩ := act_failure s (fun s => isolateBlock s .cluster unit 1 none) ha
    refine ⟨t, ht, ?_, fun c hc => ?_, ?_, ?_⟩
    · rw [hsame.clusterIn, isolateBlock_cluster_out]
    · rw [hsame.clusterIn, (isolateBlock_cluster_keepsOthers s unit 1 none).clusterIn hc]
    · rw [hsame.store, isolateBlock_cluster_store]
    · rw [hsame.works, isolateBlock_cluster_works s unit 1 none hin]
  case memory =>
    obtain ⟨t, ht, hsame⟩ := act_failure s (fun s => isolateBlock s kind unit 1 none) ha
    refine ⟨t, ht, ?_, ?_, fun k p hp hm => ?_⟩
    · rw [hsame.unitIn, isolateBlock_memory_out hk unit hheld]
    · rw [hsame.store, isolateBlock_memory_mem hk hin hheld]
    · rw [hsame.store, find_isolateBlock hk hin hheld 1 none hn hp hm]
  case noRegion => exact act_failure_none s (fun s => isolateRegion s k) ha hy (isolateRegion_of_out h)
  case region =>
    obtain ⟨t, ht, hsame⟩ := act_failure s (fun s => isolateRegion s k) ha
    have hunits := (isolateRegion_keepsClusters hk ho hheld fun _ => True).only
    have hout : t.units.regionsOut = s.units.regionsOut ++ [k] := by
      rw [hsame.units, hunits]
      rfl
    refine ⟨t, ht, hout, ?_, fun tier u hu => ?_, fun c hc => ?_, ?_, fun i p hp hm => ?_⟩
    · rw [hsame.units, hunits]
      rfl
    · exact unitIn_of_regionOut (by simp [hu, hout])
    · exact clusterIn_of_regionOut (by simp [hc, hout])
    · rw [hsame.store, isolateRegion_mem hk ho hheld]
    · rw [hsame.store, find_isolateRegion hk ho hheld hn hp hm]
  case noEDie => exact act_failure_none s (fun s => eDieFails s die) ha hy (eDieFails_of_out h)
  case eDie =>
    obtain ⟨t, ht, hsame⟩ := act_failure s (fun s => eDieFails s die) ha
    have hkeep := eDieFails_keepsOthers hd ho
    have hout : t.units.eDiesOut = s.units.eDiesOut ++ [die] := by rw [hsame.units, hkeep.only]
    refine ⟨t, ht, hout, fun c hc => ?_, fun c hc => ?_, fun n hn => ?_, ?_⟩
    · exact clusterIn_of_eDieOut (by simp [hc, hout])
    · rw [hsame.clusterIn, KeepsClusters.clusterIn (s := { s with units := _ }) hkeep hc]
      simp [clusterIn, regionIn, hc]
    · rw [hsame.units, hkeep.only, getD_linksDown]
      exact if_pos hn
    · rw [hsame.store, eDieFails_store hd ho]
  case xDie =>
    change execXDieFailure s = _
    rw [execXDieFailure]
    exact act_quiet s _ ha rfl
  case noPort =>
    exact act_failure_none s (fun s => failPort s kind port cause (if cause == 2 then none else blockCause s kind port)) ha hy
      (failPort_of_out h _ _)
  case port =>
    obtain ⟨t, faults, ht, hout⟩ := exec_portFailed_in ha hin cause
    refine ⟨t, ht, ?_, fun hk => ⟨?_, fun _ => ?_⟩, fun hk => ⟨?_, ?_⟩, ?_, ?_, ?_⟩
    · rw [hout.portBlockIn, portBlockIn_portBlockOut { s with faults := faults } hifl]
    · subst hk
      rw [hout.units, portBlockOut_cxl_ports]
    · subst hk
      simp only [cxlLink, hout.links]
      exact portBlockOut_cxl_links ..
    · subst hk
      rw [hout.up]
      exact (portBlockOut_ifl_port { s with faults := faults } (hifl rfl)).1
    · subst hk
      rw [hout.inService]
      exact (portBlockOut_ifl_port { s with faults := faults } (hifl rfl)).2
    · rw [hout.store, portBlockOut_only]
    · rw [hout.works, portBlockOut_only]
    · rw [hout.comp, portBlockOut_only]

end Sys2Proof.Machine

/-! Random sources that fail and pass their test (R114), and the counters of the Clove sketches (R265, R268):
RandomSourcesAndClovesCount. -/

namespace Sys2Proof

/-- An entry of a table whose every value changes by its key. -/
theorem Tbl.find_map_value {α β : Type} (t : Tbl α) (f : Nat → α → β) (k : Nat) :
    Tbl.find (t.map fun e => (e.1, f e.1 e.2)) k = (Tbl.find t k).map (f k) := by
  induction t with
  | nil => rfl
  | cons e t ih =>
    by_cases hk : e.1 = k
    · simp [Tbl.find, hk]
    · simp [Tbl.find, hk, ih]

end Sys2Proof

namespace Sys2Proof.Machine

open Sys2Proof

/-! ### Random sources (R114) -/

/-- The hub with a random source among those that fail. -/
def listSource (cluster lane : Nat) (s : State) : State :=
  if s.units.srFailing.contains (cluster, lane) then s
  else { s with units := { s.units with srFailing := s.units.srFailing ++ [(cluster, lane)], srFailSeen := true } }

/-- The hub with a random source among those that pass. -/
def unlistSource (cluster lane : Nat) (s : State) : State :=
  { s with units := { s.units with srFailing := s.units.srFailing.filter (· != (cluster, lane)) } }

/-- The effect of SR_SOURCE_FAIL. -/
def sourceFails (cluster lane : Nat) (s : State) : State :=
  raise (listSource cluster lane s) 0x0403 { kind := .cluster, inst := cluster, arg := lane }

theorem exec_srSourceFail (cluster lane : Nat) (s : State) :
    exec (.srSourceFail cluster lane) s = act s (fun s => healthEvents s (sourceFails cluster lane s)) := rfl

theorem exec_srSourcePass (cluster lane : Nat) (s : State) :
    exec (.srSourcePass cluster lane) s = act s (fun s => healthEvents s (unlistSource cluster lane s)) := rfl

theorem listSource_only (cluster lane : Nat) (s : State) :
    listSource cluster lane s = { s with units := (listSource cluster lane s).units } := by
  unfold listSource
  split <;> rfl

theorem mem_listSource (cluster lane : Nat) (s : State) (x : Nat × Nat) :
    x ∈ (listSource cluster lane s).units.srFailing ↔ x ∈ s.units.srFailing ∨ x = (cluster, lane) := by
  unfold listSource
  split
  next h =>
    have hlisted : (cluster, lane) ∈ s.units.srFailing := by simpa using h
    exact ⟨.inl, fun hx => hx.elim id fun he => he ▸ hlisted⟩
  next => simp

theorem mem_unlistSource (cluster lane : Nat) (s : State) (x : Nat × Nat) :
    x ∈ (unlistSource cluster lane s).units.srFailing ↔ x ∈ s.units.srFailing ∧ x ≠ (cluster, lane) := by
  simp [unlistSource]

theorem sourceFails_only (cluster lane : Nat) (s : State) : sourceFails cluster lane s =
    { s with units := (listSource cluster lane s).units, faults := (sourceFails cluster lane s).faults } := by
  rw [sourceFails, raise_only, listSource_only]

/-- The newest block-level record names the cluster of the source that failed. -/
theorem newestFault_sourceFails (cluster lane : Nat) {s : State} (hr : s.faults.rings.length = 4) :
    ∃ r, newestFault (sourceFails cluster lane s) 1 = some r ∧ r.code = 0x0403 ∧ r.kind = .cluster ∧ r.inst = cluster := by
  refine newestFault_raise (listSource cluster lane s) 0x0403 { kind := .cluster, inst := cluster, arg := lane } rfl ?_
  rw [listSource_only, hr]
  decide

/-- SR_SOURCE_FAIL has its effect, and event records. -/
theorem exec_srSourceFail_awake {s : State} (ha : awake s = true) (cluster lane : Nat) :
    exec (.srSourceFail cluster lane) s = .next (healthEvents s (sourceFails cluster lane s)) :=
  (exec_srSourceFail cluster lane s).trans (act_healthEvents s (sourceFails cluster lane) ha (by rw [sourceFails_only]))

/-- SR_SOURCE_PASS has its effect, and event records. -/
theorem exec_srSourcePass_awake {s : State} (ha : awake s = true) (cluster lane : Nat) :
    exec (.srSourcePass cluster lane) s = .next (healthEvents s (unlistSource cluster lane s)) :=
  (exec_srSourcePass cluster lane s).trans (act_healthEvents s (unlistSource cluster lane) ha rfl)

/-! ### The counters of the sketches (R265, R268) -/

/-- A counter of a sketch once a cluster's sketch is halved: its key names its slice. -/
def halvedCounter (cluster key value : Nat) : Nat := if key / 262144 = cluster then value / 2 else value

/-- The hub with a cluster's sketch halved and its count of counts begun anew. -/
def halveSketch (cluster : Nat) (s : State) : State :=
  { s with embed := { s.embed with
      sketch := s.embed.sketch.map fun e => (e.1, halvedCounter cluster e.1 e.2)
      counts := Tbl.put s.embed.counts cluster 0 } }

theorem at_halveSketch (cluster : Nat) (s : State) (k : Nat) :
    Tbl.at (halveSketch cluster s).embed.sketch k 0 = halvedCounter cluster k (Tbl.at s.embed.sketch k 0) := by
  simp only [Tbl.at, halveSketch, Tbl.find_map_value]
  cases Tbl.find s.embed.sketch k with
  | none => simp [halvedCounter]
  | some v => rfl

theorem exec_cloveHalve_due {s : State} (ha : awake s = true) {cluster : Nat}
    (hdue : 2 ^ 20 ≤ Tbl.at s.embed.counts cluster 0) : exec (.cloveHalve cluster) s = .next (halveSketch cluster s) := by
  have hentry : (fun e : Nat × Nat => if e.1 / 262144 == cluster then (e.1, e.2 / 2) else e) =
      fun e => (e.1, halvedCounter cluster e.1 e.2) := by
    funext e
    by_cases h : e.1 / 262144 = cluster <;> simp [halvedCounter, h]
  change execCloveHalve cluster s = _
  rw [execCloveHalve, act_quiet s _ ha (by rw [if_neg (by omega)]), if_neg (by omega), hentry]
  rfl

theorem exec_cloveClear {s : State} (ha : awake s = true) (who : Sender) :
    exec (.cloveClear who) s = .next (clearSketches s) := act_quiet s clearSketches ha rfl

/-- Settles O11: the effect of each of the four commands, of which those of a random source post event records besides. -/
theorem randomSourcesAndClovesCount : Obligations.RandomSourcesAndClovesCount := by
  unfold Obligations.RandomSourcesAndClovesCount
  refine ⟨fun s cluster lane ha hr => ?fail, fun s cluster lane ha => ?pass, fun s cluster ha hdue => ?halve,
    fun s who ha => ⟨_, exec_cloveClear ha who, rfl, fun _ => rfl⟩⟩
  case fail =>
    refine ⟨_, exec_srSourceFail_awake ha cluster lane, ?_⟩
    obtain ⟨r, hnew, hnames⟩ := newestFault_sourceFails cluster lane hr
    rw [healthEvents_only, sourceFails_only]
    rw [sourceFails_only] at hnew
    exact ⟨(mem_listSource ..).mpr (.inr rfl), fun x hx => (mem_listSource ..).mpr (.inl hx), ⟨r, hnew, hnames⟩, rfl, rfl, rfl⟩
  case pass =>
    refine ⟨_, exec_srSourcePass_awake ha cluster lane, ?_⟩
    rw [healthEvents_only]
    exact ⟨mem_unlistSource cluster lane s, rfl, rfl, rfl, rfl⟩
  case halve =>
    exact ⟨_, exec_cloveHalve_due ha hdue, rfl, Tbl.at_put_same .., fun c hc => Tbl.at_put_other _ _ _ hc,
      at_halveSketch cluster s⟩

end Sys2Proof.Machine

/-! Where segments go, and clusters that change their shape (R156 to R159): SegmentGoesToLeastLoadedCluster,
ClustersChangeShapeWhenIdle. -/

namespace Sys2Proof

theorem leastBy_eq_none_iff {α : Type} (key : α → Nat) (l : List α) : leastBy key l = none ↔ l = [] := by
  cases l with
  | nil => simp [leastBy]
  | cons a t =>
    simp only [leastBy, reduceCtorEq, iff_false]
    split
    · simp
    · split <;> simp

/-- Of a rising list, leastBy takes the lowest of the elements with the least key. -/
theorem leastBy_eq_some {key : Nat → Nat} {l : List Nat} (hl : l.Pairwise (· < ·)) {c : Nat} (h : leastBy key l = some c) :
    c ∈ l ∧ ∀ d ∈ l, key c < key d ∨ (key c = key d ∧ c ≤ d) := by
  induction l generalizing c with
  | nil => simp [leastBy] at h
  | cons a t ih =>
    obtain ⟨ha, ht⟩ := List.pairwise_cons.mp hl
    simp only [leastBy] at h
    split at h
    next hnone =>
      obtain rfl := (leastBy_eq_none_iff key t).mp hnone
      obtain rfl := Option.some.inj h
      simp
    next b hb =>
      obtain ⟨hmem, hleast⟩ := ih ht hb
      split at h
      next hlt =>
        obtain rfl := Option.some.inj h
        exact ⟨List.mem_cons_of_mem a hmem, List.forall_mem_cons.mpr ⟨.inl hlt, hleast⟩⟩
      next hge =>
        obtain rfl := Option.some.inj h
        refine ⟨List.mem_cons_self, List.forall_mem_cons.mpr ⟨.inr ⟨rfl, Nat.le_refl _⟩, fun d hd => ?_⟩⟩
        have had := ha d hd
        have hbd := hleast d hd
        omega

end Sys2Proof

namespace Sys2Proof.Machine

open Sys2Proof

/-! ### One cluster, one descriptor -/

theorem lt_length_of_clusterIn {s : State} {c : Nat} (h : clusterIn s c = true) : c < s.units.clusters.length := by
  refine Nat.lt_of_not_le fun hc => ?_
  simp [clusterIn, List.getElem?_eq_none hc] at h

theorem clusterOf_modCluster_same {s : State} {c : Nat} (hc : c < s.units.clusters.length) (f : Cluster → Cluster) :
    clusterOf (modCluster s c f) c = f (clusterOf s c) := by
  simp [clusterOf, hc]

theorem clusterOf_modCluster_other (s : State) {c d : Nat} (hd : d ≠ c) (f : Cluster → Cluster) :
    clusterOf (modCluster s c f) d = clusterOf s d := by
  simp [clusterOf, Ne.symm hd]

theorem workOf_key {s : State} {q : Nat} {n : Seq48} {w : Work} (h : workOf s q n = some w) : w.queue = q ∧ w.seq = n := by
  simpa using List.find?_some h

/-- A descriptor after a change of one that keeps its queue and number. -/
theorem workOf_modWork (s : State) (q : Nat) (n : Seq48) {f : Work → Work}
    (hf : ∀ x, (f x).queue = x.queue ∧ (f x).seq = x.seq) (q' : Nat) (n' : Seq48) : workOf (modWork s q n f) q' n' =
      (workOf s q' n').map (fun w => if w.queue == q && w.seq == n then f w else w) := by
  rw [workOf, modWork_works, List.find?_map]
  refine congrArg (Option.map _) (congrArg (fun p => List.find? p s.works) (funext fun x => ?_))
  rw [Function.comp_apply]
  split
  · rw [(hf x).1, (hf x).2]
  · rfl

theorem workOf_modWork_same {s : State} {q : Nat} {n : Seq48} {w : Work} (h : workOf s q n = some w) {f : Work → Work}
    (hf : ∀ x, (f x).queue = x.queue ∧ (f x).seq = x.seq) : workOf (modWork s q n f) q n = some (f w) := by
  obtain ⟨hq, hn⟩ := workOf_key h
  simp [workOf_modWork s q n hf, h, hq, hn]

theorem modWork_otherWorksKept (s : State) (q : Nat) (n : Seq48) {f : Work → Work}
    (hf : ∀ x, (f x).queue = x.queue ∧ (f x).seq = x.seq) : OtherWorksKept q n s (modWork s q n f) := by
  intro q' n' hne
  rw [workOf_modWork s q n hf]
  cases h : workOf s q' n' with
  | none => rfl
  | some w =>
    obtain ⟨hq, hn⟩ := workOf_key h
    simp only [Option.map_some, hq, hn, beq_iff_eq, Bool.and_eq_true, hne, if_false]

/-! ### The cluster that a segment goes to (R156) -/

/-- A cluster takes the shape of a descriptor. -/
def AbleCluster (s : State) (w : Work) (d : Nat) : Prop := d < 32 ∧ takesShape s w.shape d = true

/-- A cluster of the journal's region takes the shape of a descriptor and has fewer than DEPTH segments pending. -/
def NearCluster (s : State) (w : Work) (d : Nat) : Prop :=
  d < 32 ∧ takesShape s w.shape d = true ∧ (d % 16) / 4 = w.region ∧ pendingOn (clusterOf s d) < schedDepth s

/-- A cluster is the one with the fewest pending segments of those that a test admits, the lowest-numbered of equals. -/
def LeastLoaded (s : State) (p : Nat → Prop) (c : Nat) : Prop :=
  p c ∧ ∀ d, p d →
    pendingOn (clusterOf s c) < pendingOn (clusterOf s d) ∨ (pendingOn (clusterOf s c) = pendingOn (clusterOf s d) ∧ c ≤ d)

/-- The clusters that take the shape of a descriptor, in order. -/
def ableClusters (s : State) (w : Work) : List Nat := (List.range 32).filter (takesShape s w.shape)

/-- Those of the journal's region with fewer than DEPTH segments pending. -/
def nearClusters (s : State) (w : Work) : List Nat :=
  (ableClusters s w).filter (fun c => clusterRegion c == w.region && decide (pendingOn (clusterOf s c) < schedDepth s))

theorem mem_ableClusters (s : State) (w : Work) (d : Nat) : d ∈ ableClusters s w ↔ AbleCluster s w d := by
  simp [ableClusters, AbleCluster]

theorem mem_nearClusters (s : State) (w : Work) (d : Nat) : d ∈ nearClusters s w ↔ NearCluster s w d := by
  simp [nearClusters, mem_ableClusters, AbleCluster, NearCluster, clusterRegion, and_assoc]

theorem fewestPending_leastLoaded {s : State} {l : List Nat} (hl : l.Pairwise (· < ·)) {p : Nat → Prop}
    (hp : ∀ d, d ∈ l ↔ p d) {c : Nat} (h : fewestPending s l = some c) : LeastLoaded s p c := by
  obtain ⟨hmem, hleast⟩ := leastBy_eq_some hl h
  exact ⟨(hp c).mp hmem, fun d hd => hleast d ((hp d).mpr hd)⟩

theorem fewestPending_of_none {s : State} {l : List Nat} {p : Nat → Prop} (hp : ∀ d, d ∈ l ↔ p d)
    (h : fewestPending s l = none) : ¬ ∃ d, p d := by
  rintro ⟨d, hd⟩
  have hmem := (hp d).mpr hd
  rw [(leastBy_eq_none_iff _ l).mp h] at hmem
  exact List.not_mem_nil hmem

theorem chooseCluster_eq (s : State) (w : Work) :
    chooseCluster s w = (fewestPending s (nearClusters s w)).or (fewestPending s (ableClusters s w)) := by
  unfold chooseCluster nearClusters ableClusters
  dsimp only
  split
  next c h => rw [h, Option.some_or]
  next h => rw [h, Option.none_or]

/-- Where some cluster takes the shape, one is chosen: the least loaded near one, or else the least loaded of all. -/
theorem chooseCluster_some {s : State} {w : Work} (h : ∃ d, AbleCluster s w d) :
    ∃ c, chooseCluster s w = some c ∧ AbleCluster s w c ∧
      ((∃ d, NearCluster s w d) → LeastLoaded s (NearCluster s w) c) ∧
      ((¬ ∃ d, NearCluster s w d) → LeastLoaded s (AbleCluster s w) c) := by
  have hrise : (ableClusters s w).Pairwise (· < ·) := List.pairwise_lt_range.filter _
  rw [chooseCluster_eq]
  cases hnear : fewestPending s (nearClusters s w) with
  | some c =>
    have hleast : LeastLoaded s (NearCluster s w) c := fewestPending_leastLoaded (hrise.filter _) (mem_nearClusters s w) hnear
    obtain ⟨hlt, htakes, -⟩ := hleast.1
    exact ⟨c, rfl, ⟨hlt, htakes⟩, fun _ => hleast, fun hno => absurd ⟨c, hleast.1⟩ hno⟩
  | none =>
    have hno := fewestPending_of_none (mem_nearClusters s w) hnear
    cases hable : fewestPending s (ableClusters s w) with
    | none => exact absurd h (fewestPending_of_none (mem_ableClusters s w) hable)
    | some c =>
      have hleast : LeastLoaded s (AbleCluster s w) c := fewestPending_leastLoaded hrise (mem_ableClusters s w) hable
      exact ⟨c, rfl, hleast.1, fun hex => absurd hex hno, fun _ => hleast⟩

/-! ### Placement (R156, R157) -/

theorem clusterIn_of_takesShape {s : State} {shape c : Nat} (h : takesShape s shape c = true) : clusterIn s c = true := by
  simp only [takesShape, Bool.and_eq_true] at h
  exact h.1.1

theorem pendingOn_addSegment (x : Cluster) (g : Segment) : pendingOn (addSegment x g) = pendingOn x + 1 := by
  unfold addSegment pendingOn
  split
  · simp only [List.length_append, List.length_singleton]
    omega
  · simp only [List.length_append, List.length_singleton]
    omega

/-- A descriptor with one more segment placed, its first on a cluster. -/
def placedOn (c : Nat) (x : Work) : Work :=
  { x with placed := x.placed + 1, cluster := if x.placed == 0 then c else x.cluster }

theorem placeOn_eq (s : State) (w : Work) (c : Nat) : placeOn s w c =
    modWork (modCluster s c (fun x => addSegment x { queue := w.queue, seq := w.seq, number := w.placed, shape := w.shape }))
      w.queue w.seq (placedOn c) := rfl

theorem placedOn_eq (c : Nat) (x : Work) :
    placedOn c x = { x with placed := x.placed + 1, cluster := if x.placed = 0 then c else x.cluster } := by
  simp [placedOn]

theorem clusterOf_placeOn_other (s : State) (w : Work) {c d : Nat} (hd : d ≠ c) : clusterOf (placeOn s w c) d = clusterOf s d :=
  clusterOf_modCluster_other s hd _

theorem pendingOn_placeOn {s : State} {c : Nat} (hc : c < s.units.clusters.length) (w : Work) :
    pendingOn (clusterOf (placeOn s w c) c) = pendingOn (clusterOf s c) + 1 :=
  (congrArg pendingOn (clusterOf_modCluster_same hc _)).trans (pendingOn_addSegment ..)

theorem workOf_placeOn {s : State} {w : Work} (hw : workOf s w.queue w.seq = some w) (c : Nat) :
    workOf (placeOn s w c) w.queue w.seq = some (placedOn c w) :=
  workOf_modWork_same (s := modCluster s c _) hw fun _ => ⟨rfl, rfl⟩

theorem placeOn_otherWorksKept (s : State) (w : Work) (c : Nat) : OtherWorksKept w.queue w.seq s (placeOn s w c) :=
  modWork_otherWorksKept (modCluster s c _) _ _ fun _ => ⟨rfl, rfl⟩

theorem exec_segmentPlace (queue : Nat) (seq : Seq48) (s : State) :
    exec (.segmentPlace queue seq) s = act s (fun s => placeSegment scanHeld s queue seq) := rfl

theorem placeSegment_placed {held : State → Work → Bool} {s : State} {queue : Nat} {seq : Seq48} {w : Work}
    (hw : workOf s queue seq = some w) (hop : w.desc.opcode = 1)
    (hphase : w.phase = .ready ∨ w.phase = .waiting ∨ w.phase = .formed) (hmore : w.placed < segmentCount w)
    (hplacing : placing s = true) (hbefore : placedBefore s w = true) (hreplay : awaitsReplay s w = false)
    (hheld : held s w = false) {c : Nat} (hc : chooseCluster s w = some c) :
    placeSegment held s queue seq = placeOn s w c := by
  have hruns : (w.phase == .ready || w.phase == .waiting || w.phase == .formed) = true := by simpa [or_assoc] using hphase
  simp [placeSegment, hw, hop, hruns, hmore, hplacing, hbefore, hreplay, hheld, hc]

/-- Settles O9: the cluster is the one that chooseCluster finds, and the segment is one more pending on it. -/
theorem segmentGoesToLeastLoadedCluster : Obligations.SegmentGoesToLeastLoadedCluster := by
  intro s queue seq w ha hw hop hphase hmore hplacing hbefore hreplay hheld hable
  obtain ⟨c, hchoose, ⟨hlt, htakes⟩, hnear, hall⟩ := chooseCluster_some hable
  have hplaced := placeSegment_placed hw hop hphase hmore hplacing hbefore hreplay hheld hchoose
  have hquiet := act_quiet s (fun s => placeSegment scanHeld s queue seq) ha (by rw [hplaced]; rfl)
  obtain ⟨hq, hn⟩ := workOf_key hw
  subst hq hn
  refine ⟨c, placeOn s w c, (exec_segmentPlace ..).trans (hquiet.trans (congrArg _ hplaced)), hlt, htakes, rfl,
    pendingOn_placeOn (lt_length_of_clusterIn (clusterIn_of_takesShape htakes)) w, fun d hd => clusterOf_placeOn_other s w hd,
    ?_, placeOn_otherWorksKept s w c, hnear, hall⟩
  rw [workOf_placeOn hw, placedOn_eq]

/-! ### A cluster loads a shape (R157, R158) -/

/-- A cluster loaded with a shape, and the segments that then move into flight. -/
def loadShape (shape : Nat) (x : Cluster) : Cluster := pullSegments { x with shape := some shape, draining := false }

/-- Segments move into flight in their order. -/
theorem pullSegments_append (x : Cluster) :
    (pullSegments x).inFlight ++ (pullSegments x).placed = x.inFlight ++ x.placed := by
  have hfirst : (x.placed.takeWhile (fun g => x.shape == some g.shape)).take (8 - x.inFlight.length) <+: x.placed :=
    (List.take_prefix ..).trans (List.takeWhile_prefix _)
  rw [pullSegments, List.append_assoc]
  exact congrArg _ (List.prefix_iff_eq_append.mp hfirst)

theorem pullSegments_length_le {x : Cluster} (h : x.inFlight.length ≤ 8) : (pullSegments x).inFlight.length ≤ 8 := by
  simp only [pullSegments, List.length_append, List.length_take]
  omega

theorem mem_pullSegments {x : Cluster} {g : Segment} (h : g ∈ (pullSegments x).inFlight) :
    g ∈ x.inFlight ∨ x.shape = some g.shape := by
  refine (List.mem_append.mp h).imp_right fun htaken => ?_
  have hloaded : (x.shape == some g.shape) = true :=
    List.all_eq_true.mp List.all_takeWhile g (List.mem_of_mem_take htaken)
  exact beq_iff_eq.mp hloaded

/-- The first waiting segment of the loaded shape moves where no other is in flight. -/
theorem pullSegments_moves {x : Cluster} {g : Segment} {rest : List Segment} (hnone : x.inFlight = [])
    (hplaced : x.placed = g :: rest) (hshape : x.shape = some g.shape) : 0 < (pullSegments x).inFlight.length := by
  simp [pullSegments, hnone, hplaced, hshape]

theorem exec_shapeChange {s : State} {cluster : Nat} {g : Segment} {rest : List Segment} (ha : awake s = true)
    (hplaced : (clusterOf s cluster).placed = g :: rest) (hnone : (clusterOf s cluster).inFlight = [])
    (hin : clusterIn s cluster = true) (hruns : coreRuns s (3 + cluster) = true) :
    exec (.shapeChange cluster) s = .next (modCluster s cluster (loadShape g.shape)) := by
  change execShapeChange cluster s = _
  unfold execShapeChange
  rw [act_quiet s _ ha]
  · simp only [hplaced, hnone, hin, hruns, List.isEmpty_nil, Bool.and_self, if_true]
    rfl
  · simp [hplaced, hnone, hin, hruns]

/-! ### Clusters that stop taking their shape (R159) -/

/-- A cluster that stops taking its shape. -/
def stopTaking (x : Cluster) : Cluster := { x with draining := true }

/-- DWELL_EXPIRY's effect in one region. -/
def dwellRegion (shape : Nat) (s : State) (k : Nat) : State :=
  match drainPick s shape k with
  | none => s
  | some c => modCluster s c stopTaking

theorem exec_dwellExpiry (shape : Nat) (s : State) :
    exec (.dwellExpiry shape) s = act s (fun s => (List.range 4).foldl (dwellRegion shape) s) := rfl

/-- A region's clusters in service. -/
def regionClusters (s : State) (k : Nat) : List Nat :=
  (List.range 32).filter (fun c => clusterRegion c == k && clusterIn s c)

theorem mem_regionClusters (s : State) (k c : Nat) :
    c ∈ regionClusters s k ↔ c < 32 ∧ clusterRegion c = k ∧ clusterIn s c = true := by
  simp [regionClusters]

theorem drainPick_eq (s : State) (shape k : Nat) : drainPick s shape k =
    if (regionClusters s k).any (fun c => (clusterOf s c).shape == some shape || (clusterOf s c).draining) then none
    else fewestPending s ((regionClusters s k).filter (fun c => (clusterOf s c).shape.isSome)) := rfl

theorem drainPick_mem {s : State} {shape k c : Nat} (h : drainPick s shape k = some c) : c ∈ regionClusters s k := by
  rw [drainPick_eq] at h
  split at h
  next => exact absurd h.symm (Option.some_ne_none c)
  next =>
    have hleast := fewestPending_leastLoaded ((List.pairwise_lt_range.filter _).filter _) (fun _ => .rfl) h
    exact (List.mem_filter.mp hleast.1).1

/-- A region picks a cluster when one has a shape, none the waiting one, and none is marked already. -/
theorem drainPick_some {s : State} {shape k : Nat} (hsome : ∃ c ∈ regionClusters s k, (clusterOf s c).shape.isSome = true)
    (hnone : ∀ c ∈ regionClusters s k, (clusterOf s c).shape ≠ some shape ∧ (clusterOf s c).draining = false) :
    ∃ c, drainPick s shape k = some c := by
  obtain ⟨c, hc, hshape⟩ := hsome
  have hany : (regionClusters s k).any
      (fun c => (clusterOf s c).shape == some shape || (clusterOf s c).draining) = false := by
    simpa using hnone
  rw [drainPick_eq, hany, if_neg Bool.false_ne_true]
  refine Option.ne_none_iff_exists'.mp fun h => ?_
  exact fewestPending_of_none (fun _ => .rfl) h ⟨c, List.mem_filter.mpr ⟨hc, hshape⟩⟩

theorem dwellRegion_cases (shape : Nat) (s : State) (k : Nat) : dwellRegion shape s k = s ∨
    ∃ c, clusterRegion c = k ∧ c < s.units.clusters.length ∧
      dwellRegion shape s k = modCluster s c stopTaking := by
  unfold dwellRegion
  split
  next => exact .inl rfl
  next c h =>
    obtain ⟨-, hk, hin⟩ := (mem_regionClusters s k c).mp (drainPick_mem h)
    exact .inr ⟨c, hk, lt_length_of_clusterIn hin, rfl⟩

theorem dwellRegion_only (shape : Nat) (s : State) (k : Nat) :
    dwellRegion shape s k = { s with units := { s.units with clusters := (dwellRegion shape s k).units.clusters } } := by
  obtain h | ⟨c, -, -, h⟩ := dwellRegion_cases shape s k
  · rw [h]
  · rw [h]
    rfl

theorem clusterOf_dwellRegion (shape : Nat) (s : State) (k c : Nat) : clusterOf (dwellRegion shape s k) c = clusterOf s c ∨
    clusterOf (dwellRegion shape s k) c = stopTaking (clusterOf s c) := by
  obtain h | ⟨d, -, hlen, h⟩ := dwellRegion_cases shape s k
  · exact .inl (by rw [h])
  · rw [h]
    by_cases hc : c = d
    · exact .inr (by rw [hc, clusterOf_modCluster_same hlen])
    · exact .inl (clusterOf_modCluster_other s hc _)

theorem clusterOf_dwellRegion_other (shape : Nat) (s : State) {k c : Nat} (hc : clusterRegion c ≠ k) :
    clusterOf (dwellRegion shape s k) c = clusterOf s c := by
  obtain h | ⟨d, hd, -, h⟩ := dwellRegion_cases shape s k
  · rw [h]
  · rw [h]
    exact clusterOf_modCluster_other s (fun e => hc (by rw [e, hd])) _

theorem clusterIn_dwellRegion (shape : Nat) (s : State) (k c : Nat) : clusterIn (dwellRegion shape s k) c = clusterIn s c := by
  obtain h | ⟨d, -, -, h⟩ := dwellRegion_cases shape s k
  · rw [h]
  · rw [h]
    exact (modCluster_keepsClusters (fun _ => True) s d (f := stopTaking) fun _ => rfl).clusterIn trivial

/-- Only clusters differ, and each is as it was or has stopped taking its shape. -/
structure Marked (s t : State) : Prop where
  only : t = { s with units := { s.units with clusters := t.units.clusters } }
  cluster : ∀ c, clusterOf t c = clusterOf s c ∨ clusterOf t c = stopTaking (clusterOf s c)

theorem Marked.draining {s t : State} (h : Marked s t) {c : Nat} (hc : (clusterOf s c).draining = true) :
    (clusterOf t c).draining = true := by
  obtain h | h := h.cluster c
  · rw [h, hc]
  · rw [h, stopTaking]

theorem Marked.trans {r s t : State} (h : Marked r s) (h' : Marked s t) : Marked r t where
  only := by rw [h'.only, h.only]
  cluster c := by
    obtain hc' | hc' := h'.cluster c
    · rw [hc']
      exact h.cluster c
    · rw [hc']
      obtain hc | hc := h.cluster c
      · exact .inr (congrArg stopTaking hc)
      · rw [hc]
        exact .inr rfl

theorem dwellRegion_marked (shape : Nat) (s : State) (k : Nat) : Marked s (dwellRegion shape s k) :=
  ⟨dwellRegion_only shape s k, clusterOf_dwellRegion shape s k⟩

theorem dwellRegions_marked (shape : Nat) (ks : List Nat) (s : State) : Marked s (ks.foldl (dwellRegion shape) s) :=
  foldl_keeps (Marked s) (dwellRegion shape) (fun t k ht => ht.trans (dwellRegion_marked shape t k)) ks s
    ⟨rfl, fun _ => .inl rfl⟩

/-- A region that has clusters with a shape, none of them of the waiting shape or marked. -/
structure MustDrain (s : State) (shape k : Nat) : Prop where
  hasShape : ∃ c ∈ regionClusters s k, (clusterOf s c).shape.isSome = true
  noneTakes : ∀ c ∈ regionClusters s k, (clusterOf s c).shape ≠ some shape ∧ (clusterOf s c).draining = false

theorem regionClusters_dwellRegion (shape : Nat) (s : State) (j k : Nat) :
    regionClusters (dwellRegion shape s j) k = regionClusters s k := by
  simp only [regionClusters, clusterIn_dwellRegion]

theorem MustDrain.other {s : State} {shape j k : Nat} (h : MustDrain s shape k) (hj : j ≠ k) :
    MustDrain (dwellRegion shape s j) shape k := by
  have hsame : ∀ c ∈ regionClusters s k, clusterOf (dwellRegion shape s j) c = clusterOf s c := fun c hc => by
    obtain ⟨-, hregion, -⟩ := (mem_regionClusters s k c).mp hc
    exact clusterOf_dwellRegion_other shape s (by rw [hregion]; exact hj.symm)
  obtain ⟨c, hc, hshape⟩ := h.hasShape
  refine ⟨⟨c, ?_, ?_⟩, fun d hd => ?_⟩
  · rw [regionClusters_dwellRegion]
    exact hc
  · rw [hsame c hc]
    exact hshape
  · rw [regionClusters_dwellRegion] at hd
    rw [hsame d hd]
    exact h.noneTakes d hd

theorem MustDrain.drains {s : State} {shape k : Nat} (h : MustDrain s shape k) :
    ∃ c ∈ regionClusters s k, (clusterOf (dwellRegion shape s k) c).draining = true := by
  obtain ⟨c, hc⟩ := drainPick_some h.hasShape h.noneTakes
  have hmem := drainPick_mem hc
  have hlen := lt_length_of_clusterIn ((mem_regionClusters s k c).mp hmem).2.2
  refine ⟨c, hmem, ?_⟩
  rw [dwellRegion, hc]
  exact congrArg Cluster.draining (clusterOf_modCluster_same hlen stopTaking)

/-- Each region that must drain a cluster has one marked once the regions are gone through. -/
theorem dwellRegions_drain {shape k : Nat} {ks : List Nat} (hk : k ∈ ks) {s : State} (h : MustDrain s shape k) :
    ∃ c ∈ regionClusters s k, (clusterOf (ks.foldl (dwellRegion shape) s) c).draining = true := by
  induction ks generalizing s with
  | nil => exact absurd hk List.not_mem_nil
  | cons j ks ih =>
    rw [List.foldl_cons]
    by_cases hj : j = k
    · subst hj
      obtain ⟨c, hc, hdrains⟩ := h.drains
      exact ⟨c, hc, (dwellRegions_marked shape ks _).draining hdrains⟩
    · have hks : k ∈ ks := (List.mem_cons.mp hk).resolve_left (Ne.symm hj)
      obtain ⟨c, hc, hdrains⟩ := ih hks (h.other hj)
      rw [regionClusters_dwellRegion] at hc
      exact ⟨c, hc, hdrains⟩

/-- Settles O10: SHAPE_CHANGE pulls the waiting segments of the first one's shape into flight; DWELL_EXPIRY goes through the
regions, each of which changes its own clusters alone. -/
theorem clustersChangeShapeWhenIdle : Obligations.ClustersChangeShapeWhenIdle := by
  refine ⟨fun s cluster g rest ha hplaced hnone hin hruns => ?load, fun s shape ha => ?dwell⟩
  case load =>
    have hload : clusterOf (modCluster s cluster (loadShape g.shape)) cluster = loadShape g.shape (clusterOf s cluster) :=
      clusterOf_modCluster_same (lt_length_of_clusterIn hin) _
    refine ⟨_, exec_shapeChange ha hplaced hnone hin hruns, rfl, fun d hd => clusterOf_modCluster_other s hd _, ?_⟩
    rw [hload]
    refine ⟨rfl, rfl, ?_, pullSegments_moves hnone hplaced rfl, pullSegments_length_le (by simp [hnone]), fun x hx => ?_⟩
    · rw [loadShape, pullSegments_append, hnone, hplaced, List.nil_append]
    · obtain hold | hshape := mem_pullSegments hx
      · rw [hnone] at hold
        exact absurd hold List.not_mem_nil
      · exact (Option.some.inj hshape).symm
  case dwell =>
    obtain ⟨honly, hcluster⟩ := dwellRegions_marked shape (List.range 4) s
    have hquiet := act_quiet s (fun s => (List.range 4).foldl (dwellRegion shape) s) ha (by rw [honly])
    refine ⟨_, (exec_dwellExpiry shape s).trans hquiet, honly, hcluster, fun k hk hex hall => ?_⟩
    have hmust : MustDrain s shape k := by
      refine ⟨?_, fun c hc => ?_⟩
      · obtain ⟨c, hlt, hregion, hin, hshape⟩ := hex
        exact ⟨c, (mem_regionClusters s k c).mpr ⟨hlt, hregion, hin⟩, hshape⟩
      · obtain ⟨hlt, hregion, hin⟩ := (mem_regionClusters s k c).mp hc
        exact hall c hlt hregion hin
    obtain ⟨c, hc, hdrains⟩ := dwellRegions_drain (List.mem_range.mpr hk) hmust
    obtain ⟨hlt, hregion, hin⟩ := (mem_regionClusters s k c).mp hc
    exact ⟨c, hlt, hregion, hin, hdrains⟩

end Sys2Proof.Machine

/-! Local writes that land whole (R68, R331, R605), plans that end with OK, and FILL (R604): FillWritesItsPattern. -/

namespace Sys2Proof.Machine

open Sys2Proof

/-! ### What a local write leaves unchanged -/

/-- A piece stored in its 64-byte unit. -/
def storePiece (s : State) (off : Nat) (data : List Byte) : State :=
  rawForm (curePoison (setMem s off data) (off / 64)) off

theorem writePiece_cases (s : State) (piece : Nat × List Byte) :
    writePiece s piece = s ∨ writePiece s piece = storePiece s piece.1 piece.2 := by
  unfold writePiece
  split
  next => exact .inl rfl
  next =>
    split
    · exact .inl rfl
    · split
      · exact .inl rfl
      · exact .inr rfl

theorem writePiece_only (s : State) (piece : Nat × List Byte) : writePiece s piece =
    { s with store := (writePiece s piece).store, embed := (writePiece s piece).embed } := by
  obtain h | h := writePiece_cases s piece
  · rw [h]
  · rw [h, storePiece, rawForm, modPage, curePoison, setMem, dropRows]

theorem putPiece_only (tenant writer : Nat) (s : State) (piece : Nat × List Byte) : putPiece tenant writer s piece =
    { s with store := (putPiece tenant writer s piece).store, embed := (putPiece tenant writer s piece).embed
             order := (putPiece tenant writer s piece).order } := by
  unfold putPiece
  split
  next => rfl
  next => rw [writePiece_only]

theorem putPieces_only (tenant writer : Nat) (pieces : List (Nat × List Byte)) (s : State) :
    pieces.foldl (putPiece tenant writer) s =
      { s with store := (pieces.foldl (putPiece tenant writer) s).store
               embed := (pieces.foldl (putPiece tenant writer) s).embed
               order := (pieces.foldl (putPiece tenant writer) s).order } := by
  refine foldl_keeps (fun t => t = { s with store := t.store, embed := t.embed, order := t.order }) _ (fun t piece ht => ?_)
    pieces s rfl
  rw [putPiece_only, ht]

theorem touch_only (s : State) (off len : Nat) :
    touch s off len = { s with store := { s.store with pages := (touch s off len).store.pages } } :=
  foldl_keeps (fun t => t = { s with store := { s.store with pages := t.store.pages } }) _
    (fun t page ht => by rw [ht]; rfl) (pagesOf off len) s rfl

theorem writeLocal_only (s : State) (tenant writer off : Nat) (data : List Byte) : writeLocal s tenant writer off data =
    { s with store := (writeLocal s tenant writer off data).store, embed := (writeLocal s tenant writer off data).embed
             order := (writeLocal s tenant writer off data).order } := by
  unfold writeLocal
  rw [touch_only, endLost, putPieces_only]

/-! ### Where every byte of a write lands -/

theorem memWrite_append (m : List Host.Cell) (a : Nat) (d e : List Byte) :
    memWrite m a (d ++ e) = memWrite (memWrite m a d) (a + d.length) e := by
  induction d generalizing m a with
  | nil => rfl
  | cons b d ih =>
    have hlen : a + (b :: d).length = a + 1 + d.length := by
      rw [List.length_cons]
      omega
    rw [hlen]
    exact ih (memPut m a b) (a + 1)

/-- A range whose bytes a write stores in memory: on pages that are there, not in a Published region, and covering whole each
poisoned unit that it touches (R331, R382, R605). -/
structure Storable (s : State) (off len : Nat) : Prop where
  page : ∀ a, off ≤ a → a < off + len → ∃ p, pageAt s a = some p ∧ pageGone s p = false
  plain : ∀ a, off ≤ a → a < off + len → regionOf s (pageOf a) = none
  whole : ∀ u ∈ s.store.poison, off < 64 * u + 64 → 64 * u < off + len → off ≤ 64 * u ∧ 64 * u + 64 ≤ off + len

theorem writePiece_stores {s : State} {off : Nat} {data : List Byte} {p : Page} (hp : pageAt s off = some p)
    (hgone : pageGone s p = false) (hwhole : data.length < 64 → off / 64 ∉ s.store.poison) :
    writePiece s (off, data) = storePiece s off data := by
  have hpoison : (decide (data.length < 64) && s.store.poison.contains (off / 64)) = false := by
    simpa using hwhole
  simp only [writePiece, hp, hgone, hpoison, Bool.false_eq_true, if_false]
  rfl

theorem storePiece_mem (s : State) (off : Nat) (data : List Byte) :
    (storePiece s off data).store.mem = memWrite s.store.mem off data := rfl

theorem mem_poison_of_storePiece {s : State} {off u : Nat} {data : List Byte} (h : u ∈ (storePiece s off data).store.poison) :
    u ∈ s.store.poison := (List.mem_filter (p := (· != off / 64)).mp h).1

theorem regionOf_congr {s t : State} (h : t.order = s.order) (page : Nat) : regionOf t page = regionOf s page := by
  rw [regionOf, regionOf, h]

theorem regionOf_storePiece (s : State) (off : Nat) (data : List Byte) (page : Nat) :
    regionOf (storePiece s off data) page = regionOf s page :=
  regionOf_congr (by rw [storePiece, rawForm, modPage_order, curePoison_order, setMem_order]) page

theorem pageGone_congr {s t : State} (h : t.units = s.units) (p : Page) : pageGone t p = pageGone s p := by
  rw [pageGone, pageGone, regionIn, regionIn, h]

theorem pageGone_storePiece (s : State) (off : Nat) (data : List Byte) (p : Page) :
    pageGone (storePiece s off data) p = pageGone s p :=
  pageGone_congr (by rw [storePiece, rawForm, modPage_units, curePoison_units, setMem_units]) p

theorem pageAt_storePiece (s : State) (off : Nat) (data : List Byte) (a : Nat) : pageAt (storePiece s off data) a =
    if pageOf a = pageOf off then (pageAt s a).map (rawUnit (off % Config.pageBytes / 4096)) else pageAt s a :=
  Tbl.find_alter ..

theorem pageGone_rawUnit (s : State) (unit : Nat) (p : Page) : pageGone s (rawUnit unit p) = pageGone s p := by
  unfold rawUnit
  split <;> rfl

/-- A piece stored within one unit leaves the range behind that unit storable. -/
theorem Storable.next {s : State} {off len n : Nat} (h : Storable s off len) (hn : (off + n) % 64 = 0) (hle : n ≤ len)
    (data : List Byte) : Storable (storePiece s off data) (off + n) (len - n) where
  page a hlo hhi := by
    obtain ⟨p, hp, hgone⟩ := h.page a (by omega) (by omega)
    rw [pageAt_storePiece, hp]
    split
    · exact ⟨_, rfl, by rw [pageGone_storePiece, pageGone_rawUnit, hgone]⟩
    · exact ⟨p, rfl, by rw [pageGone_storePiece, hgone]⟩
  plain a hlo hhi := by
    rw [regionOf_storePiece]
    exact h.plain a (by omega) (by omega)
  whole u hu hlo hhi := by
    have hwhole := h.whole u (mem_poison_of_storePiece hu) (by omega) (by omega)
    omega

theorem cutUnits_of_ne_nil (fuel off : Nat) {data : List Byte} (h : data ≠ []) : cutUnits (fuel + 1) off data =
    (off, data.take (64 - off % 64)) :: cutUnits fuel (off + (64 - off % 64)) (data.drop (64 - off % 64)) := by
  cases data with
  | nil => exact absurd rfl h
  | cons b t => rfl

@[simp] theorem cutUnits_nil (fuel off : Nat) : cutUnits fuel off [] = [] := by cases fuel <;> rfl

/-- The first piece of a storable range is stored: where its unit is poisoned, the range covers the unit, so the piece does. -/
theorem Storable.putPiece_first {s : State} {off : Nat} {data : List Byte} (h : Storable s off data.length)
    (hpos : 0 < data.length) (tenant writer : Nat) : putPiece tenant writer s (off, data.take (64 - off % 64)) =
      storePiece s off (data.take (64 - off % 64)) := by
  obtain ⟨p, hp, hgone⟩ := h.page off (Nat.le_refl _) (by omega)
  have hwhole : (data.take (64 - off % 64)).length < 64 → off / 64 ∉ s.store.poison := by
    intro hshort hpoison
    have hunit := h.whole _ hpoison (by omega) (by omega)
    rw [List.length_take] at hshort
    omega
  simp only [putPiece, h.plain off (Nat.le_refl _) (by omega)]
  exact writePiece_stores hp hgone hwhole

/-- Unit by unit, the bytes of a storable range are written to memory. -/
theorem putPieces_mem (tenant writer : Nat) {fuel : Nat} {s : State} {off : Nat} {data : List Byte}
    (hfuel : data.length < fuel) (h : Storable s off data.length) :
    ((cutUnits fuel off data).foldl (putPiece tenant writer) s).store.mem = memWrite s.store.mem off data := by
  induction fuel generalizing s off data with
  | zero => exact absurd hfuel (Nat.not_lt_zero _)
  | succ fuel ih =>
    by_cases hnil : data = []
    · rw [hnil, cutUnits_nil]
      rfl
    have hpos : 0 < data.length := List.length_pos_iff.mpr hnil
    rw [cutUnits_of_ne_nil fuel off hnil, List.foldl_cons, h.putPiece_first hpos]
    by_cases hlast : data.length ≤ 64 - off % 64
    · rw [List.drop_of_length_le hlast, List.take_of_length_le hlast, cutUnits_nil]
      exact storePiece_mem s off data
    · have hnext := h.next (n := 64 - off % 64) (by omega) (by omega) (data.take (64 - off % 64))
      have hlen : (data.take (64 - off % 64)).length = 64 - off % 64 := List.length_take_of_le (by omega)
      rw [← List.length_drop] at hnext
      rw [ih (by rw [List.length_drop]; omega) hnext, storePiece_mem, ← congrArg (off + ·) hlen, ← memWrite_append,
        List.take_append_drop]

theorem writeLocal_mem {s : State} {off : Nat} {data : List Byte} (h : Storable s off data.length) (tenant writer : Nat) :
    (writeLocal s tenant writer off data).store.mem = memWrite s.store.mem off data := by
  unfold writeLocal
  rw [touch_only]
  exact putPieces_mem tenant writer (Nat.lt_succ_self _) h

/-! ### A range that passes the check of a write -/

theorem pageOf_mem_pagesOf {off len a : Nat} (hlo : off ≤ a) (hhi : a < off + len) : pageOf a ∈ pagesOf off len := by
  have hlen : (len == 0) = false := by simp; omega
  simp only [pagesOf, hlen, pageOf, Bool.false_eq_true, if_false, List.mem_map, List.mem_range]
  have hfirst := Nat.div_le_div_right (c := Config.pageBytes) hlo
  have hlast : a / Config.pageBytes ≤ (off + len - 1) / Config.pageBytes := Nat.div_le_div_right (by omega)
  exact ⟨a / Config.pageBytes - off / Config.pageBytes, by omega, by omega⟩

theorem localWriteStatus_ok {s : State} {tenant writer off len : Nat} (h : localWriteStatus s tenant writer off len = .ok) :
    permits s tenant off len true = true ∧ rangeGone s off len = false ∧
      (touchesPublished s off len = false → partPoison s off len = false) := by
  unfold localWriteStatus at h
  split at h
  next => cases h
  next hpermits =>
    split at h
    next => cases h
    next =>
      split at h
      next => cases h
      next hbad =>
        simp only [Bool.or_eq_true, Bool.and_eq_true, Bool.not_eq_true', not_or, not_and, Bool.not_eq_true] at hbad
        obtain ⟨hgone, hpoison⟩ := hbad
        exact ⟨by simpa using hpermits, hgone, hpoison⟩

theorem exists_page_of_permits {s : State} {tenant off len : Nat} {write : Bool} (h : permits s tenant off len write = true)
    {i : Nat} (hi : i ∈ pagesOf off len) : ∃ p, Tbl.find s.store.pages i = some p := by
  simp only [permits, refusedPages, Bool.and_eq_true, List.isEmpty_iff, List.filter_eq_nil_iff] at h
  obtain ⟨-, hnone⟩ := h
  have hpage := hnone i hi
  cases hp : Tbl.find s.store.pages i with
  | none => simp [hp] at hpage
  | some p => exact ⟨p, rfl⟩

theorem storable_of_localWriteStatus {s : State} {tenant writer off len : Nat}
    (hok : localWriteStatus s tenant writer off len = .ok) (hplain : touchesPublished s off len = false) :
    Storable s off len := by
  obtain ⟨hpermits, hgone, hpoison⟩ := localWriteStatus_ok hok
  refine ⟨fun a hlo hhi => ?_, fun a hlo hhi => ?_, fun u hu hlo hhi => ?_⟩
  · have hmem := pageOf_mem_pagesOf hlo hhi
    obtain ⟨p, hp⟩ := exists_page_of_permits hpermits hmem
    have hthere := List.any_eq_false.mp hgone _ hmem
    refine ⟨p, hp, ?_⟩
    simpa [hp] using hthere
  · have hregion := List.any_eq_false.mp hplain _ (pageOf_mem_pagesOf hlo hhi)
    simpa using hregion
  · have hunit := List.any_eq_false.mp (hpoison hplain) u hu
    simpa [hlo, hhi] using hunit

/-! ### Writes resolved to this hub's memory -/

theorem saWellFormed_of_lt {sa : Nat} (h : sa < 2 ^ 60) : saWellFormed sa = true := by
  rw [saWellFormed, bits, Nat.shiftRight_eq_div_pow, Nat.div_eq_of_lt h]
  rfl

theorem resolve_here {s : State} {sa : Nat} (hsa : sa < 2 ^ 60) (hnode : saNode sa = hubNode s) (w : Work) (direct : Bool)
    (data : List Byte) (poison : Bool) : resolve s w direct { tva := false, addr := sa, data := data, poison := poison } =
      putHere s w direct (saOff sa) data poison := by
  simp [resolve, putSa, saWellFormed_of_lt hsa, hnode]

/-- A write that passes its check and waits for no page and no line lands where it points. -/
theorem putHere_lands {s : State} {w : Work} {off : Nat} {data : List Byte}
    (hok : localWriteStatus s w.tenant (hubNode s) off data.length = .ok) (hdeep : deepPages s off data.length = [])
    (hlines : linesToWrite s off data.length = []) (direct poison : Bool) : putHere s w direct off data poison =
      { puts := [{ target := .here off, data := data, poison := poison }] } := by
  cases direct <;> simp [putHere, hok, hdeep, hlines]

/-! ### The end of a descriptor -/

/-- A descriptor as its plan ends it, its writes issued. -/
def endedBy (p : Plan) (st : Status) (node : Nat) (delivered : Bool) (x : Work) : Work :=
  { x with status := worse x.status st, node := if worse x.status st == x.status then x.node else node,
           conv := x.conv ||| p.conv, count := p.count, result := p.result,
           follow := x.follow ++ p.follow, delivered := x.delivered || delivered, guards := [], phase := .applying }

theorem endWork_eq (s : State) (w : Work) (p : Plan) (st : Status) (node : Nat) (delivered : Bool) :
    endWork s w p st node delivered = modWork s w.queue w.seq (endedBy p st node delivered) := rfl

theorem endedBy_key (p : Plan) (st : Status) (node : Nat) (delivered : Bool) (x : Work) :
    (endedBy p st node delivered x).queue = x.queue ∧ (endedBy p st node delivered x).seq = x.seq := ⟨rfl, rfl⟩

/-- A descriptor whose writes are all visible. -/
def settled (x : Work) : Work := if x.phase == .applying && x.acks.isEmpty then { x with phase := .done } else x

theorem settled_key (x : Work) : (settled x).queue = x.queue ∧ (settled x).seq = x.seq := by
  unfold settled
  split <;> exact ⟨rfl, rfl⟩

theorem settle_answered {s : State} {queue : Nat} {seq : Seq48} (h : unanswered s queue seq = false) :
    settle s queue seq = modWork s queue seq settled := by
  rw [settle, h]
  rfl

theorem unanswered_congr {s t : State} (hfabric : t.fabric = s.fabric) (hheld : t.cxl.held = s.cxl.held) (queue : Nat)
    (seq : Seq48) : unanswered t queue seq = unanswered s queue seq := by
  unfold unanswered
  rw [hfabric, hheld]

theorem settle_endWork {s : State} {w : Work} (h : unanswered s w.queue w.seq = false) (p : Plan) (st : Status) (node : Nat)
    (delivered : Bool) : settle (endWork s w p st node delivered) w.queue w.seq =
      modWork (modWork s w.queue w.seq (endedBy p st node delivered)) w.queue w.seq settled := by
  rw [endWork_eq]
  exact settle_answered h

theorem settled_endedBy {w : Work} (h : w.acks = []) (p : Plan) (st : Status) (node : Nat) (delivered : Bool) :
    settled (endedBy p st node delivered w) = { endedBy p st node delivered w with phase := .done } := by
  simp [settled, endedBy, h]

theorem workOf_congr {s t : State} (h : t.works = s.works) (queue : Nat) (seq : Seq48) :
    workOf t queue seq = workOf s queue seq := by
  rw [workOf, workOf, h]

theorem OtherWorksKept.trans {queue : Nat} {seq : Seq48} {r s t : State} (h : OtherWorksKept queue seq r s)
    (h' : OtherWorksKept queue seq s t) : OtherWorksKept queue seq r t :=
  fun q n hne => (h' q n hne).trans (h q n hne)

/-- A descriptor with no answer outstanding is done as soon as its plan ends it (R344, R350). -/
theorem workOf_settle_endWork {s : State} {w : Work} (hw : workOf s w.queue w.seq = some w) (hacks : w.acks = [])
    (h : unanswered s w.queue w.seq = false) (p : Plan) (st : Status) (node : Nat) (delivered : Bool) :
    workOf (settle (endWork s w p st node delivered) w.queue w.seq) w.queue w.seq =
      some { endedBy p st node delivered w with phase := .done } := by
  rw [settle_endWork h, ← settled_endedBy hacks]
  exact workOf_modWork_same (workOf_modWork_same hw (endedBy_key p st node delivered)) settled_key

theorem settle_endWork_otherWorksKept {s : State} {w : Work} (h : unanswered s w.queue w.seq = false) (p : Plan)
    (st : Status) (node : Nat) (delivered : Bool) :
    OtherWorksKept w.queue w.seq s (settle (endWork s w p st node delivered) w.queue w.seq) := by
  rw [settle_endWork h]
  exact (modWork_otherWorksKept s _ _ (endedBy_key p st node delivered)).trans (modWork_otherWorksKept _ _ _ settled_key)

theorem settle_endWork_only {s : State} {w : Work} (h : unanswered s w.queue w.seq = false) (p : Plan) (st : Status)
    (node : Nat) (delivered : Bool) : settle (endWork s w p st node delivered) w.queue w.seq =
      { s with works := (settle (endWork s w p st node delivered) w.queue w.seq).works } := by
  rw [settle_endWork h]
  rfl

/-- A plan whose writes all resolve and that meets no status but OK makes its writes, in order, and ends its descriptor. -/
theorem runPlan_ok {s : State} {w : Work} {p : Plan} {puts : List Put} (hw : w.status = .ok) (hneeds : p.needs = [])
    (hst : p.status = .ok) (hrefused : p.refused = []) (hres : Resolved s w p = { puts := puts }) :
    runPlan s w p = settle (endWork (puts.foldl (putOne w) (spend s p.draws)) w p .ok p.node (!puts.isEmpty)) w.queue w.seq := by
  unfold Resolved at hres
  simp [runPlan, hneeds, hres, hw, hst, hrefused, worse, refuseAll]

theorem runShape_runs {s : State} {queue : Nat} {seq : Seq48} {w : Work} {shape : Nat} (hw : workOf s queue seq = some w)
    (hrun : mayRun s w shape = true) (plan : State → Work → Plan) :
    runShape s queue seq shape plan = runPlan s w (plan s w) := by
  simp [runShape, hw, hrun]

/-! ### FILL (R604) -/

/-- The bytes of a pattern at the addresses of a range. -/
def fillBytes (pattern addr len : Nat) : List Byte := (List.range len).map (fun i => fillByte pattern (addr + i))

@[simp] theorem length_fillBytes (pattern addr len : Nat) : (fillBytes pattern addr len).length = len := by simp [fillBytes]

theorem fillByte_eq (pattern addr : Nat) : fillByte pattern addr = BitVec.ofNat 8 (pattern / 256 ^ (addr % 8)) := by
  rw [fillByte, Nat.shiftRight_eq_div_pow, Nat.pow_mul]

theorem fillPlan_eq (s : State) {w : Work} (hcount : 0 < w.desc.count) (hflag : bit w.desc.flags 0 = false) : fillPlan s w =
    { count := w.desc.count
      writes := [{ tva := false, addr := w.desc.ptr0, data := fillBytes w.desc.arg0 w.desc.ptr0 w.desc.count }] } := by
  have hne : (w.desc.count == 0) = false := beq_false_of_ne (Nat.ne_of_gt hcount)
  simp only [fillPlan, hne, rowWrite, isTva, hflag, fillBytes, Bool.false_eq_true, if_false]

/-- The hub with a FILL's pattern stored. -/
def filled (s : State) (w : Work) : State :=
  writeLocal s w.tenant (hubNode s) (saOff w.desc.ptr0) (fillBytes w.desc.arg0 w.desc.ptr0 w.desc.count)

/-- A FILL whose range passes its check stores its pattern and ends. -/
theorem runPlan_fill {s : State} {w : Work} (hst : w.status = .ok) (hcount : 0 < w.desc.count)
    (hflag : bit w.desc.flags 0 = false) (hsa : w.desc.ptr0 < 2 ^ 60) (hnode : saNode w.desc.ptr0 = hubNode s)
    (hok : localWriteStatus s w.tenant (hubNode s) (saOff w.desc.ptr0) w.desc.count = .ok)
    (hlines : linesToWrite s (saOff w.desc.ptr0) w.desc.count = [])
    (hdeep : deepPages s (saOff w.desc.ptr0) w.desc.count = []) :
    runPlan s w (fillPlan s w) = settle (endWork (filled s w) w (fillPlan s w) .ok 0 true) w.queue w.seq := by
  have hput := putHere_lands (s := s) (w := w) (off := saOff w.desc.ptr0)
    (data := fillBytes w.desc.arg0 w.desc.ptr0 w.desc.count) (by rwa [length_fillBytes]) (by rwa [length_fillBytes])
    (by rwa [length_fillBytes]) false false
  have hres : Resolved s w (fillPlan s w) = { puts :=
      [{ target := .here (saOff w.desc.ptr0), data := fillBytes w.desc.arg0 w.desc.ptr0 w.desc.count, poison := false }] } := by
    rw [fillPlan_eq s hcount hflag, Resolved, List.map_singleton, resolve_here hsa hnode, hput]
    rfl
  have hplan := fillPlan_eq s hcount hflag
  rw [runPlan_ok hst (by rw [hplan]) (by rw [hplan]) (by rw [hplan]) hres, hplan]
  rfl

theorem filled_only (s : State) (w : Work) : filled s w =
    { s with store := (filled s w).store, embed := (filled s w).embed, order := (filled s w).order } := writeLocal_only ..

theorem filled_mem {s : State} {w : Work} (h : Storable s (saOff w.desc.ptr0) w.desc.count) : (filled s w).store.mem =
    memWrite s.store.mem (saOff w.desc.ptr0) (fillBytes w.desc.arg0 w.desc.ptr0 w.desc.count) :=
  writeLocal_mem (by rwa [length_fillBytes]) w.tenant (hubNode s)

/-- The byte at each address of the filled range is the pattern's. -/
theorem memByte_filled_inside {s : State} {w : Work} (hwf : Memory.wf s.store.mem = true)
    (h : Storable s (saOff w.desc.ptr0) w.desc.count) {i : Nat} (hi : i < w.desc.count) :
    memByte (filled s w).store.mem (saOff w.desc.ptr0 + i) = fillByte w.desc.arg0 (w.desc.ptr0 + i) := by
  rw [filled_mem h, memByte_memWrite_inside _ _ _ _ hwf (by rwa [length_fillBytes])]
  simp [fillBytes]

theorem memByte_filled_outside {s : State} {w : Work} (hwf : Memory.wf s.store.mem = true)
    (h : Storable s (saOff w.desc.ptr0) w.desc.count) {a : Nat}
    (ha : a < saOff w.desc.ptr0 ∨ saOff w.desc.ptr0 + w.desc.count ≤ a) :
    memByte (filled s w).store.mem a = memByte s.store.mem a := by
  rw [filled_mem h]
  exact memByte_memWrite_outside _ _ _ _ hwf (by rwa [length_fillBytes])

theorem exec_fill (queue : Nat) (seq : Seq48) (s : State) :
    exec (.fill queue seq) s = act s (fun s => runShape s queue seq shapeFill fillPlan) := rfl

/-- Settles O19: the range's bytes are stored unit by unit, and with no answer outstanding the descriptor is done. -/
theorem fillWritesItsPattern : Obligations.FillWritesItsPattern := by
  intro s queue seq w ha hw hrun hst hcount hflag hsa hnode hwf hok hplain hlines hdeep hanswered hacks
  obtain ⟨rfl, rfl⟩ := workOf_key hw
  have hstorable := storable_of_localWriteStatus hok hplain
  have honly := filled_only s w
  have hworks : (filled s w).works = s.works := by rw [honly]
  have hquiet : unanswered (filled s w) w.queue w.seq = false :=
    (unanswered_congr (by rw [honly]) (by rw [honly]) _ _).trans hanswered
  have heffect : runShape s w.queue w.seq shapeFill fillPlan =
      settle (endWork (filled s w) w (fillPlan s w) .ok 0 true) w.queue w.seq :=
    (runShape_runs hw hrun fillPlan).trans (runPlan_fill hst hcount hflag hsa hnode hok hlines hdeep)
  have hend := settle_endWork_only hquiet (fillPlan s w) .ok 0 true
  have hact := act_quiet s (fun s => runShape s w.queue w.seq shapeFill fillPlan) ha (by rw [heffect, hend, honly])
  refine ⟨_, (exec_fill ..).trans (hact.trans (congrArg _ heffect)), fun i hi => ?inside, fun a ha => ?outside,
    ⟨_, workOf_settle_endWork ((workOf_congr hworks ..).trans hw) hacks hquiet .., rfl, ?status, ?count⟩,
    fun q n hne => ?others, by rw [hend, honly], by rw [hend, honly], by rw [hend, honly]⟩
  case inside =>
    rw [hend, ← fillByte_eq]
    exact memByte_filled_inside hwf hstorable hi
  case outside =>
    rw [hend]
    exact memByte_filled_outside hwf hstorable ha
  case status => simp [endedBy, hst, worse]
  case count => simp [endedBy, fillPlan_eq s hcount hflag]
  case others =>
    exact (settle_endWork_otherWorksKept hquiet _ _ _ _ q n hne).trans (workOf_congr hworks q n)

end Sys2Proof.Machine

/-! Answers of other nodes to what a descriptor sent, and their timeouts (R233, R344, R370, R419):
AnswersAndTimeoutsEndTransactions. -/

namespace Sys2Proof.Machine

open Sys2Proof

/-! ### One descriptor changes -/

/-- A descriptor becomes `w`, up to its phase, and nothing else of the hub changes. -/
structure Becomes (q : Nat) (n : Seq48) (s t : State) (w : Work) : Prop where
  only : t = { s with works := t.works }
  others : OtherWorksKept q n s t
  work : ∃ phase, workOf t q n = some { w with phase := phase }

theorem Becomes.of_modWork {s : State} {q : Nat} {n : Seq48} {w : Work} (hw : workOf s q n = some w) {f : Work → Work}
    (hf : ∀ x, (f x).queue = x.queue ∧ (f x).seq = x.seq) : Becomes q n s (modWork s q n f) (f w) :=
  ⟨rfl, modWork_otherWorksKept s q n hf, (f w).phase, workOf_modWork_same hw hf⟩

/-- A change of the descriptor's phase is no matter. -/
theorem Becomes.rephase {q : Nat} {n : Seq48} {s t : State} {w : Work} (h : Becomes q n s t w) {g : Work → Work}
    (hg : ∀ x, ∃ phase, g x = { x with phase := phase }) : Becomes q n s (modWork t q n g) w := by
  have hkey (x : Work) : (g x).queue = x.queue ∧ (g x).seq = x.seq := by
    obtain ⟨phase, hx⟩ := hg x
    rw [hx]
    exact ⟨rfl, rfl⟩
  obtain ⟨phase, hw⟩ := h.work
  obtain ⟨phase', hw'⟩ := hg { w with phase := phase }
  refine ⟨?_, h.others.trans (modWork_otherWorksKept t q n hkey), phase', ?_⟩
  · rw [h.only]
    rfl
  · rw [workOf_modWork_same hw hkey, hw']

theorem Becomes.wake {q : Nat} {n : Seq48} {s t : State} {w : Work} (h : Becomes q n s t w) : Becomes q n s (wake t q n) w := by
  refine h.rephase fun x => ?_
  split
  · exact ⟨.ready, rfl⟩
  · exact ⟨x.phase, rfl⟩

theorem Becomes.settle {q : Nat} {n : Seq48} {s t : State} {w : Work} (h : Becomes q n s t w) :
    Becomes q n s (settle t q n) w := by
  cases hopen : unanswered t q n with
  | true => rwa [Machine.settle, if_pos hopen]
  | false =>
    rw [settle_answered hopen]
    refine h.rephase fun x => ?_
    unfold settled
    split
    · exact ⟨.done, rfl⟩
    · exact ⟨x.phase, rfl⟩

theorem Becomes.outbox {q : Nat} {n : Seq48} {s t : State} {w : Work} (h : Becomes q n s t w) : t.outbox = s.outbox := by
  rw [h.only]

/-! ### Outstanding transactions -/

theorem txOf_tag {s : State} {tag : Nat} {o : Outstanding} (h : txOf s tag = some o) : o.tag = tag := by
  simpa using List.find?_some h

@[simp] theorem txOf_closeTx_same (s : State) (tag : Nat) : txOf (closeTx s tag) tag = none := by
  simp [txOf]

/-- What a descriptor's answer does, its transaction closed first. -/
theorem Becomes.closes {q : Nat} {n : Seq48} {s t : State} {w : Work} {tag : Nat} (h : Becomes q n (closeTx s tag) t w) :
    txOf t tag = none ∧ OtherWorksKept q n s t ∧
      t = { s with works := t.works, fabric := { s.fabric with outstanding := t.fabric.outstanding } } := by
  refine ⟨?_, h.others, ?_⟩
  · rw [h.only]
    exact txOf_closeTx_same s tag
  · rw [h.only]
    rfl

/-! ### Statuses that join a descriptor's -/

/-- A descriptor whose status another one joins. -/
def joined (st : Status) (node : Nat) (x : Work) : Work :=
  if worse x.status st == x.status then x else { x with status := st, node := node }

theorem joinStatus_eq (s : State) (q : Nat) (n : Seq48) (st : Status) (node : Nat) :
    joinStatus s q n st node = modWork s q n (joined st node) := rfl

theorem joined_key (st : Status) (node : Nat) (x : Work) :
    (joined st node x).queue = x.queue ∧ (joined st node x).seq = x.seq := by
  unfold joined
  split <;> exact ⟨rfl, rfl⟩

theorem worse_eq_or (a b : Status) : worse a b = a ∨ worse a b = b := by
  unfold worse
  split
  · exact .inr rfl
  · exact .inl rfl

theorem joined_status (st : Status) (node : Nat) (x : Work) : (joined st node x).status = worse x.status st := by
  unfold joined
  split
  next hsame => exact (beq_iff_eq.mp hsame).symm
  next hdiffer =>
    obtain h | h := worse_eq_or x.status st
    · exact absurd (beq_iff_eq.mpr h) hdiffer
    · exact h.symm

theorem joinStatus_becomes {s : State} {q : Nat} {n : Seq48} {w : Work} (hw : workOf s q n = some w) (st : Status) (node : Nat) :
    Becomes q n s (settle (joinStatus s q n st node) q n) (joined st node w) := by
  rw [joinStatus_eq]
  exact (Becomes.of_modWork hw (joined_key st node)).settle

/-! ### Answers (R233, R344, R370) -/

section Answers

variable {s : State} {tag : Nat} {o : Outstanding} {q : Nat} {n : Seq48}

theorem act_of_eq {f : State → State} {t : State} (ha : awake s = true) (hf : f s = t) (ht : t.outbox = s.outbox) :
    act s f = .next t := by
  subst hf
  exact act_quiet s f ha ht

theorem cacheSectors_only (s : State) (o : Outstanding) (data : List Byte) :
    cacheSectors s o data = { s with order := { s.order with sectors := (cacheSectors s o data).order.sectors } } := by
  unfold cacheSectors
  cases learnedRegion s o.addr with
  | none => rfl
  | some r => simp only

/-- What LOAD_RSP hands to the descriptor that asked. -/
def loadAnswer (o : Outstanding) (status : Status) (data : List Byte) : Fetched :=
  { space := .store, addr := o.addr, status := status, node := o.node
    data := if status == .ok then exactly o.len data else ones o.len }

/-- The hub with the sectors cached that the answer of a plain read brings. -/
def loadCached (s : State) (o : Outstanding) (status : Status) (data : List Byte) : State :=
  if status == .ok then cacheSectors s o data else s

theorem loadCached_only (s : State) (o : Outstanding) (status : Status) (data : List Byte) :
    loadCached s o status data = { s with order := { s.order with sectors := (loadCached s o status data).order.sectors } } := by
  unfold loadCached
  split
  · exact cacheSectors_only s o data
  · rfl

/-- A descriptor that has got the answer of a read. -/
def given (f : Fetched) (x : Work) : Work := { x with fetched := x.fetched ++ [f] }

theorem gotFar_becomes {w : Work} (hw : workOf s q n = some w) (sa : Nat) (st : Status) (node : Nat) (data : List Byte) :
    Becomes q n s (gotFar s q n sa st node data)
      (given { space := .store, addr := sa, status := st, node := node, data := data } w) := by
  refine (?_ : Becomes q n s (modWork s q n _) _).wake
  exact Becomes.of_modWork (f := given _) hw fun _ => ⟨rfl, rfl⟩

theorem exec_loadRsp_plain (ha : awake s = true) (ho : txOf s tag = some o) (hawait : o.await = .load q n none) {w : Work}
    (hw : workOf s q n = some w) (status : Status) (epoch : Nat) (data : List Byte) :
    ∃ u, exec (.loadRsp o.node tag status epoch data) s = .next u ∧
      Becomes q n (loadCached (closeTx s tag) o status (loadAnswer o status data).data) u (given (loadAnswer o status data) w) := by
  have honly := loadCached_only (closeTx s tag) o status (loadAnswer o status data).data
  have hcached : workOf (loadCached (closeTx s tag) o status (loadAnswer o status data).data) q n = some w := by
    rw [honly]
    exact hw
  have hbecomes := gotFar_becomes hcached o.addr status o.node (loadAnswer o status data).data
  refine ⟨_, (act_of_eq ha ?_ ?_ : execLoadRsp o.node tag status epoch data s = _), hbecomes⟩
  · simp [ho, hawait, loadCached, loadAnswer]
  · rw [hbecomes.outbox, honly]
    rfl

theorem exec_storeAck_store (ha : awake s = true) (ho : txOf s tag = some o) (hawait : o.await = .store q n) {w : Work}
    (hw : workOf s q n = some w) (status : Status) :
    ∃ u, exec (.storeAck o.node tag status) s = .next u ∧ Becomes q n (closeTx s tag) u (joined status o.node w) := by
  have hbecomes := joinStatus_becomes (s := closeTx s tag) hw status o.node
  refine ⟨_, (act_of_eq ha ?_ hbecomes.outbox : execStoreAck o.node tag status s = _), hbecomes⟩
  simp [ho, hawait]

/-- A descriptor whose owner has answered a CHECK. -/
def markOwner (owner code : Nat) (x : Work) : Work :=
  { x with owners := x.owners.map (fun e => if e.1 == owner then (e.1, max e.2 code) else e) }

theorem exec_atomicRsp_check (ha : awake s = true) (ho : txOf s tag = some o) (hawait : o.await = .check q n) {w : Work}
    (hw : workOf s q n = some w) (status : Status) (olds : List Nat) :
    ∃ u, exec (.atomicRsp o.node tag status olds) s = .next u ∧
      Becomes q n (closeTx s tag) u (markOwner o.node (if status == .ok then 1 else 2) w) := by
  have hbecomes := (Becomes.of_modWork (s := closeTx s tag) (f := markOwner o.node (if status == .ok then 1 else 2)) hw
    fun _ => ⟨rfl, rfl⟩).settle
  refine ⟨_, (act_of_eq ha ?_ hbecomes.outbox : execAtomicRsp o.node tag status olds s = _), hbecomes⟩
  simp only [ho, hawait, bne_self_eq_false]
  rfl

end Answers
/-! ### Timeouts (R93, R419) -/

/-- The newest record of the code's level is the one that was raised, or one that it merged into (R565). -/
theorem newestFault_raise_cases (s : State) (code : Nat) (i : FaultInfo) (hi : i.level = none)
    (hlevel : (faultClass code).1 < s.faults.rings.length) : ∃ f, newestFault (raise s code i) (faultClass code).1 = some f ∧
      (f = faultRecord s code i ∨
        ∃ old, mergesInto (faultRecord s code i) old = true ∧ f = { old with merged := min 0xFFFF (old.merged + 1) }) := by
  have hl : (faultRecord s code i).level = (faultClass code).1 := by simp [faultRecord, hi]
  unfold raise
  simp only [hl, List.getElem?_eq_getElem hlevel]
  split
  next old hold =>
    split
    next hm => exact ⟨_, (newestFault_of_set s _ _ hlevel rfl).trans (getLast?_ringMerge hold), .inr ⟨old, hm, rfl⟩⟩
    next => exact ⟨_, (newestFault_of_set s _ _ hlevel rfl).trans (getLast?_ringPush _ _), .inl rfl⟩
  next => exact ⟨_, (newestFault_of_set s _ _ hlevel rfl).trans (getLast?_ringPush _ _), .inl rfl⟩

/-- A record names the node and the tenant of its fault, merged or not (R565). -/
theorem newestFault_raise_names (s : State) (code : Nat) (i : FaultInfo) (hi : i.level = none)
    (hlevel : (faultClass code).1 < s.faults.rings.length) : ∃ f, newestFault (raise s code i) (faultClass code).1 = some f ∧
      f.code = code ∧ f.node = i.node ∧ f.tenant = i.tenant := by
  obtain ⟨f, hf, rfl | ⟨old, hm, rfl⟩⟩ := newestFault_raise_cases s code i hi hlevel
  · exact ⟨_, hf, rfl, rfl, rfl⟩
  · simp only [mergesInto, Bool.and_eq_true, beq_iff_eq] at hm
    obtain ⟨⟨⟨⟨⟨⟨⟨-, hcode⟩, -⟩, -⟩, -⟩, htenant⟩, hnode⟩, -⟩ := hm
    exact ⟨_, hf, hcode, hnode, htenant⟩

/-- A timeout is seen by the FENCEs that wait for the message, and by no other descriptor. -/
theorem workOf_fenceLost {s : State} {q : Nat} {n : Seq48} {w : Work} (hw : workOf s q n = some w) (hop : w.desc.opcode ≠ 2)
    (tag node : Nat) : workOf (fenceLost s tag node) q n = some w := by
  unfold workOf fenceLost at *
  rw [List.find?_map]
  have hkey : (fun x : Work => x.queue == q && x.seq == n) ∘ (fun x : Work =>
      if x.desc.opcode == 2 && bits x.desc.param 0 2 == 2 && x.waits.contains tag && x.status == .ok && x.phase != .done then
        { x with status := .nodeUnreachable, node := node } else x) = fun x => x.queue == q && x.seq == n := by
    funext x
    rw [Function.comp_apply]
    split <;> rfl
  rw [hkey, hw]
  simp [hop]

section Timeout

variable {s : State} {tag : Nat} {o : Outstanding} {q : Nat} {n : Seq48}

/-- The hub whose transaction has timed out, with the fault record and what FENCEs see of it. -/
def timedOut (s : State) (o : Outstanding) : State := nodeTimeout (fenceLost (closeTx s o.tag) o.tag o.node) o

theorem timedOut_only (s : State) (o : Outstanding) : timedOut s o =
    { closeTx s o.tag with works := (timedOut s o).works, faults := (timedOut s o).faults } := by
  unfold timedOut nodeTimeout
  rw [raise_only]
  rfl

theorem newestFault_timedOut (hr : s.faults.rings.length = 4) (o : Outstanding) : ∃ r, newestFault (timedOut s o) 1 = some r ∧
    r.code = 0x0203 ∧ r.node = some o.node ∧ r.tenant = some o.tenant :=
  newestFault_raise_names _ 0x0203 _ rfl (by
    rw [show (fenceLost (closeTx s o.tag) o.tag o.node).faults = s.faults from rfl, hr]
    decide)

theorem workOf_timedOut {w : Work} (hw : workOf s q n = some w) (hop : w.desc.opcode ≠ 2) :
    workOf (timedOut s o) q n = some w :=
  (workOf_congr (raise_works _ _ _) q n).trans (workOf_fenceLost (s := closeTx s o.tag) hw hop o.tag o.node)

theorem exec_iflTimeout_store (ha : awake s = true) (ho : txOf s tag = some o) (hawait : o.await = .store q n) {w : Work}
    (hw : workOf s q n = some w) (hop : w.desc.opcode ≠ 2) :
    ∃ u, exec (.iflTimeout tag) s = .next u ∧ Becomes q n (timedOut s o) u (joined .nodeUnreachable o.node w) := by
  have hbecomes := joinStatus_becomes (workOf_timedOut (o := o) hw hop) .nodeUnreachable o.node
  refine ⟨_, (act_of_eq ha ?_ ?_ : execIflTimeout tag s = _), hbecomes⟩
  · simp only [ho, timeoutTx, timeoutEnd, hawait]
    rfl
  · rw [hbecomes.outbox, timedOut_only]
    rfl

end Timeout

/-! ### Answers that nothing waits for (R419) -/

section Strangers

variable {s : State} {src tag : Nat} (ha : awake s = true) (hno : ∀ o, txOf s tag = some o → o.node ≠ src)

include hno

theorem txOf_stranger : txOf s tag = none ∨ ∃ o, txOf s tag = some o ∧ (o.node != src) = true := by
  cases ho : txOf s tag with
  | none => exact .inl rfl
  | some o => exact .inr ⟨o, rfl, bne_iff_ne.mpr (hno o ho)⟩

include ha

theorem exec_storeAck_stranger (status : Status) : exec (.storeAck src tag status) s = .next s := by
  refine (act_of_eq ha ?_ rfl : execStoreAck src tag status s = _)
  obtain ho | ⟨o, ho, hne⟩ := txOf_stranger hno
  · simp only [ho]
  · simp only [ho, hne, if_true]

theorem exec_loadRsp_stranger (status : Status) (epoch : Nat) (data : List Byte) :
    exec (.loadRsp src tag status epoch data) s = .next s := by
  refine (act_of_eq ha ?_ rfl : execLoadRsp src tag status epoch data s = _)
  obtain ho | ⟨o, ho, hne⟩ := txOf_stranger hno
  · simp only [ho]
  · simp only [ho, hne, if_true]

theorem exec_atomicRsp_stranger (status : Status) (olds : List Nat) : exec (.atomicRsp src tag status olds) s = .next s := by
  refine (act_of_eq ha ?_ rfl : execAtomicRsp src tag status olds s = _)
  obtain ho | ⟨o, ho, hne⟩ := txOf_stranger hno
  · simp only [ho]
  · simp only [ho, hne, if_true]

end Strangers

/-- Settles O36: an answer, or the record of a timeout, comes with the transaction closed, and then one descriptor changes. -/
theorem answersAndTimeoutsEndTransactions : Obligations.AnswersAndTimeoutsEndTransactions := by
  unfold Obligations.AnswersAndTimeoutsEndTransactions
  refine ⟨fun s tag o q n w status epoch data ha ho hw => ⟨fun hawait => ?_, fun hawait => ?_, fun hawait olds => ?_,
    fun hawait hop hr => ?_⟩, fun s src tag status epoch data olds ha hno =>
    ⟨exec_loadRsp_stranger ha hno status epoch data, exec_storeAck_stranger ha hno status,
      exec_atomicRsp_stranger ha hno status olds⟩⟩
  · obtain ⟨u, hu, hbecomes⟩ := exec_loadRsp_plain ha ho hawait hw status epoch data
    have hcached := loadCached_only (closeTx s tag) o status (loadAnswer o status data).data
    obtain ⟨phase, hwork⟩ := hbecomes.work
    refine ⟨u, hu, _, ?_, hwork, fun q' n' hne => ?_, ?_, rfl, ?_⟩
    · rw [hbecomes.only, hcached]
      exact txOf_closeTx_same s tag
    · rw [hbecomes.others q' n' hne, hcached]
      rfl
    · simp [given, loadAnswer]
    · rw [hbecomes.only, hcached]
      rfl
  · obtain ⟨u, hu, hbecomes⟩ := exec_storeAck_store ha ho hawait hw status
    obtain ⟨hclosed, hothers, honly⟩ := hbecomes.closes
    obtain ⟨phase, hwork⟩ := hbecomes.work
    exact ⟨u, hu, _, hclosed, hwork, hothers, joined_status status o.node w, honly⟩
  · obtain ⟨u, hu, hbecomes⟩ := exec_atomicRsp_check ha ho hawait hw status olds
    obtain ⟨hclosed, hothers, honly⟩ := hbecomes.closes
    obtain ⟨phase, hwork⟩ := hbecomes.work
    refine ⟨u, hu, _, hclosed, hwork, hothers, ?_, honly⟩
    simp [markOwner]
  · obtain ⟨u, hu, hbecomes⟩ := exec_iflTimeout_store ha ho hawait hw (by omega)
    obtain ⟨r, hr, hcode, hnode, htenant⟩ := newestFault_timedOut hr o
    obtain ⟨phase, hwork⟩ := hbecomes.work
    refine ⟨u, hu, _, r, ?_, hwork, joined_status .nodeUnreachable o.node w, ?_, hcode, hnode, htenant⟩
    · rw [hbecomes.only, timedOut_only, txOf_tag ho]
      exact txOf_closeTx_same s tag
    · rw [hbecomes.only]
      exact hr

end Sys2Proof.Machine

/-! POOL_REQ at the owner, its answer, and what goes through Trowel instead (R245, R247, R248, R252):
PoolRequestsAreServedOrReadThroughTrowel. -/

namespace Sys2Proof

theorem mem_foldl_dedup {a : Nat} (l acc : List Nat) :
    a ∈ l.foldl (fun acc a => if acc.contains a then acc else acc ++ [a]) acc ↔ a ∈ acc ∨ a ∈ l := by
  induction l generalizing acc with
  | nil => simp
  | cons b l ih =>
    rw [List.foldl_cons, ih, List.mem_cons, ← or_assoc]
    refine or_congr_left ?_
    split
    next hb =>
      have hb : b ∈ acc := by simpa using hb
      exact ⟨.inl, fun h => h.elim id fun he => he ▸ hb⟩
    next => simp

@[simp] theorem mem_dedup {a : Nat} {l : List Nat} : a ∈ dedup l ↔ a ∈ l := by
  rw [dedup, mem_foldl_dedup]
  simp

end Sys2Proof

namespace Sys2Proof.Machine

open Sys2Proof

/-! ### Commands that send one message -/

/-- What a command does that ends with a message: its effect, the message, and the message's flits. -/
theorem act_emit {s t : State} {f : State → State} {o : Out} (ha : awake s = true) (hf : f s = emit t o) :
    ∃ u, act s f = .next u ∧
      u = { t with outbox := t.outbox ++ [o], fabric := { t.fabric with ports := u.fabric.ports } } := by
  obtain ⟨ports, h⟩ := act_ports s f ha
  refine ⟨_, h, ?_⟩
  rw [hf]
  rfl

theorem act_sends {s : State} {f : State → State} {o : Out} (ha : awake s = true) (hf : f s = emit s o) :
    ∃ u, act s f = .next u ∧ Sends s u [o] := act_emit ha hf

/-! ### POOL_REQ at the owner (R245, R247, R248) -/

/-- The entries of a POOL_REQ that the hub holds under the request's map, each with the offset of its row. -/
def poolServed (s : State) (h : ExHeader) (t : TableDesc) (entries : List PoolEntry) : List (PoolEntry × Nat) :=
  entries.filterMap (fun e => (heldRowSa s t h.epoch e.index).map (fun sa => (e, saOff sa)))

/-- Those entries, each with the status and the bytes of its row. -/
def poolRows (s : State) (h : ExHeader) (t : TableDesc) (entries : List PoolEntry) : List (PoolEntry × Status × List Byte) :=
  (poolServed s h t entries).map (fun r =>
    (r.1, localReadStatus s h.tenant r.2 (rowSize t), viewMem s h.tenant h.src r.2 (rowSize t)))

/-- The partials that answer a POOL_REQ, one per bag. -/
def poolPartials (s : State) (h : ExHeader) (t : TableDesc) (entries : List PoolEntry) : List Partial :=
  (dedup ((poolRows s h t entries).map (fun r => r.1.bag))).map (fun b => ownerPartial t h.op b (poolRows s h t entries))

/-- The hub whose pages have been read for a POOL_REQ. -/
def poolTouched (s : State) (h : ExHeader) (t : TableDesc) (entries : List PoolEntry) : State :=
  (poolServed s h t entries).foldl (fun s r => touch s r.2 (rowSize t)) s

theorem poolTouched_only (s : State) (h : ExHeader) (t : TableDesc) (entries : List PoolEntry) : poolTouched s h t entries =
    { s with store := { s.store with pages := (poolTouched s h t entries).store.pages } } :=
  foldl_keeps (fun u => u = { s with store := { s.store with pages := u.store.pages } }) _
    (fun u r hu => by rw [touch_only, hu]) _ s rfl

theorem mem_poolServed {s : State} {h : ExHeader} {t : TableDesc} {entries : List PoolEntry} {r : PoolEntry × Nat} :
    r ∈ poolServed s h t entries ↔
      ∃ e ∈ entries, ∃ sa, heldRowSa s t h.epoch e.index = some sa ∧ r = (e, saOff sa) := by
  simp only [poolServed, List.mem_filterMap, Option.map_eq_some_iff, eq_comm (a := r)]

theorem servePoolReq_ok {s : State} {src : Nat} {h : ExHeader} {entries : List PoolEntry} {t : TableDesc}
    (ht : tableOf s h.table = some t) (hm : isMember s src = true) (hrows : ∀ e ∈ entries, e.index < t.rows)
    (hread : ∀ e ∈ entries, ∀ sa, heldRowSa s t h.epoch e.index = some sa → permits s h.tenant (saOff sa) (rowSize t) false) :
    servePoolReq s src h entries = emit (poolTouched s h t entries)
      (.poolRsp src { h with epoch := t.mapEpoch, op := 0, status := .ok } (poolPartials s h t entries)
        (entries.filter (fun e => (heldRowSa s t h.epoch e.index).isNone))) := by
  have hin : entries.any (fun e => decide (t.rows ≤ e.index)) = false := by
    simpa using hrows
  have hrefused : (poolServed s h t entries).filter (fun r => !permits s h.tenant r.2 (rowSize t) false) = [] := by
    rw [List.filter_eq_nil_iff]
    intro r hr
    obtain ⟨e, he, sa, hsa, rfl⟩ := mem_poolServed.mp hr
    simp [hread e he sa hsa]
  unfold poolServed at hrefused
  simp only [servePoolReq, ht, hm, hin, hrefused]
  rfl

theorem takePoolReq_serves {s : State} {h : ExHeader} {entries : List PoolEntry} {t : TableDesc} (hserves : exchServes s = true)
    (hroom : receiveUsed s + poolReqBytes entries ≤ 67108864) (ht : tableOf s h.table = some t)
    (hepoch : epochAhead t h.epoch = false) (src : Nat) : takePoolReq s src h entries = servePoolReq s src h entries := by
  simp [takePoolReq, hserves, Nat.not_lt.mpr hroom, ht, hepoch]

theorem takePoolReq_busy {s : State} (hserves : exchServes s = false) (src : Nat) (h : ExHeader) (entries : List PoolEntry) :
    takePoolReq s src h entries = emit s (.exchange src 8 h) := by
  simp [takePoolReq, hserves]

theorem mem_poolRows {s : State} {h : ExHeader} {t : TableDesc} {entries : List PoolEntry}
    {r : PoolEntry × Status × List Byte} : r ∈ poolRows s h t entries ↔
      ∃ e ∈ entries, ∃ sa, heldRowSa s t h.epoch e.index = some sa ∧
        r = (e, localReadStatus s h.tenant (saOff sa) (rowSize t), viewMem s h.tenant h.src (saOff sa) (rowSize t)) := by
  simp only [poolRows, List.mem_map, mem_poolServed]
  constructor
  · rintro ⟨_, ⟨e, he, sa, hsa, rfl⟩, rfl⟩
    exact ⟨e, he, sa, hsa, rfl⟩
  · rintro ⟨e, he, sa, hsa, rfl⟩
    exact ⟨_, ⟨e, he, sa, hsa, rfl⟩, rfl⟩

/-- A bag has as many rows here as the request has entries of it that the hub holds. -/
theorem length_poolRows_bag (s : State) (h : ExHeader) (t : TableDesc) (entries : List PoolEntry) (bag : Nat) :
    ((poolRows s h t entries).filter (fun r => r.1.bag == bag)).length =
      (entries.filter (fun e => (heldRowSa s t h.epoch e.index).isSome && e.bag == bag)).length := by
  induction entries with
  | nil => rfl
  | cons e entries ih =>
    unfold poolRows poolServed at ih ⊢
    cases hsa : heldRowSa s t h.epoch e.index with
    | none => simpa [hsa] using ih
    | some sa => by_cases hb : e.bag = bag <;> simpa [hsa, hb] using ih

/-- A partial counts the rows of its bag, and is poisoned where one of them cannot be read (R245, R251). -/
theorem mem_poolPartials {s : State} {h : ExHeader} {t : TableDesc} {entries : List PoolEntry} {p : Partial}
    (hp : p ∈ poolPartials s h t entries) :
    p.rows = (entries.filter (fun e => (heldRowSa s t h.epoch e.index).isSome && e.bag == p.bag)).length ∧
      (p.poison = true ↔ ∃ e ∈ entries, e.bag = p.bag ∧ ∃ sa, heldRowSa s t h.epoch e.index = some sa ∧
        localReadStatus s h.tenant (saOff sa) (rowSize t) ≠ .ok) := by
  obtain ⟨bag, -, rfl⟩ := List.mem_map.mp hp
  refine ⟨length_poolRows_bag s h t entries bag, ?_⟩
  simp only [ownerPartial, List.any_eq_true, List.mem_filter, mem_poolRows, beq_iff_eq, bne_iff_ne]
  constructor
  · rintro ⟨_, ⟨⟨e, he, sa, hsa, rfl⟩, hbag⟩, hst⟩
    exact ⟨e, he, hbag, sa, hsa, hst⟩
  · rintro ⟨e, he, hbag, sa, hsa, hst⟩
    exact ⟨_, ⟨⟨e, he, sa, hsa, rfl⟩, hbag⟩, hst⟩

theorem exists_poolPartial {s : State} {h : ExHeader} {t : TableDesc} {entries : List PoolEntry} {e : PoolEntry}
    (he : e ∈ entries) (hsome : (heldRowSa s t h.epoch e.index).isSome = true) :
    ∃ p ∈ poolPartials s h t entries, p.bag = e.bag := by
  obtain ⟨sa, hsa⟩ := Option.isSome_iff_exists.mp hsome
  refine ⟨_, List.mem_map_of_mem (mem_dedup.mpr (List.mem_map_of_mem (mem_poolRows.mpr ⟨e, he, sa, hsa, rfl⟩))), rfl⟩

/-! ### POOL_RSP (R245) -/

/-- A request that an owner answers with partials, if it is the one asked and unanswered. -/
def answerAsk (src part : Nat) (partials : List Partial) (a : PoolAsk) : PoolAsk :=
  if a.owner == src && a.part == part && a.answer.isNone then { a with answer := some partials } else a

def answerAsks (src part : Nat) (partials : List Partial) (x : Work) : Work :=
  { x with asked := x.asked.map (answerAsk src part partials) }

theorem exec_poolRsp_fresh {s : State} {h : ExHeader} {w : Work} {src : Nat} (ha : awake s = true)
    (hw : workOf s h.queue h.seq = some w) (hst : h.status = .ok)
    (hasked : ∃ a ∈ w.asked, a.owner = src ∧ a.part = h.part ∧ a.answer = none) (partials : List Partial) :
    ∃ u, exec (.poolRsp src h partials []) s = .next u ∧
      Becomes h.queue h.seq s u (answerAsks src h.part partials w) := by
  have hhit : w.asked.any (fun a => a.owner == src && a.part == h.part && a.answer.isNone) = true := by
    simpa [and_assoc] using hasked
  have hbecomes := (Becomes.of_modWork (f := answerAsks src h.part partials) hw fun _ => ⟨rfl, rfl⟩).wake
  refine ⟨_, (act_of_eq ha ?_ hbecomes.outbox : execPoolRsp src h partials [] s = _), hbecomes⟩
  have hkeep (l : List PoolEntry) : l.filter (fun _ => true) = l := List.filter_eq_self.mpr fun _ _ => rfl
  simp only [hw, hhit, hst, List.any_nil, Bool.not_false, hkeep, List.map_nil, List.append_nil, List.isEmpty_nil,
    beq_self_eq_true, if_true]
  rfl

/-! ### Entries that go through Trowel (R245, R252) -/

/-- A descriptor whose requests of a kind are given up, their entries sent through Trowel. -/
def giveUp (gone : PoolAsk → Bool) (x : Work) : Work :=
  { x with asked := x.asked.filter (fun a => !gone a)
           trowel := x.trowel ++ ((x.asked.filter gone).flatMap (fun a => a.entries.map (fun e => trowelCode a.part e.index))) }

theorem act_toTrowel {s : State} {q : Nat} {n : Seq48} {w : Work} (ha : awake s = true) (hw : workOf s q n = some w)
    (hit : PoolAsk → Bool) : ∃ u, act s (fun s => toTrowel s q n hit) = .next u ∧
      Becomes q n s u (giveUp (fun a => a.answer.isNone && hit a) w) := by
  have hbecomes := (Becomes.of_modWork (f := giveUp (fun a => a.answer.isNone && hit a)) hw fun _ => ⟨rfl, rfl⟩).wake
  exact ⟨_, act_of_eq ha rfl hbecomes.outbox, hbecomes⟩

theorem mem_giveUp_asked {gone : PoolAsk → Bool} {x : Work} {a : PoolAsk} :
    a ∈ (giveUp gone x).asked ↔ a ∈ x.asked ∧ ¬ gone a = true := by
  simp [giveUp]

theorem mem_giveUp_trowel {gone : PoolAsk → Bool} {x : Work} {c : Nat} : c ∈ (giveUp gone x).trowel ↔
    c ∈ x.trowel ∨ ∃ a ∈ x.asked, gone a = true ∧ ∃ e ∈ a.entries, c = trowelCode a.part e.index := by
  simp only [giveUp, List.mem_append, List.mem_flatMap, List.mem_filter, List.mem_map, and_assoc, eq_comm (a := c)]

/-- Settles O33: the owner's one message carries the partials of the rows it holds; the asker's descriptor alone changes. -/
theorem poolRequestsAreServedOrReadThroughTrowel : Obligations.PoolRequestsAreServedOrReadThroughTrowel := by
  unfold Obligations.PoolRequestsAreServedOrReadThroughTrowel
  refine ⟨?served, ?busy, ?answered, ?trowel⟩
  case served =>
    intro s src h entries t ha hserves hroom ht hepoch hm hrows hread
    obtain ⟨u, hu, honly⟩ := act_emit (f := fun s => takePoolReq s src h entries) ha
      ((takePoolReq_serves hserves hroom ht hepoch src).trans (servePoolReq_ok ht hm hrows hread))
    rw [poolTouched_only] at honly
    refine ⟨u, hu, poolPartials s h t entries, ?_, ?_, fun p => mem_poolPartials, fun e => exists_poolPartial⟩ <;> rw [honly]
  case busy =>
    intro s src h entries ha hserves
    exact act_sends (f := fun s => takePoolReq s src h entries) ha (takePoolReq_busy hserves src h entries)
  case answered =>
    rintro s src h partials _ w ha hw hst rfl hasked
    obtain ⟨u, hu, hbecomes⟩ := exec_poolRsp_fresh ha hw hst hasked partials
    obtain ⟨phase, hwork⟩ := hbecomes.work
    refine ⟨u, hu, _, hbecomes.only, hbecomes.others, hwork, rfl, List.length_map _, fun i a hi => ?_⟩
    refine ⟨answerAsk src h.part partials a, by simp [answerAsks, hi], ?_⟩
    by_cases hhit : a.owner = src ∧ a.part = h.part ∧ a.answer = none
    · simp [answerAsk, hhit]
    · have hmiss : (a.owner == src && a.part == h.part && a.answer.isNone) = false :=
        Bool.eq_false_iff.mpr fun h => hhit (by simpa [and_assoc] using h)
      simp [answerAsk, hmiss, hhit]
  case trowel =>
    rintro s c q part n hit w ha hc hw
    obtain ⟨test, hexec, htest, hpart⟩ : ∃ test : PoolAsk → Bool, exec c s = act s (fun s => toTrowel s q n test) ∧
        (∀ a, (a.answer.isNone && test a) = true ↔ hit a) ∧ ∀ a, hit a → a.part = part := by
      obtain ⟨src, h, rfl, rfl, rfl, rfl, hhit⟩ | ⟨rfl, hhit⟩ := hc
      · exact ⟨_, rfl, fun a => by simp [hhit], fun a h => by simp_all⟩
      · exact ⟨_, rfl, fun a => by simp [hhit], fun a h => by simp_all⟩
    obtain ⟨u, hu, hbecomes⟩ := act_toTrowel ha hw test
    obtain ⟨phase, hwork⟩ := hbecomes.work
    refine ⟨u, hexec.trans hu, _, hbecomes.only, hbecomes.others, hwork, fun a => ?_, fun x => ?_⟩
    · rw [← htest]
      exact mem_giveUp_asked
    · refine mem_giveUp_trowel.trans (or_congr_right (exists_congr fun a => and_congr_right fun _ => ?_))
      rw [htest]
      exact and_congr_right fun hhit => by rw [hpart a hhit]

end Sys2Proof.Machine

/-! PREP, DELTA and their answers (R254, R256, R257, R258, R262): UpdatesAtTheOwnerCountOnce. -/

namespace Sys2Proof

theorem foldl_dedup_const {n : Nat} {l : List Nat} (h : ∀ a ∈ l, a = n) :
    l.foldl (fun acc a => if acc.contains a then acc else acc ++ [a]) [n] = [n] := by
  induction l with
  | nil => rfl
  | cons a l ih =>
    obtain rfl := h a (by simp)
    simpa using ih fun b hb => h b (by simp [hb])

theorem dedup_const {n : Nat} {l : List Nat} (h : ∀ a ∈ l, a = n) (hl : l ≠ []) : dedup l = [n] := by
  cases l with
  | nil => exact absurd rfl hl
  | cons a l =>
    obtain rfl := h a (by simp)
    exact foldl_dedup_const fun b hb => h b (by simp [hb])

/-- The elements at all positions of a list are the list. -/
theorem map_getD_range {α : Type} (l : List α) (d : α) : (List.range l.length).map (fun p => (l[p]?).getD d) = l :=
  List.ext_getElem (by simp) fun i h _ => by
    have hi : i < l.length := by simpa using h
    simp [hi]

theorem filterMap_getElem?_range {α : Type} (l : List α) : (List.range l.length).filterMap (fun p => l[p]?) = l := by
  induction l with
  | nil => rfl
  | cons a l ih =>
    rw [List.length_cons, List.range_succ_eq_map, List.filterMap_cons, List.filterMap_map]
    exact congrArg (a :: ·) ih

theorem bits_low {w n m lo hi : Nat} (h : lo + n ≤ m) : bits (w % 2 ^ m + hi * 2 ^ m) lo n = bits w lo n := by
  refine Nat.eq_of_testBit_eq fun i => ?_
  rw [testBit_bits, testBit_bits]
  by_cases hi : i < n
  · have hlt : lo + i < m := by omega
    rw [Nat.add_comm, Nat.mul_comm, Nat.testBit_two_pow_mul_add _ (Nat.mod_lt _ (Nat.two_pow_pos m)), if_pos hlt,
      Nat.testBit_mod_two_pow]
    simp [hlt]
  · simp [hi]

@[simp] theorem length_leBytes (n w : Nat) : (leBytes n w).length = n := by
  induction n generalizing w with
  | zero => rfl
  | succ n ih => simp [leBytes, ih]

end Sys2Proof

namespace Sys2Proof.Machine

open Sys2Proof

/-! ### Memory of any form -/

/-- A byte after one of another address is set, in a memory of any form. -/
theorem memByte_memPut_ne (m : List Host.Cell) {a x : Nat} (b : Byte) (h : x ≠ a) : memByte (memPut m a b) x = memByte m x := by
  have ha : (a == x) = false := by simpa using h.symm
  induction m with
  | nil => unfold memPut; split <;> simp [memByte, ha]
  | cons c t ih =>
    obtain ⟨k, v⟩ := c
    unfold memPut
    split
    · split <;> simp [memByte, ha]
    · split
      next hk =>
        obtain rfl : a = k := by simpa using hk
        split <;> simp [memByte, ha]
      next => simp [memByte, ih]

theorem memByte_memWrite_off (m : List Host.Cell) {a x : Nat} {d : List Byte} (h : x < a ∨ a + d.length ≤ x) :
    memByte (memWrite m a d) x = memByte m x := by
  induction d generalizing m a with
  | nil => rfl
  | cons b d ih =>
    rw [List.length_cons] at h
    exact (ih (memPut m a b) (by omega)).trans (memByte_memPut_ne m b (by omega))

/-! ### Rows that are all held here -/

theorem byHolder_nil (t : TableDesc) : byHolder t [] = [] := rfl

theorem byHolder_one {t : TableDesc} {indices : List Nat} {node : Nat}
    (h : ∀ i ∈ indices, saNode (ownerRowSa t i) = node) (hne : indices ≠ []) :
    byHolder t indices = [(node, List.range indices.length)] := by
  have hnodes : dedup (indices.map (fun i => saNode (ownerRowSa t i))) = [node] :=
    dedup_const (by simpa using h) (by simpa using hne)
  have hall : (List.range indices.length).filter (fun p => saNode (ownerRowSa t ((indices[p]?).getD 0)) == node) =
      List.range indices.length := by
    refine List.filter_eq_self.mpr fun p hp => ?_
    have hlt : p < indices.length := by simpa using hp
    simp [hlt, h]
  rw [byHolder, hnodes, List.map_singleton, hall]

theorem answerUpdate_eq {s : State} {h : ExHeader} {t : TableDesc} (ht : tableOf s h.table = some t) (isDelta : Bool)
    (asker : Nat) (st : Status) (flags : Nat) : answerUpdate s isDelta asker h st flags =
      emit s (.exchange asker (if isDelta then 6 else 4) { h with op := flags, epoch := t.mapEpoch, status := st }) := by
  unfold answerUpdate
  rw [ht]
  rfl

/-! ### PREP (R254) -/

section Prep

variable {s : State} {src : Nat} {h : ExHeader} {indices : List Nat} {t : TableDesc}

theorem takePrep_here (ht : tableOf s h.table = some t) (hm : isMember s src = true) (hf : fencedPrimary s t = false)
    (hhere : ∀ i ∈ indices, saNode (ownerRowSa t i) = hubNode s) : takePrep s src h indices =
      answerUpdate (checkRows s src h t indices).1 false src h (checkRows s src h t indices).2 0 := by
  by_cases hne : indices = []
  · subst hne
    simp [takePrep, ht, hm, hf, byHolder_nil]
  · simp [takePrep, ht, hm, hf, byHolder_one hhere hne, map_getD_range]

theorem checkRows_ok
    (hall : ∀ i ∈ indices, i < t.rows ∧ permits s h.tenant (saOff (ownerRowSa t i)) (rowSize t) true = true) :
    checkRows s src h t indices = (s, .ok) := by
  have hnone : indices.find? (fun i => decide (t.rows ≤ i) || !permits s h.tenant (saOff (ownerRowSa t i)) (rowSize t) true) =
      none := by
    simpa using hall
  simp only [checkRows, hnone]

theorem checkRows_refused {i : Nat} (hi : i ∈ indices)
    (hno : permits s h.tenant (saOff (ownerRowSa t i)) (rowSize t) true = false) :
    ∃ faults, checkRows s src h t indices = ({ s with faults := faults }, .permission) := by
  unfold checkRows
  split
  next hnone =>
    have hgood := List.find?_eq_none.mp hnone i hi
    simp [hno] at hgood
  next =>
    split
    · exact ⟨s.faults, rfl⟩
    · exact ⟨_, by rw [refuse, raise_only]⟩

end Prep

/-! ### Answers to PREP and DELTA (R254, R256) -/

section Answers

variable {s : State} {src : Nat} {h : ExHeader} {o : Outstanding} {w : Work}

theorem relayAnswer_none (hrelays : s.embed.relays = []) (isDelta : Bool) (src : Nat) (h : ExHeader) :
    relayAnswer s isDelta src h = none := by
  simp [relayAnswer, hrelays]

/-- A descriptor whose owner has answered a PREP goes on. -/
def markPrepared (owner code : Nat) (x : Work) : Work :=
  { markOwner owner code x with phase := if x.phase == .waiting then .ready else x.phase }

theorem exec_prepRsp_asked (ha : awake s = true) (hrelays : s.embed.relays = []) (ho : updateTx s false src h = some o)
    (hw : workOf s h.queue h.seq = some w) : ∃ u, exec (.prepRsp src h) s = .next u ∧
      Becomes h.queue h.seq (closeTx s o.tag) u (markPrepared src (if h.status == .ok then 1 else 2) w) := by
  have hbecomes := Becomes.of_modWork (s := closeTx s o.tag) (f := markPrepared src (if h.status == .ok then 1 else 2)) hw
    fun _ => ⟨rfl, rfl⟩
  refine ⟨_, (act_of_eq ha ?_ hbecomes.outbox : execPrepRsp src h s = _), hbecomes⟩
  simp only [relayAnswer_none hrelays, ho]
  rfl

/-- A descriptor that an owner's DELTA_ACK has reached. -/
def acknowledged (src : Nat) (h : ExHeader) (x : Work) : Work :=
  { x with conv := x.conv ||| h.op, status := worse x.status h.status
           node := if worse x.status h.status == x.status then x.node else src }

theorem exec_deltaAck_asked (ha : awake s = true) (hrelays : s.embed.relays = []) (ho : updateTx s true src h = some o)
    (hw : workOf s h.queue h.seq = some w) : ∃ u, exec (.deltaAck src h) s = .next u ∧
      Becomes h.queue h.seq (closeTx s o.tag) u (acknowledged src h w) := by
  have hbecomes := (Becomes.of_modWork (s := closeTx s o.tag) (f := acknowledged src h) hw fun _ => ⟨rfl, rfl⟩).settle
  refine ⟨_, (act_of_eq ha ?_ hbecomes.outbox : execDeltaAck src h s = _), hbecomes⟩
  simp only [relayAnswer_none hrelays, ho]
  rfl

end Answers

/-! ### RELEASE (R257) -/

theorem retryHeld_none {s : State} (h : s.embed.held = []) : retryHeld s = s := by
  unfold retryHeld
  rw [h, List.foldl_nil, ← h]

theorem exec_release_quiet {s : State} (ha : awake s = true) (hheld : s.embed.held = []) (src : Nat) (h : ExHeader) :
    exec (.release src h) s = .next { s with receipts := s.receipts.filter (fun r =>
      !(r.src == h.src && r.queue == h.queue && r.seq == h.seq)) } :=
  (act_of_eq ha (retryHeld_none hheld) rfl : execRelease src h s = _)

/-! ### The size of a row after an update (R103, R263) -/

theorem selFmt_updateSel (t : TableDesc) (rnd : Nat) : selFmt (updateSel t rnd) = selFmt t.storeFmt :=
  bits_low (m := 6) (by decide)

theorem selScale_updateSel (t : TableDesc) (rnd : Nat) : selScale (updateSel t rnd) = selScale t.storeFmt :=
  bits_low (m := 6) (by decide)

theorem storedSize_updateSel (t : TableDesc) (rnd n : Nat) : storedSize (updateSel t rnd) n = storedSize t.storeFmt n := by
  simp only [storedSize, rowBytes, prefixBytes, selFmt_updateSel, selScale_updateSel]

theorem length_unpackElems (w n x : Nat) : (unpackElems w n x).length = n := by
  induction n generalizing x with
  | zero => rfl
  | succ n ih => simp [unpackElems, ih]

theorem length_decodeRow (sel n : Nat) (bytes : List Byte) : (decodeRow sel n bytes).1.length = n := by
  unfold decodeRow
  dsimp only
  split
  · simp
  · split <;> simp [length_unpackElems]

theorem length_append_zeros {l : List Byte} {n : Nat} (h : l.length ≤ n) : (l ++ zeros (n - l.length)).length = n := by
  simp [zeros, h]

/-- Scale and elements fill the bytes of the row, and zeros its stored size. -/
theorem length_encodeRow (sel base : Nat) (vals : List Num) : (encodeRow sel base vals).1.length = storedSize sel vals.length := by
  have hsize : rowBytes sel vals.length ≤ storedSize sel vals.length := by
    unfold storedSize
    omega
  refine length_append_zeros (Nat.le_trans (Nat.le_of_eq ?_) hsize)
  cases hmx : selScale sel == 1 with
  | true => simp [rowBytes, prefixBytes, hmx]
  | false =>
    cases hrow : selScale sel == 2 with
    | true => simp [rowBytes, prefixBytes, hmx, hrow, ← Nat.add_assoc]
    | false => simp [rowBytes, prefixBytes, hmx, hrow]

theorem length_zipAcc (f : Num → Num → Num) (a b : List Num) : (zipAcc f a b).1.length = min a.length b.length := by
  simp [zipAcc]

theorem length_addDelta (t : TableDesc) (rnd base : Nat) (old : List Byte) {delta : List Num} (h : delta.length = t.rowElems) :
    (addDelta t rnd base old delta).1.length = rowSize t := by
  simp only [addDelta, length_encodeRow, length_zipAcc, length_decodeRow, h, Nat.min_self, storedSize_updateSel]
  rfl

/-! ### An after-image in memory (R68, R199) -/

theorem writeImage_only (s : State) (tenant writer off : Nat) (data : List Byte) : writeImage s tenant writer off data =
    { s with store := (writeImage s tenant writer off data).store, embed := (writeImage s tenant writer off data).embed
             order := (writeImage s tenant writer off data).order } :=
  putPieces_only tenant writer _ s

theorem writeImage_mem {s : State} {off : Nat} {data : List Byte} (h : Storable s off data.length) (tenant writer : Nat) :
    (writeImage s tenant writer off data).store.mem = memWrite s.store.mem off data :=
  putPieces_mem tenant writer (Nat.lt_succ_self _) h

theorem cutUnits_within {fuel off : Nat} {data : List Byte} {piece : Nat × List Byte} (h : piece ∈ cutUnits fuel off data) :
    off ≤ piece.1 ∧ piece.1 + piece.2.length ≤ off + data.length := by
  induction fuel generalizing off data with
  | zero => simp [cutUnits] at h
  | succ fuel ih =>
    by_cases hnil : data = []
    · simp [hnil] at h
    rw [cutUnits_of_ne_nil fuel off hnil, List.mem_cons] at h
    obtain rfl | h := h
    · dsimp only
      rw [List.length_take]
      omega
    · obtain ⟨hlo, hhi⟩ := ih h
      rw [List.length_drop] at hhi
      cases hrest : data.drop (64 - off % 64) with
      | nil => simp [hrest] at h
      | cons b rest =>
        have hlen := congrArg List.length hrest
        rw [List.length_drop, List.length_cons] at hlen
        omega

theorem putPiece_mem (tenant writer : Nat) (s : State) (piece : Nat × List Byte) :
    (putPiece tenant writer s piece).store.mem = s.store.mem ∨
      (putPiece tenant writer s piece).store.mem = memWrite s.store.mem piece.1 piece.2 := by
  unfold putPiece
  split
  next => exact .inl rfl
  next =>
    obtain h | h := writePiece_cases s piece <;> rw [h]
    · exact .inl rfl
    · exact .inr rfl

/-- No byte outside its range changes by an after-image, wherever its pieces land. -/
theorem memByte_writeImage_off (s : State) (tenant writer : Nat) {off a : Nat} {data : List Byte}
    (ha : a < off ∨ off + data.length ≤ a) :
    memByte (writeImage s tenant writer off data).store.mem a = memByte s.store.mem a := by
  refine List.foldlRecOn (motive := fun t : State => memByte t.store.mem a = memByte s.store.mem a) _ _ rfl
    fun t ht piece hpiece => ?_
  obtain ⟨hlo, hhi⟩ := cutUnits_within hpiece
  obtain h | h := putPiece_mem tenant writer t piece <;> rw [h]
  · exact ht
  · exact (memByte_memWrite_off _ (by omega)).trans ht

/-- A range on readable pages that the tenant may write, in no Published region, is stored whole. -/
theorem storable_of_permits {s : State} {tenant off len : Nat} (hpermits : permits s tenant off len true = true)
    (hgone : rangeGone s off len = false) (hpoison : partPoison s off len = false)
    (hplain : touchesPublished s off len = false) : Storable s off len := by
  refine ⟨fun a hlo hhi => ?_, fun a hlo hhi => ?_, fun u hu hlo hhi => ?_⟩
  · have hmem := pageOf_mem_pagesOf hlo hhi
    obtain ⟨p, hp⟩ := exists_page_of_permits hpermits hmem
    have hthere := List.any_eq_false.mp hgone _ hmem
    exact ⟨p, hp, by simpa [hp] using hthere⟩
  · have hregion := List.any_eq_false.mp hplain _ (pageOf_mem_pagesOf hlo hhi)
    simpa using hregion
  · have hunit := List.any_eq_false.mp hpoison u hu
    simpa [hlo, hhi] using hunit

/-! ### Rows of a DELTA (R256, R260) -/

/-- Deltas of one length sum to a delta of that length. -/
theorem length_itemSum {items : List DeltaItem} {n index : Nat} (hlen : ∀ i ∈ items, i.elems.length = n)
    (hindex : index ∈ items.map (·.index)) : (itemSum items index).1.length = n := by
  have hall : ∀ v ∈ (items.filter (fun i => i.index == index)).map (fun i => i.elems.map ofFp32), v.length = n := by
    intro v hv
    obtain ⟨i, hi, rfl⟩ := List.mem_map.mp hv
    obtain ⟨hmem, -⟩ := List.mem_filter.mp hi
    rw [List.length_map, hlen i hmem]
  unfold itemSum
  split
  next hnil =>
    obtain ⟨i, hi, rfl⟩ := List.mem_map.mp hindex
    simp only [List.map_eq_nil_iff, List.filter_eq_nil_iff] at hnil
    exact absurd (beq_self_eq_true i.index) (hnil i hi)
  next v vs hvs =>
    rw [hvs] at hall
    refine List.foldlRecOn (motive := fun acc : List Num × Nat => acc.1.length = n) vs _ (hall v (by simp))
      fun acc hacc x hx => ?_
    simp [length_zipAcc, hacc, hall x (by simp [hx])]

theorem itemSum_singleton (x : DeltaItem) : itemSum [x] x.index = (x.elems.map ofFp32, 0) := by
  simp [itemSum]

/-- The after-image of a row under a DELTA. -/
def deltaImage (s : State) (h : ExHeader) (t : TableDesc) (items : List DeltaItem) (index : Nat) : List Byte :=
  (addDelta t (bits h.op 6 2) s.free (viewMem s h.tenant h.src (saOff (ownerRowSa t index)) (rowSize t)) (itemSum items index).1).1

/-- The hub with a row's after-image written. -/
def deltaRow (s : State) (h : ExHeader) (t : TableDesc) (items : List DeltaItem) (index : Nat) : State :=
  spend (writeImage s h.tenant h.src (saOff (ownerRowSa t index)) (deltaImage s h t items index)) 4096

section Rows

variable {h : ExHeader} {t : TableDesc} {items : List DeltaItem}

theorem onwardItems_none {s : State} (hrep : isReplicated t = false) (hmoves : s.comp.live.moves = []) (table index : Nat)
    (data : List Byte) : onwardItems s t table index data = [] := by
  simp [onwardItems, hrep, hmoves]

theorem deltaRow_only (s : State) (index : Nat) : deltaRow s h t items index =
    { s with store := (deltaRow s h t items index).store, embed := (deltaRow s h t items index).embed
             order := (deltaRow s h t items index).order, free := (deltaRow s h t items index).free } := by
  unfold deltaRow spend
  rw [writeImage_only]

/-- A row that is not to be passed on is written where it can be read, and else left as it is. -/
theorem applyDeltaRow_fst (hrep : isReplicated t = false) {acc : State × Nat × Status} (hmoves : acc.1.comp.live.moves = [])
    (index : Nat) : (applyDeltaRow h t items acc index).1 =
      if localReadStatus acc.1 h.tenant (saOff (ownerRowSa t index)) (rowSize t) = .ok then deltaRow acc.1 h t items index
      else acc.1 := by
  have hrest : (deltaRow acc.1 h t items index).comp.live.moves = [] := by
    rw [deltaRow_only]
    exact hmoves
  unfold deltaRow deltaImage at hrest
  unfold applyDeltaRow
  dsimp only
  split
  next hst => exact (if_neg (by simpa using hst)).symm
  next hst =>
    rw [onwardItems_none hrep hrest, if_pos (by simpa using hst)]
    rfl

/-- What the rows of a DELTA leave of the hub: all but memory, drafts, caches and free values, and the bytes outside the
rows. -/
structure DeltaKeeps (s : State) (t : TableDesc) (items : List DeltaItem) (u : State) : Prop where
  only : u = { s with store := u.store, embed := u.embed, order := u.order, free := u.free }
  bytes : ∀ a, (∀ i ∈ items, a < saOff (ownerRowSa t i.index) ∨ saOff (ownerRowSa t i.index) + rowSize t ≤ a) →
    memByte u.store.mem a = memByte s.store.mem a

theorem deltaRow_keeps {s u : State} (hu : DeltaKeeps s t items u) {index : Nat}
    (hlen : ∀ i ∈ items, i.elems.length = t.rowElems) (hindex : index ∈ items.map (·.index)) :
    DeltaKeeps s t items (deltaRow u h t items index) where
  only := by rw [deltaRow_only, hu.only]
  bytes a ha := by
    obtain ⟨i, hi, rfl⟩ := List.mem_map.mp hindex
    have himage : (deltaImage u h t items i.index).length = rowSize t := length_addDelta t _ _ _ (length_itemSum hlen hindex)
    refine (memByte_writeImage_off u _ _ ?_).trans (hu.bytes a ha)
    rw [himage]
    exact ha i hi

theorem deltaRows_keep {s : State} (hrep : isReplicated t = false) (hmoves : s.comp.live.moves = [])
    (hlen : ∀ i ∈ items, i.elems.length = t.rowElems) :
    DeltaKeeps s t items ((dedup (items.map (·.index))).foldl (applyDeltaRow h t items) (s, 0, .ok)).1 := by
  refine List.foldlRecOn (motive := fun acc : State × Nat × Status => DeltaKeeps s t items acc.1) _ _ ⟨rfl, fun _ _ => rfl⟩
    fun acc hacc index hindex => ?_
  rw [applyDeltaRow_fst hrep (by rw [hacc.only]; exact hmoves)]
  split
  · exact deltaRow_keeps hacc hlen (mem_dedup.mp hindex)
  · exact hacc

theorem deltaRows_singleton {s : State} (hrep : isReplicated t = false) (hmoves : s.comp.live.moves = []) {x : DeltaItem}
    (hread : localReadStatus s h.tenant (saOff (ownerRowSa t x.index)) (rowSize t) = .ok) :
    ((dedup ([x].map (·.index))).foldl (applyDeltaRow h t [x]) (s, 0, .ok)).1 = deltaRow s h t [x] x.index := by
  rw [show dedup ([x].map (·.index)) = [x.index] from rfl, List.foldl_cons, List.foldl_nil,
    applyDeltaRow_fst (acc := (s, 0, .ok)) hrep hmoves, if_pos hread]

/-- Of a single row, the stored bytes are the old row with the delta added (R260). -/
theorem deltaRow_singleton_lands {s : State} {x : DeltaItem} (hlen : x.elems.length = t.rowElems)
    (hpermits : permits s h.tenant (saOff (ownerRowSa t x.index)) (rowSize t) true = true) (hwf : Memory.wf s.store.mem = true)
    (hgone : rangeGone s (saOff (ownerRowSa t x.index)) (rowSize t) = false)
    (hpoison : partPoison s (saOff (ownerRowSa t x.index)) (rowSize t) = false)
    (hplain : touchesPublished s (saOff (ownerRowSa t x.index)) (rowSize t) = false) :
    let image := (addDelta t (bits h.op 6 2) s.free (readMem s (saOff (ownerRowSa t x.index)) (rowSize t)) (x.elems.map ofFp32)).1
    image.length = rowSize t ∧ ∀ i, (hi : i < image.length) →
      memByte (deltaRow s h t [x] x.index).store.mem (saOff (ownerRowSa t x.index) + i) = image[i] := by
  intro image
  have himage : deltaImage s h t [x] x.index = image := by
    simp only [deltaImage, viewMem, hplain, itemSum_singleton, Bool.false_eq_true, if_false]
    rfl
  have hsize : image.length = rowSize t := length_addDelta t _ _ _ (by simpa using hlen)
  have hstore : Storable s (saOff (ownerRowSa t x.index)) image.length := by
    rw [hsize]
    exact storable_of_permits hpermits hgone hpoison hplain
  refine ⟨hsize, fun i hi => ?_⟩
  rw [deltaRow, spend_store, himage, writeImage_mem hstore]
  exact memByte_memWrite_inside _ _ _ _ hwf hi

end Rows

/-! ### DELTA (R256, R257) -/

section Delta

variable {s : State} {src : Nat} {h : ExHeader} {items : List DeltaItem} {t : TableDesc}

/-- What a DELTA of rows held here does before its acknowledgement: nothing when it has its receipt, else it is recorded. -/
def deltaOutcome (s : State) (h : ExHeader) (t : TableDesc) (items : List DeltaItem) : State × Nat × Status :=
  match receiptOf s h.src h.queue h.seq h.part with
  | some rc => (s, rc.flags, rc.status)
  | none => recordDelta s h t items

theorem takeDelta_here (ht : tableOf s h.table = some t) (hm : isMember s src = true) (hf : fencedPrimary s t = false)
    (hne : items ≠ []) (hhere : ∀ i ∈ items, i.index < t.rows ∧ saNode (ownerRowSa t i.index) = hubNode s)
    (hgo : (receiptOf s h.src h.queue h.seq h.part).isSome = true ∨
      deltaWaits s (dedup (items.map (fun i => saOff (ownerRowSa t i.index)))) (rowSize t) = false) :
    takeDelta s src h items = answerUpdate (deltaOutcome s h t items).1 true src h (deltaOutcome s h t items).2.2
      (deltaOutcome s h t items).2.1 := by
  have hin : items.any (fun i => decide (t.rows ≤ i.index)) = false := by
    simpa using fun i hi => (hhere i hi).1
  have hholder : byHolder t (items.map (·.index)) = [(hubNode s, List.range items.length)] := by
    rw [byHolder_one (by simpa using fun i hi => (hhere i hi).2) (by simpa using hne), List.length_map]
  have hfirst : ((List.range items.length).head?).getD 0 = 0 := by cases items <;> simp [List.range_succ_eq_map]
  have hwaits : (!(receiptOf s h.src h.queue h.seq h.part).isSome &&
      deltaWaits s (dedup (items.map (fun i => saOff (ownerRowSa t i.index)))) (rowSize t)) = false := by
    obtain hdone | hfree := hgo
    · rw [hdone]
      rfl
    · rw [hfree, Bool.and_false]
  have hempty : items.isEmpty = false := by simpa using hne
  simp only [takeDelta, ht, hm, hf, hin, hholder, List.find?_cons_of_pos, beq_self_eq_true, Option.map_some, Option.getD_some,
    filterMap_getElem?_range, Option.bind_some, hfirst, Nat.add_zero, hempty, Bool.not_false, Bool.true_and, hwaits,
    List.filter_cons, bne_self_eq_false, Bool.false_eq_true, if_false, List.filter_nil, List.isEmpty_nil, if_true, Bool.not_true]
  rfl

/-- The receipt of a DELTA recorded here. -/
def deltaReceipt (s : State) (h : ExHeader) (t : TableDesc) (items : List DeltaItem) : Receipt :=
  { src := h.src, queue := h.queue, seq := h.seq, part := h.part, flags := (recordDelta s h t items).2.1
    status := (recordDelta s h t items).2.2, olds := [] }

/-- A DELTA recorded here: its rows, then its receipt (R256, R257). -/
theorem recordDelta_fst (hrep : isReplicated t = false) (hmoves : s.comp.live.moves = [])
    (hlen : ∀ i ∈ items, i.elems.length = t.rowElems) : ∃ v : State, DeltaKeeps s t items v ∧
      v = ((dedup (items.map (·.index))).foldl (applyDeltaRow h t items) (s, 0, .ok)).1 ∧
      (recordDelta s h t items).1 = { v with receipts := s.receipts ++ [deltaReceipt s h t items], stamp := s.stamp + 1 } := by
  have hkeeps := deltaRows_keep (h := h) hrep hmoves hlen
  refine ⟨_, hkeeps, rfl, ?_⟩
  rw [recordDelta, hkeeps.only]
  rfl

end Delta

/-- Settles O34: PREP and DELTA of rows held here end in one answer; a new DELTA writes its rows one by one, and nothing else. -/
theorem updatesAtTheOwnerCountOnce : Obligations.UpdatesAtTheOwnerCountOnce := by
  unfold Obligations.UpdatesAtTheOwnerCountOnce
  refine ⟨?prep, ?prepRsp, ?again, ?fresh, ?deltaAck, ?release⟩
  case prep =>
    intro s src h indices t ha ht hm hf hhere
    have htake := takePrep_here (h := h) ht hm hf hhere
    refine ⟨fun hall => ?_, fun i hi _ hno => ?_⟩
    · rw [checkRows_ok hall, answerUpdate_eq ht] at htake
      exact act_sends (f := fun s => takePrep s src h indices) ha htake
    · obtain ⟨faults, hcheck⟩ := checkRows_refused (src := src) hi hno
      rw [hcheck, answerUpdate_eq (s := { s with faults := faults }) ht] at htake
      obtain ⟨u, hu, honly⟩ := act_emit (f := fun s => takePrep s src h indices) ha htake
      refine ⟨u, hu, ?_, ?_, ?_⟩ <;> rw [honly]
      rfl
  case prepRsp =>
    intro s src h o w ha hrelays ho hw
    obtain ⟨u, hu, hbecomes⟩ := exec_prepRsp_asked ha hrelays ho hw
    obtain ⟨hclosed, hothers, honly⟩ := hbecomes.closes
    obtain ⟨phase, hwork⟩ := hbecomes.work
    refine ⟨u, hu, _, hclosed, hwork, hothers, ?_, honly⟩
    simp [markPrepared, markOwner]
  case again =>
    intro s src h items t rc ha ht hm hf hne hhere hrc
    have htake := takeDelta_here (src := src) ht hm hf hne hhere (.inl (by rw [hrc]; rfl))
    have hdone : deltaOutcome s h t items = (s, rc.flags, rc.status) := by rw [deltaOutcome, hrc]
    rw [hdone, answerUpdate_eq ht] at htake
    exact act_sends (f := fun s => takeDelta s src h items) ha htake
  case fresh =>
    intro s src h items t ha ht hm hf hne hrows hrc hrep hmoves hwaits
    have hhere : ∀ i ∈ items, i.index < t.rows ∧ saNode (ownerRowSa t i.index) = hubNode s := fun i hi => by
      obtain ⟨hlt, hnode, -⟩ := hrows i hi
      exact ⟨hlt, hnode⟩
    have hlen : ∀ i ∈ items, i.elems.length = t.rowElems := fun i hi => by
      obtain ⟨-, -, hlen⟩ := hrows i hi
      exact hlen
    have htake := takeDelta_here (src := src) ht hm hf hne hhere (.inr hwaits)
    have hfresh : deltaOutcome s h t items = recordDelta s h t items := by rw [deltaOutcome, hrc]
    obtain ⟨v, hkeeps, hv, hrecord⟩ := recordDelta_fst (h := h) hrep hmoves hlen
    have htable : tableOf (recordDelta s h t items).1 h.table = some t := by
      rw [hrecord, hkeeps.only]
      exact ht
    rw [hfresh, answerUpdate_eq htable] at htake
    obtain ⟨u, hu, honly⟩ := act_emit (f := fun s => takeDelta s src h items) ha htake
    rw [hrecord] at honly
    have hmem : u.store.mem = v.store.mem := by rw [honly]
    refine ⟨u, hu, deltaReceipt s h t items, ?_, rfl, rfl, rfl, rfl, ?_, ?_, ?_, fun a hoff => ?_, ?_⟩
    · rw [honly]
    · rw [honly, hkeeps.only]
      rfl
    · rw [honly, hkeeps.only]
    · rw [honly, hkeeps.only]
    · rw [hmem]
      exact hkeeps.bytes a hoff
    · rintro x rfl hread hpermits hwf hgone hpoison hplain
      rw [hmem, hv, deltaRows_singleton hrep hmoves hread]
      exact deltaRow_singleton_lands (hlen x (by simp)) hpermits hwf hgone hpoison hplain
  case deltaAck =>
    intro s src h o w ha hrelays ho hw
    obtain ⟨u, hu, hbecomes⟩ := exec_deltaAck_asked ha hrelays ho hw
    obtain ⟨hclosed, hothers, honly⟩ := hbecomes.closes
    obtain ⟨phase, hwork⟩ := hbecomes.work
    exact ⟨u, hu, _, hclosed, hwork, hothers, rfl, rfl, honly⟩
  case release =>
    intro s src h ha hheld
    refine ⟨_, exec_release_quiet ha hheld src h, rfl, fun r => List.mem_filter.trans (and_congr_right fun _ => ?_)⟩
    simp only [Bool.not_eq_true', ← Bool.not_eq_true, Bool.and_eq_true, beq_iff_eq, and_assoc]

end Sys2Proof.Machine

/-! SEAL raises SEALED of its index and completes (R278): SealRaisesSealedAndCompletes. -/

namespace Sys2Proof.Machine

open Sys2Proof

/-! ### Index descriptors -/

theorem indexOf_modIndex (s : State) (id : Nat) (f : IndexDesc → IndexDesc) (id' : Nat) : indexOf (modIndex s id f) id' =
    if id' = id then (indexOf s id').map f else indexOf s id' := Tbl.find_alter ..

theorem indexOf_raiseSealed_same {s : State} {id : Nat} {x : IndexDesc} (hx : indexOf s id = some x) :
    indexOf (raiseSealed s id) id = some { x with sealed := sealedNow x (openEpochs s id) } := by
  rw [raiseSealed, indexOf_modIndex, if_pos rfl, hx]
  rfl

theorem indexOf_raiseSealed_other (s : State) {id id' : Nat} (h : id' ≠ id) :
    indexOf (raiseSealed s id) id' = indexOf s id' := by
  rw [raiseSealed, indexOf_modIndex, if_neg h]

/-- The status that an index descriptor gives a descriptor does not depend on SEALED. -/
theorem indexStatus_raiseSealed {s : State} {w : Work} {x : IndexDesc} (hx : indexOf s w.desc.param = some x) :
    indexStatus (raiseSealed s w.desc.param) w = indexStatus s w := by
  unfold indexStatus
  rw [indexOf_raiseSealed_same hx, hx]
  rfl

/-! ### Rows of a scan mode, and plans that write nothing -/

theorem runScan_runs {s : State} {queue : Nat} {seq : Seq48} {w : Work} {mode : Nat} (hw : workOf s queue seq = some w)
    (hrun : mayRun s w w.shape = true) (hshape : w.shape = 4 ∨ w.shape = 5) (hmode : scanMode w.desc = mode)
    (plan : State → Work → Plan) : runScan s queue seq mode plan = runPlan s w (plan s w) := by
  have hop : w.desc.opcode = 1 := by simp only [mayRun, Bool.and_eq_true, beq_iff_eq] at hrun; simp [hrun]
  have hscan : isScanShape w = true := by
    rcases hshape with h | h <;> simp [isScanShape, hop, h, shapePq, shapeHam]
  rw [← runShape_runs hw hrun plan]
  simp [runScan, hw, hscan, hmode]

theorem settled_phase {x : Work} (h : x.phase = .applying) : (settled x).phase = .applying ∨ (settled x).phase = .done := by
  unfold settled
  split
  · exact .inr rfl
  · exact .inl h

/-- A descriptor that a plan ended is applying while an answer is outstanding, then done (R344, R350). -/
theorem settle_phase {s : State} {q : Nat} {n : Seq48} {w w' : Work} (hw : workOf s q n = some w) (h : w.phase = .applying)
    (hw' : workOf (settle s q n) q n = some w') : w'.phase = .applying ∨ w'.phase = .done := by
  cases hopen : unanswered s q n with
  | true =>
    rw [settle, if_pos hopen, hw, Option.some.injEq] at hw'
    exact .inl (hw' ▸ h)
  | false =>
    rw [settle_answered hopen, workOf_modWork_same hw settled_key, Option.some.injEq] at hw'
    exact hw' ▸ settled_phase h

/-- A plan that writes nothing and meets no status but OK ends its descriptor, and changes nothing else. -/
theorem runPlan_quiet {s : State} {w : Work} {p : Plan} (hw : workOf s w.queue w.seq = some w) (hst : w.status = .ok)
    (hneeds : p.needs = []) (hpst : p.status = .ok) (hrefused : p.refused = []) (hwrites : p.writes = [])
    (hdraws : p.draws = 0) : Becomes w.queue w.seq s (runPlan s w p) (endedBy p .ok p.node false w) ∧
      ∀ w', workOf (runPlan s w p) w.queue w.seq = some w' → w'.phase = .applying ∨ w'.phase = .done := by
  have hres : Resolved s w p = { puts := [] } := by rw [Resolved, hwrites]; rfl
  have hspend : spend s p.draws = s := by rw [hdraws]; rfl
  have hkey := endedBy_key p .ok p.node false
  rw [runPlan_ok hst hneeds hpst hrefused hres, List.foldl_nil, hspend, endWork_eq]
  exact ⟨(Becomes.of_modWork hw hkey).settle, fun _ => settle_phase (workOf_modWork_same hw hkey) rfl⟩

/-! ### SEAL (R278) -/

/-- The plan of a SEAL whose epoch is sealed: SEALED and SEAL_TARGET are its RESULT. -/
def sealedPlan (x : IndexDesc) : Plan := { result := x.sealed + x.sealTarget * 2 ^ 32 }

theorem sealPlan_sealed {s : State} {w : Work} {x : IndexDesc} (hx : indexOf s w.desc.param = some x)
    (hst : indexStatus s w = .ok) (hepoch : bits w.desc.arg1 0 32 ≠ noEpoch) (hle : bits w.desc.arg1 0 32 ≤ x.sealed) :
    sealPlan s w = some (sealedPlan x) := by
  simp [sealPlan, hx, hst, hepoch, hle, sealedPlan]

theorem exec_seal (queue : Nat) (seq : Seq48) (s : State) : exec (.seal queue seq) s = execSeal queue seq s := rfl

/-- A SEAL that no longer waits raises SEALED and runs its plan. -/
theorem exec_seal_runs {s : State} {queue : Nat} {seq : Seq48} {w : Work} {p : Plan} (ha : awake s = true)
    (hw : workOf s queue seq = some w) (hrun : mayRun s w w.shape = true) (hshape : w.shape = 4 ∨ w.shape = 5)
    (hmode : scanMode w.desc = modeSeal) (hp : sealPlan (raiseSealed s w.desc.param) w = some p)
    (hout : (runPlan (raiseSealed s w.desc.param) w p).outbox = s.outbox) :
    exec (.seal queue seq) s = .next (runPlan (raiseSealed s w.desc.param) w p) := by
  have hscan := runScan_runs (s := raiseSealed s w.desc.param) hw hrun hshape hmode fun _ _ => p
  have hraised : workOf (raiseSealed s w.desc.param) queue seq = some w := hw
  rw [exec_seal, execSeal]
  exact act_of_eq ha (by simpa [hw, hraised, hp] using hscan) hout

/-- Settles O20: with SEALED raised, the SEAL's plan writes nothing, so it only ends its descriptor. -/
theorem sealRaisesSealedAndCompletes : Obligations.SealRaisesSealedAndCompletes := by
  intro s queue seq w x ha hw hrun hst hshape hmode hx hstatus hepoch hle
  obtain ⟨rfl, rfl⟩ := workOf_key hw
  have hraised := indexOf_raiseSealed_same hx
  have hplan := sealPlan_sealed hraised ((indexStatus_raiseSealed hx).trans hstatus) hepoch hle
  obtain ⟨hends, hphase⟩ := runPlan_quiet (s := raiseSealed s w.desc.param) (w := w)
    (p := sealedPlan { x with sealed := sealedNow x (openEpochs s w.desc.param) }) hw hst rfl rfl rfl rfl rfl
  have honly := hends.only
  obtain ⟨phase, hwork⟩ := hends.work
  refine ⟨_, exec_seal_runs ha hw hrun hshape hmode hplan hends.outbox, ?index, fun id hne => ?others,
    ⟨_, hwork, hphase _ hwork, ?status, rfl⟩, hends.others, ?frame⟩
  case index =>
    rw [honly]
    exact hraised
  case others =>
    rw [honly]
    exact indexOf_raiseSealed_other s hne
  case status => simp [endedBy, hst, worse]
  case frame =>
    rw [honly]
    exact ⟨rfl, rfl, rfl, rfl⟩

end Sys2Proof.Machine

/-! Pages that move between the tiers (R311, R319 to R321, R323, R325): PagesMoveBetweenTiers. -/

namespace Sys2Proof.Machine

open Sys2Proof

/-! ### What waits: nothing (R172, R313, R323) -/

theorem retryWaits_none {s : State} (h : s.store.waits = []) : retryWaits s = s := by simp [retryWaits, h]

theorem retryPromotions_none {s : State} (h : s.store.held = []) : retryPromotions s = s := by
  simp [retryPromotions, h, dedup]

/-- No access waits for the page: none is served. -/
theorem releaseHeld_none {s : State} {page : Nat} (h : ∀ x ∈ s.store.held, x.1 ≠ page) : releaseHeld s page = s := by
  have hmine : s.store.held.filter (fun x => x.1 == page) = [] :=
    List.filter_eq_nil_iff.mpr fun x hx => by simpa using h x hx
  have hothers : s.store.held.filter (fun x => x.1 != page) = s.store.held :=
    List.filter_eq_self.mpr fun x hx => by simpa using h x hx
  simp only [releaseHeld, hmine, hothers, List.foldl_nil]

/-! ### Moves that begin (R325) -/

theorem startMove_begins {s : State} {page u : Nat} {tier : Tier} (hstill : isMoving s page = false)
    (hu : placeUnit s tier = some u) (promotion : Bool) :
    MoveBegins s (startMove s page tier promotion) page tier promotion := by
  have hstart : startMove s page tier promotion = modPage (spend { s with store := { s.store with moves := s.store.moves ++
      [{ page := page, tier := tier, unit := u, index := freeIndex s tier u, promotion := promotion }] } } 1) page
      (fun p => { p with phase := .moving }) := by
    simp [startMove, hstill, hu]
  rw [hstart]
  refine ⟨u, freeIndex s tier u, hu, rfl, ?_, fun k hk => ?_⟩
  · simp [Tbl.find_alter]
  · simp [Tbl.find_alter, hk]

theorem MoveBegins.outbox {s t : State} {page : Nat} {tier : Tier} {promotion : Bool}
    (h : MoveBegins s t page tier promotion) : t.outbox = s.outbox := by
  obtain ⟨u, i, -, ht, -, -⟩ := h
  rw [ht]

theorem MoveBegins.waits {s t : State} {page : Nat} {tier : Tier} {promotion : Bool}
    (h : MoveBegins s t page tier promotion) : t.store.waits = s.store.waits := by
  obtain ⟨u, i, -, ht, -, -⟩ := h
  rw [ht]

theorem act_moveBegins {s t : State} {f : State → State} {page : Nat} {tier : Tier} {promotion : Bool}
    (ha : awake s = true) (hf : f s = t) (h : MoveBegins s t page tier promotion) :
    ∃ t, act s f = .next t ∧ MoveBegins s t page tier promotion :=
  ⟨t, act_of_eq ha hf h.outbox, h⟩

/-! ### TIER_EVICTION (R311, R319, R320) -/

theorem evictTier_notShort {s : State} {tier : Tier} (h : tierShort s tier = false) : evictTier s tier = s := by
  simp [evictTier, h]

/-- The one candidate of a short tier is evicted while its tenant stands above its floor. -/
theorem evictTier_candidate {s : State} {tier : Tier} {page : Nat} {p : Page} (hshort : tierShort s tier = true)
    (htier : tier ≠ .deep) (hone : evictable s tier = [(page, p)]) (hmore : evictedEnough s tier = false)
    (hfloor : (quotaOf s p.owner tier).floor < pooledStaying s p.owner tier) :
    evictTier s tier = evictPage s tier page p := by
  simp [evictTier, hshort, htier, hone, hmore, Nat.not_le.mpr hfloor]

theorem endRegion_only (s : State) (page : Nat) : endRegion s page = { s with order := { s.order with
    regions := (endRegion s page).order.regions, drafts := (endRegion s page).order.drafts } } := by
  unfold endRegion
  split <;> rfl

/-- A page on its way out of the page map: its Published region, its cached rows and its lines are gone. -/
def unlinked (s : State) (page : Nat) : State :=
  let u := dropRows (endRegion s page) (page * Config.pageBytes) Config.pageBytes
  { u with order := { u.order with directory := u.order.directory.filter (fun e =>
      e.1 < page * Config.pageBytes / 128 || (page * Config.pageBytes + Config.pageBytes) / 128 ≤ e.1) } }

theorem unlinked_only (s : State) (page : Nat) : unlinked s page = { s with
    embed := { s.embed with rowCache := (unlinked s page).embed.rowCache }
    order := { s.order with
      directory := (unlinked s page).order.directory, regions := (unlinked s page).order.regions
      drafts := (unlinked s page).order.drafts } } := by
  unfold unlinked
  rw [endRegion_only]
  rfl

theorem freePage_eq {s : State} {page : Nat} (h : ∀ x ∈ s.store.held, x.1 ≠ page) :
    freePage s page = dropPage (unlinked s page) page := by
  refine releaseHeld_none (s := dropPage (unlinked s page) page) ?_
  rw [unlinked_only]
  exact h

/-- A page for which no access waits leaves the page map with its bytes and its moves (R315). -/
theorem freePage_only {s : State} {page : Nat} (h : ∀ x ∈ s.store.held, x.1 ≠ page) : freePage s page = { s with
    embed := { s.embed with rowCache := (freePage s page).embed.rowCache }
    store := { s.store with
      pages := Tbl.del s.store.pages page, mem := memClear s.store.mem (page * Config.pageBytes) Config.pageBytes
      poison := (freePage s page).store.poison, moves := (freePage s page).store.moves }
    order := { s.order with
      directory := (freePage s page).order.directory, regions := (freePage s page).order.regions
      drafts := (freePage s page).order.drafts } } := by
  rw [freePage_eq h, unlinked_only]
  rfl

theorem exec_tierEviction (tier : Tier) (s : State) :
    exec (.tierEviction tier) s = act s (fun s => retryWaits (evictTier s tier)) := rfl

theorem exec_tierEviction_discards {s : State} {tier : Tier} {page : Nat} {p : Page} (ha : awake s = true)
    (hwaits : s.store.waits = []) (hevict : evictTier s tier = evictPage s tier page p) (hdiscard : p.discard = true)
    (hheld : s.store.held = []) :
    ∃ t, exec (.tierEviction tier) s = .next t ∧ Tbl.find t.store.pages page = none := by
  have hfree := freePage_only (s := s) (page := page) (by simp [hheld])
  have heff : retryWaits (evictTier s tier) = keysWithout (freePage s page) page false := by
    rw [hevict, evictPage, if_pos hdiscard]
    refine retryWaits_none ?_
    rw [hfree]
    exact hwaits
  refine ⟨_, (exec_tierEviction tier s).trans (act_of_eq ha heff ?_), ?_⟩
  · rw [hfree]
    rfl
  · rw [hfree]
    exact Tbl.find_del_same _ _

theorem exec_tierEviction_moves {s : State} {tier d : Tier} {page u : Nat} {p : Page} (ha : awake s = true)
    (hwaits : s.store.waits = []) (hevict : evictTier s tier = evictPage s tier page p) (hdiscard : p.discard = false)
    (hto : evictTo s tier = some d) (hu : placeUnit s d = some u) (hstill : isMoving s page = false) :
    ∃ t, exec (.tierEviction tier) s = .next t ∧ MoveBegins s t page d false := by
  have hbegins := startMove_begins hstill hu false
  rw [exec_tierEviction]
  refine act_moveBegins ha ?_ hbegins
  rw [hevict, evictPage, if_neg (by simp [hdiscard]), hto]
  exact retryWaits_none (hbegins.waits.trans hwaits)

/-! ### PROMOTION (R321) -/

theorem promotePages_low {s : State} (h : tierAtHigh s .near = false) : promotePages s = s := by simp [promotePages, h]

/-- The one page to promote moves up while the near tier stays above LOW. -/
theorem promotePages_candidate {s : State} {page : Nat} {p : Page} (hhigh : tierAtHigh s .near = true)
    (hone : promotable s = [(page, p)]) (hlow : poolLow s * tierTotal s .near ≤ (tierFree s .near - 1) * 1024)
    (hfree : 0 < tierFree s .near) : promotePages s = startMove s page .near false := by
  simp [promotePages, hhigh, hone, hlow, hfree]

theorem exec_promotion (s : State) : exec .promotion s = act s promotePages := rfl

/-! ### MOVE_FLIP and DEEP_PROMOTION_DONE (R323, R325) -/

theorem moveOf_page {s : State} {page : Nat} {m : Move} (h : moveOf s page = some m) : m.page = page := by
  simpa using List.find?_some h

/-- The entry of a page once a move of it has flipped. -/
def flippedPage (s : State) (m : Move) (p : Page) : Page :=
  { p with
    tier := m.tier, unit := m.unit, index := m.index, forms := if m.tier == .near then [] else packForms s m.page
    phase := if m.promotion then .promoted else .resident }

theorem flipPage_eq (s : State) (m : Move) : flipPage s m = { s with store := { s.store with
    pages := Tbl.alter s.store.pages m.page (flippedPage s m)
    moves := s.store.moves.filter (fun x => x.page != m.page) } } := rfl

theorem flipNow_noneHeld {s : State} (h : s.store.held = []) (m : Move) : flipNow s m = flipPage s m := by
  have hrelease : releaseHeld (flipPage s m) m.page = flipPage s m := releaseHeld_none (by simp [flipPage_eq, h])
  simp only [flipNow, hrelease, ite_self]
  exact retryPromotions_none h

theorem retry_flipNow {s : State} (hheld : s.store.held = []) (hwaits : s.store.waits = []) (hembed : s.embed.held = [])
    (m : Move) : retryHeld (retryWaits (flipNow s m)) = flipPage s m := by
  rw [flipNow_noneHeld hheld, retryWaits_none (by exact hwaits), retryHeld_none (by exact hembed)]

theorem exec_moveFlip (page : Nat) (s : State) :
    exec (.moveFlip page) s = act s (fun s => retryHeld (retryWaits (moveFlip s page))) := rfl

theorem exec_deepPromotionDone (page : Nat) (s : State) :
    exec (.deepPromotionDone page) s = act s (fun s => retryHeld (retryWaits (promotionDone s page))) := rfl

theorem exec_flips {s : State} {page : Nat} {m : Move} {c : Instr} (ha : awake s = true) (hm : moveOf s page = some m)
    (hheld : s.store.held = []) (hwaits : s.store.waits = []) (hembed : s.embed.held = [])
    (hc : (c = .moveFlip page ∧ m.promotion = false) ∨ (c = .deepPromotionDone page ∧ m.promotion = true)) :
    exec c s = .next (flipPage s m) := by
  have hflip := retry_flipNow hheld hwaits hembed m
  obtain ⟨rfl, hp⟩ | ⟨rfl, hp⟩ := hc
  · rw [exec_moveFlip]
    exact act_of_eq ha (by simpa [moveFlip, hm, hp] using hflip) rfl
  · rw [exec_deepPromotionDone]
    exact act_of_eq ha (by simpa [promotionDone, hm, hp] using hflip) rfl

/-! ### PROMOTED_RETURN (R323) -/

theorem promotedReturn_starts {s : State} {page : Nat} {p : Page} (hp : Tbl.find s.store.pages page = some p)
    (hphase : p.phase = .promoted) (hroom : moveRoom s .deep = true) :
    promotedReturn s page = startMove s page .deep false := by
  simp [promotedReturn, hp, hphase, hroom]

theorem exec_promotedReturn (page : Nat) (s : State) :
    exec (.promotedReturn page) s = act s (fun s => promotedReturn s page) := rfl

/-- Settles O45: a short tier's one candidate is dropped or begins its move, and a move's flip changes its page's entry
and ends the move. -/
theorem pagesMoveBetweenTiers : Obligations.PagesMoveBetweenTiers := by
  refine ⟨fun s tier ha hwaits => ⟨fun hshort => ?notShort, fun page p hshort htier hone hmore hfloor => ?short⟩,
    fun s ha => ⟨fun hlow => ?low, fun page p u hhigh hone hlow hfree hstill hu => ?promotes⟩,
    fun s page m p c ha hm hheld hwaits hembed hp hc => ?flips,
    fun s page p u ha hp hphase hroom hstill hu => ?returns⟩
  case notShort =>
    have heff : retryWaits (evictTier s tier) = s := by rw [evictTier_notShort hshort, retryWaits_none hwaits]
    rw [exec_tierEviction]
    exact act_of_eq ha heff rfl
  case short =>
    have hevict := evictTier_candidate hshort htier hone hmore hfloor
    exact ⟨fun hdiscard hheld => exec_tierEviction_discards ha hwaits hevict hdiscard hheld,
      fun d u hdiscard hto hu hstill => exec_tierEviction_moves ha hwaits hevict hdiscard hto hu hstill⟩
  case low =>
    rw [exec_promotion]
    exact act_of_eq ha (promotePages_low hlow) rfl
  case promotes =>
    rw [exec_promotion]
    exact act_moveBegins ha (promotePages_candidate hhigh hone hlow hfree) (startMove_begins hstill hu false)
  case flips =>
    obtain rfl := moveOf_page hm
    refine ⟨_, exec_flips ha hm hheld hwaits hembed hc, rfl, flippedPage s m p, ?_, rfl, rfl, rfl, rfl, rfl,
      fun k hk => ?_, fun x => ?_⟩
    · simp [flipPage_eq, Tbl.find_alter, hp]
    · simp [flipPage_eq, Tbl.find_alter, hk]
    · simp [flipPage_eq]
  case returns =>
    rw [exec_promotedReturn]
    exact act_moveBegins ha (promotedReturn_starts hp hphase hroom) (startMove_begins hstill hu false)

end Sys2Proof.Machine

/-! Mailbox messages that are taken at once and answered (R547, R549), and the room that new pages take (R305, R313). -/

namespace Sys2Proof

/-! ### Sums and tables -/

theorem sumNat_eq_sum (l : List Nat) : sumNat l = l.sum := List.sum_eq_foldl.symm

theorem exists_ne_zero_of_sumNat {l : List Nat} (h : 0 < sumNat l) : ∃ x, x ∈ l ∧ x ≠ 0 := by
  rw [sumNat_eq_sum] at h
  induction l with
  | nil => exact absurd h (Nat.lt_irrefl 0)
  | cons a l ih =>
    rw [List.sum_cons] at h
    by_cases ha : a = 0
    · obtain ⟨x, hx, hne⟩ := ih (by omega)
      exact ⟨x, List.mem_cons_of_mem _ hx, hne⟩
    · exact ⟨a, List.mem_cons_self, ha⟩

theorem length_eq_sum {α : Type} (l : List α) : l.length = (l.map (fun _ => 1)).sum := by
  induction l with
  | nil => rfl
  | cons a l ih => rw [List.length_cons, List.map_cons, List.sum_cons, ih, Nat.add_comm]

theorem sum_filter_cons {α : Type} (test : α → Bool) (g : α → Nat) (a : α) (l : List α) :
    (((a :: l).filter test).map g).sum = (if test a = true then g a else 0) + ((l.filter test).map g).sum := by
  rw [List.filter_cons]
  split
  · rw [List.map_cons, List.sum_cons]
  · rw [Nat.zero_add]

/-- Where one list stands above another by 1 in one place at most, so does its sum. -/
theorem sumNat_range_le {f g : Nat → Nat} {c : Nat} (h : ∀ i, f i ≤ g i + if c = i then 1 else 0) (n : Nat) :
    sumNat ((List.range n).map f) ≤ sumNat ((List.range n).map g) + if c < n then 1 else 0 := by
  induction n with
  | zero => simp [sumNat_eq_sum]
  | succ n ih =>
    have hn := h n
    simp only [sumNat_eq_sum, List.range_succ, List.map_append, List.map_cons, List.map_nil, List.sum_append,
      List.sum_singleton] at ih ⊢
    split at hn <;> split at ih <;> split <;> omega

/-- A table holds no more after an update than it held with the new entry beside it. -/
theorem Tbl.sum_filter_put_le {α : Type} (test : Nat × α → Bool) (g : Nat × α → Nat) (t : Tbl α) (k : Nat) (v : α) :
    (((Tbl.put t k v).filter test).map g).sum ≤
      (if test (k, v) = true then g (k, v) else 0) + ((t.filter test).map g).sum := by
  induction t with
  | nil => exact Nat.le_of_eq (sum_filter_cons test g (k, v) [])
  | cons e t ih =>
    obtain ⟨j, w⟩ := e
    have hold := sum_filter_cons test g (j, w) t
    simp only [Tbl.put]
    split
    · exact Nat.le_of_eq (sum_filter_cons test g (k, v) ((j, w) :: t))
    · split
      · have hnew := sum_filter_cons test g (k, v) t
        omega
      · have hkept := sum_filter_cons test g (j, w) (Tbl.put t k v)
        omega

theorem mem_run {base n k : Nat} : k ∈ (List.range n).map (· + base) ↔ base ≤ k ∧ k < base + n := by
  simp only [List.mem_map, List.mem_range]
  constructor
  · rintro ⟨i, hi, rfl⟩
    omega
  · exact fun h => ⟨k - base, by omega, by omega⟩

theorem bestBy_eq_none_iff {α : Type} (key : α → Nat) (l : List α) : bestBy key l = none ↔ l = [] := by
  cases l with
  | nil => simp [bestBy]
  | cons a t =>
    simp only [bestBy]
    split
    · simp
    · split <;> simp

theorem le_of_bestBy {α : Type} {key : α → Nat} {l : List α} {b : α} (h : bestBy key l = some b) : ∀ a ∈ l, key a ≤ key b := by
  induction l generalizing b with
  | nil => simp
  | cons c t ih =>
    simp only [bestBy] at h
    split at h
    next hnone =>
      obtain rfl := (bestBy_eq_none_iff key t).mp hnone
      obtain rfl := Option.some.inj h
      exact fun a ha => Nat.le_of_eq (congrArg key (List.mem_singleton.mp ha))
    next d hd =>
      have htail := ih hd
      rw [List.forall_mem_cons]
      split at h
      · next hlt =>
        obtain rfl := Option.some.inj h
        exact ⟨Nat.le_of_lt hlt, htail⟩
      · next hge =>
        obtain rfl := Option.some.inj h
        exact ⟨Nat.le_refl _, fun a ha => Nat.le_trans (htail a ha) (Nat.not_lt.mp hge)⟩

end Sys2Proof

namespace Sys2Proof.Machine

open Sys2Proof

/-! ### Messages that their core takes at once (R547, R549) -/

/-- The mailbox of a sender whose message its serving core has taken. -/
def begun (tag : Nat) (m : Mailbox) : Mailbox := { m with busy := true, tag := tag }

theorem mailboxOf_modMailbox (s : State) (who : Sender) (f : Mailbox → Mailbox) :
    mailboxOf (modMailbox s who f) who = f (mailboxOf s who) := Tbl.at_change_same ..

theorem find_modMailbox_other (s : State) (who : Sender) (f : Mailbox → Mailbox) {k : Nat} (h : k ≠ senderKey who) :
    Tbl.find (modMailbox s who f).mailbox k = Tbl.find s.mailbox k := Tbl.find_change_other _ _ _ h

theorem submit_taken {serve : State → Sender → Nat → Message → State} {s : State} {who : Sender} {tag : Nat} {msg : Message}
    (hbusy : (mailboxOf s who).busy = false) (hcore : coreRuns s (servingCore (messageId msg)) = true) :
    submit serve s who tag msg = serve (modMailbox s who (begun tag)) who tag msg := by
  unfold submit
  rw [if_neg (by simp [hbusy])]
  exact if_pos hcore

/-- A message of `who` that came in `s` can be answered in `u`: but for BUSY and the tag of its sender, the mailboxes are
those of `s`, and nothing was sent. -/
structure Answerable (s u : State) (who : Sender) : Prop where
  mailbox : ∃ busy tag, mailboxOf u who = { mailboxOf s who with busy := busy, tag := tag }
  others : ∀ k, k ≠ senderKey who → Tbl.find u.mailbox k = Tbl.find s.mailbox k
  boot : u.boot = s.boot
  outbox : u.outbox = s.outbox

theorem answerable_begun (s : State) (who : Sender) (tag : Nat) : Answerable s (modMailbox s who (begun tag)) who where
  mailbox := ⟨true, tag, mailboxOf_modMailbox ..⟩
  others _ hk := find_modMailbox_other _ _ _ hk
  boot := rfl
  outbox := rfl

theorem answerable_of_eq {s u : State} (who : Sender) (hmailbox : u.mailbox = s.mailbox) (hboot : u.boot = s.boot)
    (houtbox : u.outbox = s.outbox) : Answerable s u who where
  mailbox := ⟨(mailboxOf s who).busy, (mailboxOf s who).tag, by simp only [mailboxOf, hmailbox]⟩
  others k _ := by rw [hmailbox]
  boot := hboot
  outbox := houtbox

theorem Answerable.congr {s u v : State} {who : Sender} (h : Answerable s u who) (hmailbox : v.mailbox = u.mailbox)
    (hboot : v.boot = u.boot) (houtbox : v.outbox = u.outbox) : Answerable s v who where
  mailbox := by
    obtain ⟨busy, tag, hbox⟩ := h.mailbox
    refine ⟨busy, tag, ?_⟩
    rw [← hbox, mailboxOf, hmailbox, mailboxOf]
  others k hk := by rw [hmailbox, h.others k hk]
  boot := hboot.trans h.boot
  outbox := houtbox.trans h.outbox

/-- The mailbox of a sender once its message is answered. -/
def answered (s : State) (id tag : Nat) (st : Status) (rest : List Byte) (m : Mailbox) : Mailbox :=
  { m with
    busy := false, waitFw := false, done := true, tag := tag
    response := putBytes m.response 0
      (responseHeader s id tag (rest.length + 1) ++ BitVec.ofNat 8 (statusCode st) :: rest) }

theorem respond_eq (s : State) (who : Sender) (id tag : Nat) (st : Status) (rest : List Byte) :
    respond s who id tag st rest = emit (modMailbox s who (answered s id tag st rest))
      (.mailbox who tag st (BitVec.ofNat 8 (statusCode st) :: rest)) := rfl

theorem respond_only (s : State) (who : Sender) (id tag : Nat) (st : Status) (rest : List Byte) :
    respond s who id tag st rest = { s with
      mailbox := (respond s who id tag st rest).mailbox, outbox := (respond s who id tag st rest).outbox } := rfl

@[simp] theorem respond_store (s : State) (who : Sender) (id tag : Nat) (st : Status) (rest : List Byte) :
    (respond s who id tag st rest).store = s.store := rfl

theorem Answerable.responds {s u : State} {who : Sender} (h : Answerable s u who) (id tag : Nat) (st : Status)
    (rest : List Byte) : Responds s (respond u who id tag st rest) who id tag st rest := by
  obtain ⟨busy, old, hbox⟩ := h.mailbox
  have hheader (len : Nat) : responseHeader u id tag len = responseHeader s id tag len := by
    simp only [responseHeader, mboxMajor, mboxMinor, h.boot]
  rw [respond_eq]
  refine ⟨?_, fun k hk => ?_, ?_⟩
  · refine (mailboxOf_modMailbox u who _).trans ?_
    rw [hbox, answered, hheader, Nat.add_comm]
  · exact (find_modMailbox_other u who _ hk).trans (h.others k hk)
  · rw [emit_outbox, modMailbox_outbox, h.outbox]

theorem act_responds {s u : State} {f : State → State} {who : Sender} {id tag : Nat} {st : Status} {rest : List Byte}
    (ha : awake s = true) (hf : f s = respond u who id tag st rest) (h : Answerable s u who) :
    act s f = .next (respond u who id tag st rest) := by
  obtain ⟨-, -, hsent⟩ := h.responds id tag st rest
  rw [← hf] at hsent ⊢
  refine act_local s f _ ha hsent fun o ho => ?_
  obtain rfl := List.mem_singleton.mp ho
  exact ⟨rfl, by simp⟩

/-- A message that is answered at once and does nothing else. -/
theorem Answerable.onlyResponds {s u : State} {who : Sender} (h : Answerable s u who)
    (hu : u = { s with mailbox := u.mailbox }) (id tag : Nat) (st : Status) (rest : List Byte) :
    OnlyResponds s (respond u who id tag st rest) who id tag st rest := by
  refine ⟨h.responds id tag st rest, ?_⟩
  rw [respond_only, hu]

/-! ### Room for new pages (R305, R313) -/

/-- A page stands in the page map, its bytes and its poison cleared. -/
def placedAt (s : State) (page : Nat) (p : Page) : State := spend (addPage (zeroPage s page) page p) 1

theorem placeUnit_of_free {s : State} {t : Tier} (h : 0 < tierFree s t) : ∃ u, placeUnit s t = some u := by
  obtain ⟨_, hmem, hfree⟩ := exists_ne_zero_of_sumNat h
  obtain ⟨v, hv, rfl⟩ := List.mem_map.mp hmem
  obtain ⟨b, hb⟩ : ∃ b, bestBy (unitFree s t) (List.range (tierUnits t)) = some b :=
    Option.ne_none_iff_exists'.mp fun hnone => by simp [(bestBy_eq_none_iff _ _).mp hnone] at hv
  have hbest := le_of_bestBy hb v hv
  exact ⟨b, by simp [placeUnit, hb, show unitFree s t b ≠ 0 by omega]⟩

/-- The entries of the pages on a unit. -/
def pagesOn (s : State) (t : Tier) (u : Nat) : List (Nat × Page) :=
  s.store.pages.filter (fun e => e.2.tier == t && e.2.unit == u)

/-- A sum over the pages on a unit grows by the new page's part at most, and only on the new page's own unit. -/
theorem sum_pagesOn_placedAt (g : Nat × Page → Nat) (s : State) (page : Nat) (p : Page) (t : Tier) (u : Nat) :
    ((pagesOn (placedAt s page p) t u).map g).sum ≤
      ((pagesOn s t u).map g).sum + if p.unit = u then g (page, p) else 0 := by
  have hput := Tbl.sum_filter_put_le (fun e => e.2.tier == t && e.2.unit == u) g s.store.pages page p
  refine Nat.le_trans hput ?_
  rw [Nat.add_comm]
  refine Nat.add_le_add_left ?_ _
  by_cases hu : p.unit = u
  · rw [if_pos hu]
    split
    · exact Nat.le_refl _
    · exact Nat.zero_le _
  · have hoff : ¬ (p.tier == t && p.unit == u) = true := by simp [hu]
    exact Nat.le_of_eq ((if_neg hoff).trans (if_neg hu).symm)

theorem length_pagesOn_placedAt (s : State) (page : Nat) (p : Page) (t : Tier) (u : Nat) :
    (pagesOn (placedAt s page p) t u).length ≤ (pagesOn s t u).length + if p.unit = u then 1 else 0 := by
  rw [length_eq_sum, length_eq_sum]
  exact sum_pagesOn_placedAt (fun _ => 1) s page p t u

/-- A new page takes no sector: every unit of it is a zero-pattern unit (R314). -/
theorem sectors_pagesOn_placedAt (s : State) (page : Nat) {p : Page} (hforms : p.forms = []) (t : Tier) (u : Nat) :
    ((pagesOn (placedAt s page p) t u).map (fun e => pageSectors e.2)).sum ≤
      ((pagesOn s t u).map (fun e => pageSectors e.2)).sum := by
  have hnone : pageSectors p = 0 := by rw [pageSectors, hforms]; rfl
  have hsum := sum_pagesOn_placedAt (fun e => pageSectors e.2) s page p t u
  rwa [hnone, ite_self, Nat.add_zero] at hsum

/-- A new page takes one page of its own unit at most. -/
theorem unitUsed_placedAt_le (s : State) (page : Nat) {p : Page} (hforms : p.forms = []) (t : Tier) (u : Nat) :
    unitUsed (placedAt s page p) t u ≤ unitUsed s t u + if p.unit = u then 1 else 0 := by
  have hlength := length_pagesOn_placedAt s page p t u
  have hsectors := sectors_pagesOn_placedAt s page hforms t u
  have hmoves : (placedAt s page p).store.moves = s.store.moves := rfl
  unfold pagesOn at hlength hsectors
  cases t <;> simp only [unitUsed, sumNat_eq_sum, hmoves] <;> omega

theorem unitFree_le_placedAt (s : State) (page : Nat) {p : Page} (hforms : p.forms = []) (t : Tier) (u : Nat) :
    unitFree s t u ≤ unitFree (placedAt s page p) t u + if p.unit = u then 1 else 0 := by
  have hused := unitUsed_placedAt_le s page hforms t u
  have hpages : unitPages (placedAt s page p) t u = unitPages s t u := rfl
  have hscrubs : (placedAt s page p).store.scrubs = s.store.scrubs := rfl
  have herasing : (placedAt s page p).store.erasing = s.store.erasing := rfl
  simp only [unitFree, hpages, hscrubs, herasing]
  omega

theorem tierFree_le_placedAt (s : State) (page : Nat) {p : Page} (hforms : p.forms = []) (t : Tier) :
    tierFree s t ≤ tierFree (placedAt s page p) t + 1 := by
  have hsum := sumNat_range_le (unitFree_le_placedAt s page hforms t) (tierUnits t)
  rw [tierFree, tierFree]
  split at hsum <;> omega

end Sys2Proof.Machine

/-! ALLOC_PAGES, FREE_PAGES and EVICTION_WAIT_EXPIRY (R312 to R315): PageMessagesPlaceAndFreePages. -/

namespace Sys2Proof.Machine

open Sys2Proof

/-! ### Pages whose bytes are cleared (R314) -/

/-- A memory in which the bytes of some pages read zero and every other byte as in the memory before. -/
structure Cleared (m m' : List Host.Cell) (ks : List Nat) : Prop where
  wf : Memory.wf m' = true
  byte : ∀ a, memByte m' a = if pageOf a ∈ ks then 0 else memByte m a

theorem Cleared.nil {m : List Host.Cell} (h : Memory.wf m = true) : Cleared m m [] := ⟨h, fun _ => by simp⟩

theorem pageOf_mem_run {base n a : Nat} : pageOf a ∈ (List.range n).map (· + base) ↔
    base * Config.pageBytes ≤ a ∧ a < (base + n) * Config.pageBytes := by
  have hpos : 0 < Config.pageBytes := by decide
  rw [mem_run, pageOf, Nat.le_div_iff_mul_le hpos, Nat.div_lt_iff_lt_mul hpos]

theorem pageOf_eq_iff {page a : Nat} : pageOf a = page ↔
    page * Config.pageBytes ≤ a ∧ a < page * Config.pageBytes + Config.pageBytes := by
  have hrun := pageOf_mem_run (base := page) (n := 1) (a := a)
  simpa [Nat.add_mul] using hrun

/-- One more page is cleared before the others. -/
theorem Cleared.cons {m m' : List Host.Cell} {page : Nat} {ks : List Nat} (hwf : Memory.wf m = true)
    (h : Cleared (memClear m (page * Config.pageBytes) Config.pageBytes) m' ks) : Cleared m m' (page :: ks) := by
  refine ⟨h.wf, fun a => ?_⟩
  rw [h.byte, memByte_memClear _ _ _ _ hwf]
  by_cases hks : pageOf a ∈ ks
  · simp [hks]
  · simp [hks, pageOf_eq_iff]

/-! ### Pages that are placed (R313, R314) -/

section Placing

variable {owner : Nat} {tier : Tier} {want format : Nat} {pooled discard lastWins : Bool} {cls : PageClass}

/-- A new page of an allocation that comes in `s`: any unit of its tier and any index there. -/
def FreshPage (s : State) (owner : Nat) (tier : Tier) (want format : Nat) (pooled discard lastWins : Bool) (cls : PageClass)
    (p : Page) : Prop :=
  ∃ (r : State) (u : Nat), nowMs r = nowMs s ∧ p = newPage r owner tier u want format pooled discard lastWins cls

/-- Pages have been placed: they are new, their bytes read zero, and every other page and byte is as before. -/
structure PlacedPages (s t : State) (new : Page → Prop) (ks : List Nat) : Prop where
  only : t = { s with
    free := t.free, store := { s.store with pages := t.store.pages, mem := t.store.mem, poison := t.store.poison } }
  fresh : ∀ k ∈ ks, ∃ p, Tbl.find t.store.pages k = some p ∧ new p
  others : ∀ k, k ∉ ks → Tbl.find t.store.pages k = Tbl.find s.store.pages k
  cleared : Cleared s.store.mem t.store.mem ks

theorem placePage_places {s : State} (h : 0 < tierFree s tier) (page : Nat) : ∃ u,
    placePage owner tier want format pooled discard lastWins cls s page =
      placedAt s page (newPage s owner tier u want format pooled discard lastWins cls) := by
  obtain ⟨u, hu⟩ := placeUnit_of_free h
  exact ⟨u, by rw [placePage, hu]; rfl⟩

theorem PlacedPages.nil {s : State} (hwf : Memory.wf s.store.mem = true) (new : Page → Prop) : PlacedPages s s new [] :=
  ⟨rfl, by simp, fun _ _ => rfl, .nil hwf⟩

/-- One more page is placed before the others. -/
theorem PlacedPages.cons {s t : State} {new : Page → Prop} {page : Nat} {p : Page} {ks : List Nat}
    (hwf : Memory.wf s.store.mem = true) (hp : new p) (h : PlacedPages (placedAt s page p) t new ks) :
    PlacedPages s t new (page :: ks) where
  only := h.only
  fresh k hk := by
    by_cases hks : k ∈ ks
    · exact h.fresh k hks
    · obtain rfl : k = page := by simpa [hks] using hk
      exact ⟨p, (h.others k hks).trans (Tbl.find_put_same ..), hp⟩
  others k hk := by
    rw [List.mem_cons, not_or] at hk
    obtain ⟨hpage, hks⟩ := hk
    exact (h.others k hks).trans (Tbl.find_put_other _ _ hpage)
  cleared := .cons hwf h.cleared

/-- While the tier has room for all of them, every page finds a unit. -/
theorem placePage_foldl {s : State} {ks : List Nat} (hroom : ks.length ≤ tierFree s tier) (hwf : Memory.wf s.store.mem = true) :
    PlacedPages s (ks.foldl (placePage owner tier want format pooled discard lastWins cls) s)
      (FreshPage s owner tier want format pooled discard lastWins cls) ks := by
  induction ks generalizing s with
  | nil => exact .nil hwf _
  | cons page ks ih =>
    rw [List.length_cons] at hroom
    obtain ⟨u, hplaced⟩ := placePage_places (owner := owner) (want := want) (format := format) (pooled := pooled)
      (discard := discard) (lastWins := lastWins) (cls := cls) (Nat.lt_of_lt_of_le (Nat.succ_pos _) hroom) page
    have hless := tierFree_le_placedAt s page (p := newPage s owner tier u want format pooled discard lastWins cls) rfl tier
    rw [List.foldl_cons, hplaced]
    exact .cons hwf ⟨s, u, rfl, rfl⟩ (ih (by omega) (memClear_wf _ _ _ hwf))

end Placing

/-! ### ALLOC_PAGES (R309 to R314) -/

/-- An allocation of CLASS Published makes a region of its pages (R381). -/
def withRegion (cls base : Nat) (r : PubRegion) (s : State) : State :=
  if cls == 2 then { s with order := { s.order with regions := Tbl.put s.order.regions base r } } else s

theorem withRegion_only (cls base : Nat) (r : PubRegion) (s : State) : withRegion cls base r s =
    { s with order := { s.order with regions := (withRegion cls base r s).order.regions } } := by
  unfold withRegion
  split <;> rfl

theorem find_withRegion (cls base : Nat) (r : PubRegion) (s : State) (k : Nat) :
    Tbl.find (withRegion cls base r s).order.regions k = if cls = 2 ∧ k = base then some r else Tbl.find s.order.regions k := by
  unfold withRegion
  by_cases hcls : cls = 2
  · by_cases hk : k = base
    · simp [hcls, hk]
    · simp [hcls, hk, Tbl.find_put_other]
  · simp [hcls]

/-- Whether a run of page numbers is free, or the first gap stands in for it. -/
theorem freeBase_cases (s : State) (n : Nat) :
    pagesFree s (freeBase s n) n = true ∨ freeBase s n = firstGap n 0 s.store.pages := by
  rw [freeBase, chooseFree]
  split
  next h => exact .inl h
  next => exact .inr rfl

/-! ### What an allocation meets in its tier (R313) -/

theorem allocStatus_pastCeiling {s : State} {tenant count want : Nat}
    (h : withinCeiling s tenant (chooseTier s want count) count = false) :
    allocStatus s tenant count want = .quotaExceeded ∧ allocWaits s tenant count want = false := by
  simp [allocStatus, allocWaits, h]

theorem allocStatus_noRoom {s : State} {tenant count want : Nat}
    (hceiling : withinCeiling s tenant (chooseTier s want count) count = true)
    (hroom : tierAvailable s (chooseTier s want count) < count) :
    allocStatus s tenant count want = .quotaExceeded ∧ allocWaits s tenant count want = true := by
  simp [allocStatus, allocWaits, hceiling, hroom]

theorem allocStatus_room {s : State} {tenant count want : Nat}
    (hceiling : withinCeiling s tenant (chooseTier s want count) count = true)
    (hroom : count ≤ tierAvailable s (chooseTier s want count)) : allocStatus s tenant count want = .ok := by
  simp [allocStatus, hceiling, Nat.not_lt.mpr hroom]

theorem tierAvailable_le (s : State) (t : Tier) : tierAvailable s t ≤ tierFree s t := by
  cases t with
  | far => exact Nat.sub_le _ _
  | near => exact Nat.le_refl _
  | deep => exact Nat.le_refl _

section Alloc

variable {s : State} {who : Sender} {tag tenant count flags format cls pub : Nat}

theorem allocPages_permission (last : Bool) (hmay : mayActFor s who tenant = false) :
    allocPages s who tag tenant count flags format cls pub last = respond s who 0x0800 tag .permission (zeros 15) := by
  simp only [allocPages, hmay]
  rfl

theorem allocPages_format (last : Bool) (hmay : mayActFor s who tenant = true) (hbad : count = 0 ∨ 512 < count ∨ 2 < cls) :
    allocPages s who tag tenant count flags format cls pub last =
      respond s who 0x0800 tag .formatUnsupported (zeros 15) := by
  have hfields : (count == 0 || decide (512 < count) || decide (2 < cls)) = true := by simpa [or_assoc] using hbad
  simp only [allocPages, hmay, hfields]
  rfl

/-- ALLOC_PAGES with its fields in range turns on the room and the ceiling. -/
theorem allocPages_fields (last : Bool) (hmay : mayActFor s who tenant = true) (hlo : 1 ≤ count) (hhi : count ≤ 512)
    (hcls : cls ≤ 2) : allocPages s who tag tenant count flags format cls pub last =
      if allocStatus s tenant count (bits flags 0 2) = .ok then
        respond (allocNow s tenant count flags format cls pub).1 who 0x0800 tag .ok
          (zeros 7 ++ leBytes 8 (saOf (hubNode s) ((allocNow s tenant count flags format cls pub).2 * Config.pageBytes)))
      else if (last || !allocWaits s tenant count (bits flags 0 2)) = true then
        respond s who 0x0800 tag .quotaExceeded (zeros 15)
      else { s with store := { s.store with
        ticket := s.store.ticket + 1
        waits := s.store.waits ++ [{ ticket := s.store.ticket, ask := .pages who tag tenant count flags format cls pub }] } } := by
  have hfields : (count == 0 || decide (512 < count) || decide (2 < cls)) = false := by
    simp only [Bool.or_eq_false_iff, beq_eq_false_iff_ne, decide_eq_false_iff_not]
    omega
  simp only [allocPages, hmay, hfields, beq_iff_eq]
  rfl

/-- The region of an allocation of CLASS Published (R381). -/
def newRegion (count cls pub : Nat) : PubRegion := { pages := count, version := 1, lastWins := cls == 2 && bit pub 0 }

/-- A page that an allocation which comes in `s` places, in the tier that FLAGS allow (R312, R313). -/
def Allocated (s : State) (tenant count flags format cls pub : Nat) : Page → Prop :=
  FreshPage s tenant (chooseTier s (bits flags 0 2) count) (bits flags 0 2) (bits format 0 4) (bit flags 2) false
    (cls == 2 && bit pub 0) (pageClass cls)

theorem allocNow_eq : allocNow s tenant count flags format cls pub =
    (withRegion cls (freeBase s count) (newRegion count cls pub) (placePages (spend s 1) tenant
      (freeBase s count) count (chooseTier s (bits flags 0 2) count) (bits flags 0 2) (bits format 0 4) (bit flags 2) false
      (cls == 2 && bit pub 0) (pageClass cls)), freeBase s count) := rfl

/-- The page numbers of the allocation hold new pages of the tenant. -/
theorem allocNow_places (hwf : Memory.wf s.store.mem = true)
    (hroom : count ≤ tierAvailable s (chooseTier s (bits flags 0 2) count)) : ∃ u,
    (allocNow s tenant count flags format cls pub).1 = withRegion cls (freeBase s count) (newRegion count cls pub) u ∧
    PlacedPages (spend s 1) u (Allocated s tenant count flags format cls pub)
      ((List.range count).map (· + freeBase s count)) :=
  ⟨_, congrArg Prod.fst allocNow_eq, placePage_foldl (s := spend s 1)
    (by rw [List.length_map, List.length_range]; exact Nat.le_trans hroom (tierAvailable_le s _)) hwf⟩

theorem exec_allocPages (who : Sender) (tag tenant count flags format cls pub : Nat) (s : State) :
    exec (.allocPages who tag tenant count flags format cls pub) s =
      act s (fun s => submit serveMessage s who tag (.alloc tenant count flags format cls pub)) := rfl

theorem submit_alloc (h : Taken s (.allocPages who tag tenant count flags format cls pub)) :
    submit serveMessage s who tag (.alloc tenant count flags format cls pub) =
      allocPages (modMailbox s who (begun tag)) who tag tenant count flags format cls pub false := by
  obtain ⟨_, _, _, ⟨⟩, hbusy, hcore⟩ := h
  exact submit_taken hbusy hcore

theorem exec_allocPages_answers {u : State} {st : Status} {rest : List Byte} (ha : awake s = true)
    (htaken : Taken s (.allocPages who tag tenant count flags format cls pub))
    (hf : allocPages (modMailbox s who (begun tag)) who tag tenant count flags format cls pub false =
      respond u who 0x0800 tag st rest) (hu : Answerable s u who) :
    exec (.allocPages who tag tenant count flags format cls pub) s = .next (respond u who 0x0800 tag st rest) := by
  rw [exec_allocPages]
  exact act_responds ha ((submit_alloc htaken).trans hf) hu

theorem exec_allocPages_refuses {st : Status} (ha : awake s = true)
    (htaken : Taken s (.allocPages who tag tenant count flags format cls pub))
    (hf : allocPages (modMailbox s who (begun tag)) who tag tenant count flags format cls pub false =
      respond (modMailbox s who (begun tag)) who 0x0800 tag st (zeros 15)) :
    ∃ t, exec (.allocPages who tag tenant count flags format cls pub) s = .next t ∧
      OnlyResponds s t who 0x0800 tag st (zeros 15) :=
  have hbegun := answerable_begun s who tag
  ⟨_, exec_allocPages_answers ha htaken hf hbegun, hbegun.onlyResponds rfl 0x0800 tag st (zeros 15)⟩

/-! ### ALLOC_PAGES with its fields in range (R312, R313) -/

variable (ha : awake s = true) (htaken : Taken s (.allocPages who tag tenant count flags format cls pub))
  (hmay : mayActFor s who tenant = true) (hlo : 1 ≤ count) (hhi : count ≤ 512) (hcls : cls ≤ 2)

include ha htaken hmay hlo hhi hcls

theorem exec_allocPages_pastCeiling
    (hceiling : withinCeiling s tenant (chooseTier s (bits flags 0 2) count) count = false) :
    ∃ t, exec (.allocPages who tag tenant count flags format cls pub) s = .next t ∧
      OnlyResponds s t who 0x0800 tag .quotaExceeded (zeros 15) := by
  obtain ⟨hstatus, hwaits⟩ := allocStatus_pastCeiling (s := modMailbox s who (begun tag)) hceiling
  refine exec_allocPages_refuses ha htaken ?_
  rw [allocPages_fields (s := modMailbox s who (begun tag)) false hmay hlo hhi hcls]
  simp [hstatus, hwaits]

theorem exec_allocPages_waits
    (hceiling : withinCeiling s tenant (chooseTier s (bits flags 0 2) count) count = true)
    (hroom : tierAvailable s (chooseTier s (bits flags 0 2) count) < count) :
    exec (.allocPages who tag tenant count flags format cls pub) s = .next { modMailbox s who (begun tag) with
      store := { s.store with
        ticket := s.store.ticket + 1
        waits := s.store.waits ++ [{ ticket := s.store.ticket, ask := .pages who tag tenant count flags format cls pub }] } } := by
  obtain ⟨hstatus, hwaits⟩ := allocStatus_noRoom (s := modMailbox s who (begun tag)) hceiling hroom
  rw [exec_allocPages]
  refine act_of_eq ha ((submit_alloc htaken).trans ?_) rfl
  rw [allocPages_fields (s := modMailbox s who (begun tag)) false hmay hlo hhi hcls]
  simp [hstatus, hwaits]

/-- An allocation with room: its pages, its region, its answer, and nothing else. -/
theorem exec_allocPages_places
    (hceiling : withinCeiling s tenant (chooseTier s (bits flags 0 2) count) count = true)
    (hroom : count ≤ tierAvailable s (chooseTier s (bits flags 0 2) count)) (hwf : Memory.wf s.store.mem = true) :
    ∃ u t, exec (.allocPages who tag tenant count flags format cls pub) s = .next t ∧
      Responds s t who 0x0800 tag .ok (zeros 7 ++ leBytes 8 (saOf (hubNode s) (freeBase s count * Config.pageBytes))) ∧
      PlacedPages (spend (modMailbox s who (begun tag)) 1) u (Allocated s tenant count flags format cls pub)
        ((List.range count).map (· + freeBase s count)) ∧
      t = { withRegion cls (freeBase s count) (newRegion count cls pub) u with mailbox := t.mailbox, outbox := t.outbox } := by
  obtain ⟨u, hu, hplaced⟩ := allocNow_places (s := modMailbox s who (begun tag)) (tenant := tenant) (format := format)
    (cls := cls) (pub := pub) hwf hroom
  have hstatus : allocStatus (modMailbox s who (begun tag)) tenant count (bits flags 0 2) = .ok :=
    allocStatus_room (s := modMailbox s who (begun tag)) hceiling hroom
  have hanswerable := (answerable_begun s who tag).congr
    (v := withRegion cls (freeBase s count) (newRegion count cls pub) u)
    (by rw [withRegion_only, hplaced.only]; rfl) (by rw [withRegion_only, hplaced.only]; rfl)
    (by rw [withRegion_only, hplaced.only]; rfl)
  refine ⟨u, _, exec_allocPages_answers ha htaken ?_ hanswerable, hanswerable.responds .., hplaced, rfl⟩
  rw [allocPages_fields (s := modMailbox s who (begun tag)) false hmay hlo hhi hcls, if_pos hstatus, hu]
  rfl

end Alloc

/-! ### FREE_PAGES (R315) -/

/-- Pages have left the page map with their bytes, and every other page and byte is as before. -/
structure FreedPages (s t : State) (ks : List Nat) : Prop where
  only : t = { s with
    embed := { s.embed with rowCache := t.embed.rowCache }
    store := { s.store with
      pages := t.store.pages, mem := t.store.mem, poison := t.store.poison, moves := t.store.moves }
    order := { s.order with directory := t.order.directory, regions := t.order.regions, drafts := t.order.drafts } }
  pages : ∀ k, Tbl.find t.store.pages k = if k ∈ ks then none else Tbl.find s.store.pages k
  cleared : Cleared s.store.mem t.store.mem ks

theorem FreedPages.nil {s : State} (hwf : Memory.wf s.store.mem = true) : FreedPages s s [] :=
  ⟨rfl, fun _ => by simp, .nil hwf⟩

theorem FreedPages.answerable {s u t : State} {ks : List Nat} {who : Sender} (h : FreedPages u t ks)
    (hu : Answerable s u who) : Answerable s t who :=
  hu.congr (by rw [h.only]) (by rw [h.only]) (by rw [h.only])

/-- One more page leaves before the others. -/
theorem FreedPages.cons {s t : State} {page : Nat} {ks : List Nat} (hheld : ∀ x ∈ s.store.held, x.1 ≠ page)
    (hwf : Memory.wf s.store.mem = true) (h : FreedPages (freePage s page) t ks) : FreedPages s t (page :: ks) := by
  have hfree := freePage_only hheld
  refine ⟨?_, fun k => ?_, ?_⟩
  · have honly := h.only
    rw [hfree] at honly
    exact honly
  · rw [h.pages, hfree]
    by_cases hks : k ∈ ks
    · simp [hks]
    · by_cases hk : k = page
      · subst hk
        simp [Tbl.find_del_same]
      · simp [hks, hk, Tbl.find_del_other]
  · have hcleared := h.cleared
    rw [hfree] at hcleared
    exact .cons hwf hcleared

theorem freePage_foldl {s : State} {ks : List Nat} (hheld : ∀ x ∈ s.store.held, x.1 ∉ ks)
    (hwf : Memory.wf s.store.mem = true) : FreedPages s (ks.foldl freePage s) ks := by
  induction ks generalizing s with
  | nil => exact .nil hwf
  | cons page ks ih =>
    have hpage : ∀ x ∈ s.store.held, x.1 ≠ page := fun x hx heq => hheld x hx (by simp [heq])
    have hfree := freePage_only hpage
    refine .cons hpage hwf (ih ?_ ?_)
    · rw [hfree]
      exact fun x hx hks => hheld x hx (List.mem_cons_of_mem _ hks)
    · rw [hfree]
      exact memClear_wf _ _ _ hwf

section Free

variable {s : State} {who : Sender} {tag tenant count firstSa : Nat}

theorem freePages_owned (hmay : mayActFor s who tenant = true) (hlo : 1 ≤ count) (hhi : count ≤ 512)
    (hsa : saWellFormed firstSa = true) (hnode : saNode firstSa = hubNode s)
    (halign : saOff firstSa % Config.pageBytes = 0)
    (howned : ∀ i, i < count → ∃ p, Tbl.find s.store.pages (pageOf (saOff firstSa) + i) = some p ∧ p.owner = tenant) :
    freePages s who tag tenant count firstSa =
      respond (((List.range count).map (· + pageOf (saOff firstSa))).foldl freePage s) who 0x0801 tag .ok (zeros 15) := by
  have hfields : (count == 0 || decide (512 < count)) = false := by
    simp only [Bool.or_eq_false_iff, beq_eq_false_iff_ne, decide_eq_false_iff_not]
    omega
  have hmine : (List.range count).all (fun i => ((Tbl.find s.store.pages (pageOf (saOff firstSa) + i)).map
      (fun p => p.owner == tenant)).getD false) = true := by
    rw [List.all_eq_true]
    intro i hi
    obtain ⟨p, hp, hown⟩ := howned i (List.mem_range.mp hi)
    simp [hp, hown]
  simp only [freePages, hmay, hfields, hsa, hnode, halign, hmine]
  simp only [Bool.not_true, bne_self_eq_false, Bool.or_self, Bool.false_eq_true, if_false]
  rfl

theorem exec_freePages (who : Sender) (tag tenant count firstSa : Nat) (s : State) :
    exec (.freePages who tag tenant count firstSa) s =
      act s (fun s => submit serveMessage s who tag (.free tenant count firstSa)) := rfl

theorem submit_free (h : Taken s (.freePages who tag tenant count firstSa)) :
    submit serveMessage s who tag (.free tenant count firstSa) =
      retryWaits (freePages (modMailbox s who (begun tag)) who tag tenant count firstSa) := by
  obtain ⟨_, _, _, ⟨⟩, hbusy, hcore⟩ := h
  exact submit_taken hbusy hcore

/-- The named pages of the tenant leave, where nothing waits for room or for one of them. -/
theorem exec_freePages_owned (ha : awake s = true) (htaken : Taken s (.freePages who tag tenant count firstSa))
    (hwaits : s.store.waits = []) (hwf : Memory.wf s.store.mem = true)
    (hheld : ∀ x ∈ s.store.held, x.1 ∉ (List.range count).map (· + pageOf (saOff firstSa)))
    (hmay : mayActFor s who tenant = true) (hlo : 1 ≤ count) (hhi : count ≤ 512) (hsa : saWellFormed firstSa = true)
    (hnode : saNode firstSa = hubNode s) (halign : saOff firstSa % Config.pageBytes = 0)
    (howned : ∀ i, i < count → ∃ p, Tbl.find s.store.pages (pageOf (saOff firstSa) + i) = some p ∧ p.owner = tenant) :
    ∃ u t, exec (.freePages who tag tenant count firstSa) s = .next t ∧
      Responds s t who 0x0801 tag .ok (zeros 15) ∧
      FreedPages (modMailbox s who (begun tag)) u ((List.range count).map (· + pageOf (saOff firstSa))) ∧
      t = { u with mailbox := t.mailbox, outbox := t.outbox } := by
  have hfreed := freePage_foldl (s := modMailbox s who (begun tag)) hheld hwf
  have hanswerable := hfreed.answerable (answerable_begun s who tag)
  refine ⟨_, _, ?_, hanswerable.responds 0x0801 tag .ok (zeros 15), hfreed, rfl⟩
  rw [exec_freePages]
  refine act_responds ha ?_ hanswerable
  rw [submit_free htaken, freePages_owned (s := modMailbox s who (begun tag)) hmay hlo hhi hsa hnode halign howned]
  refine retryWaits_none ?_
  rw [respond_store, hfreed.only]
  exact hwaits

end Free

/-! ### EVICTION_WAIT_EXPIRY (R313) -/

theorem exec_evictionWaitExpiry (ticket : Nat) (s : State) :
    exec (.evictionWaitExpiry ticket) s = act s (fun s => expireWait s ticket) := rfl

/-- A wait of an allocation that still finds no room ends. -/
theorem exec_evictionWaitExpiry_full {s : State} {ticket : Nat} {w : AllocWait} {who : Sender}
    {tag tenant count flags format cls pub : Nat} (ha : awake s = true)
    (hw : s.store.waits.find? (fun x => x.ticket == ticket) = some w)
    (hask : w.ask = .pages who tag tenant count flags format cls pub) (hmay : mayActFor s who tenant = true)
    (hlo : 1 ≤ count) (hhi : count ≤ 512) (hcls : cls ≤ 2)
    (hfull : allocStatus s tenant count (bits flags 0 2) = .quotaExceeded) :
    exec (.evictionWaitExpiry ticket) s = .next (respond (dropWait s w) who 0x0800 tag .quotaExceeded (zeros 15)) := by
  have hstatus : allocStatus (dropWait s w) tenant count (bits flags 0 2) = .quotaExceeded := hfull
  rw [exec_evictionWaitExpiry]
  refine act_responds ha ?_ (answerable_of_eq who rfl rfl rfl)
  simp only [expireWait, hw, hask]
  rw [allocPages_fields (s := dropWait s w) true hmay hlo hhi hcls]
  simp [hstatus]

/-- Settles O49: an allocation is refused, waits or places a run of new pages page by page; a free takes its run of pages
away; a wait that expires without room is answered. -/
theorem pageMessagesPlaceAndFreePages : Obligations.PageMessagesPlaceAndFreePages := by
  refine ⟨fun s who tag tenant count flags format cls pub ha htaken => ⟨fun hmay => ?permission, fun hmay hbad => ?format,
      fun hmay hlo hhi hcls => ⟨fun hceiling => ?ceiling, fun hceiling hroom => ?waits, fun hceiling hroom hwf => ?places⟩⟩,
    fun s who tag tenant count firstSa ha htaken hwaits hwf hheld hmay hlo hhi hsa hnode halign howned => ?frees,
    fun s ticket w who tag tenant count flags format cls pub ha hw hask hmay hlo hhi hcls hfull => ?expires⟩
  case permission =>
    exact exec_allocPages_refuses ha htaken (allocPages_permission (s := modMailbox s who (begun tag)) false hmay)
  case format =>
    exact exec_allocPages_refuses ha htaken (allocPages_format (s := modMailbox s who (begun tag)) false hmay hbad)
  case ceiling => exact exec_allocPages_pastCeiling ha htaken hmay hlo hhi hcls hceiling
  case waits =>
    exact ⟨_, exec_allocPages_waits ha htaken hmay hlo hhi hcls hceiling hroom, rfl, mailboxOf_modMailbox ..⟩
  case places =>
    obtain ⟨u, t, hexec, hresponds, hplaced, ht⟩ := exec_allocPages_places ha htaken hmay hlo hhi hcls hceiling hroom hwf
    refine ⟨t, freeBase s count, hexec, hresponds, freeBase_cases s count, ?_, fun i hi => ?_, fun k hk => ?_, fun a => ?_,
      fun k => ?_⟩
    · rw [ht, withRegion_only, hplaced.only]
      rfl
    · obtain ⟨p, hp, hnew⟩ := hplaced.fresh (freeBase s count + i) (mem_run.mpr (by omega))
      have hfind : Tbl.find t.store.pages (freeBase s count + i) = some p := by
        rw [ht, withRegion_only]
        exact hp
      obtain ⟨r, unit, hnow, rfl⟩ := hnew
      exact ⟨_, hfind, rfl, rfl, rfl, rfl, rfl, rfl, rfl, rfl, hnow, rfl⟩
    · rw [ht, withRegion_only]
      exact hplaced.others k (fun hrun => by have := mem_run.mp hrun; omega)
    · rw [ht, withRegion_only]
      simpa only [pageOf_mem_run, spend_store, modMailbox_store] using hplaced.cleared.byte a
    · rw [ht]
      refine (find_withRegion ..).trans ?_
      rw [hplaced.only]
      by_cases hpublished : cls = 2 <;> simp [newRegion, hpublished]
  case frees =>
    have hrun : ∀ x ∈ s.store.held, x.1 ∉ (List.range count).map (· + pageOf (saOff firstSa)) := fun x hx hmem => by
      have := hheld x hx
      have := mem_run.mp hmem
      omega
    obtain ⟨u, t, hexec, hresponds, hfreed, ht⟩ :=
      exec_freePages_owned ha htaken hwaits hwf hrun hmay hlo hhi hsa hnode halign howned
    have hoff : pageOf (saOff firstSa) * Config.pageBytes = saOff firstSa := Nat.div_mul_cancel (Nat.dvd_of_mod_eq_zero halign)
    refine ⟨t, hexec, hresponds, ?_, fun k => ?_, fun a => ?_⟩
    · rw [ht, hfreed.only]
      rfl
    · rw [ht]
      simpa only [mem_run, modMailbox_store] using hfreed.pages k
    · rw [ht]
      simpa only [pageOf_mem_run, Nat.add_mul, hoff, modMailbox_store] using hfreed.cleared.byte a
  case expires =>
    have hticket : w.ticket = ticket := by simpa using List.find?_some hw
    refine ⟨_, exec_evictionWaitExpiry_full ha hw hask hmay hlo hhi hcls hfull,
      (answerable_of_eq who rfl rfl rfl).responds .., rfl, fun x => ?_⟩
    simp [dropWait, hticket]

end Sys2Proof.Machine

/-! FENCE, WAIT_TALLY and the tally credits (R353, R354, R360, R362): FenceCompletesOnceItsScopeIsDone,
WaitTallyCompletesAtItsTargets, TallyCreditsCountOnce. -/

namespace Sys2Proof.Machine

open Sys2Proof

/-! ### Descriptors that end without a write -/

theorem workOf_of_openOf {s : State} {queue : Nat} {seq : Seq48} {opcode : Nat} {w : Work}
    (h : openOf s queue seq opcode = some w) : workOf s queue seq = some w := by
  obtain ⟨x, hx, hopen⟩ := Option.bind_eq_some_iff.mp h
  split at hopen
  · exact hx.trans hopen
  · exact absurd hopen (by simp)

/-- A descriptor that has ended with a status, unless one that stands higher was found before. -/
def finished (st : Status) (node result : Nat) (x : Work) : Work :=
  { x with status := worse x.status st, node := if x.status == .ok then node else x.node, result := result, phase := .done }

theorem finish_eq (s : State) (w : Work) (st : Status) (node result : Nat) :
    finish s w st node result = modWork s w.queue w.seq (finished st node result) := rfl

theorem finish_endsAs {s : State} {w : Work} (hw : workOf s w.queue w.seq = some w) (st : Status) (node result : Nat) :
    EndsAs s (finish s w st node result) w st node result := by
  have hkey (x : Work) : (finished st node result x).queue = x.queue ∧ (finished st node result x).seq = x.seq := ⟨rfl, rfl⟩
  rw [finish_eq]
  refine ⟨?_, modWork_otherWorksKept s _ _ hkey⟩
  rw [workOf_modWork_same hw hkey]
  simp only [finished, beq_iff_eq]

/-! ### FENCE (R353, R354) -/

/-- What a FENCE of a scope waits for has come: no earlier descriptor of its scope is left, and for FABRIC no message. -/
def FenceDone (s : State) (w : Work) (scope : Nat) : Prop :=
  (∀ x ∈ s.works, x.stamp < w.stamp → x.strip = false → x.queue ≠ w.queue ∧ (scope = 0 ∨ x.tenant ≠ w.tenant)) ∧
  (scope = 2 → (∀ tag ∈ w.waits, txOf s tag = none) ∧ ∀ r ∈ s.embed.relays, r.h.tenant ≠ w.tenant)

theorem fenceWaits_isEmpty_iff (s : State) (w : Work) (scope : Nat) : (fenceWaits s w scope).isEmpty = true ↔
    ∀ x ∈ s.works, x.stamp < w.stamp → x.strip = false → if scope = 0 then x.queue ≠ w.queue else x.tenant ≠ w.tenant := by
  rw [fenceWaits, List.isEmpty_iff, List.filter_eq_nil_iff]
  refine forall₂_congr fun x _ => ?_
  by_cases hscope : scope = 0 <;> simp [hscope]

theorem fenceMessages_eq_false_iff (s : State) (w : Work) : fenceMessages s w = false ↔
    (∀ tag ∈ w.waits, txOf s tag = none) ∧ ∀ r ∈ s.embed.relays, r.h.tenant ≠ w.tenant := by
  simp [fenceMessages]

theorem fenceHolds_iff (s : State) (w : Work) (scope : Nat) : fenceHolds s w scope = true ↔ FenceDone s w scope := by
  have hmessages : (scope != 2 || !fenceMessages s w) = true ↔ (scope = 2 → fenceMessages s w = false) := by
    by_cases hscope : scope = 2 <;> simp [hscope]
  rw [fenceHolds, Bool.and_eq_true, Bool.and_eq_true, fenceWaits_isEmpty_iff, fenceWaits_isEmpty_iff, hmessages,
    fenceMessages_eq_false_iff]
  refine and_congr_left fun _ => ⟨fun ⟨hscope, hqueue⟩ x hx hstamp hstrip => ⟨hqueue x hx hstamp hstrip, ?_⟩,
    fun h => ⟨fun x hx hstamp hstrip => ?_, fun x hx hstamp hstrip => (h x hx hstamp hstrip).1⟩⟩
  · have htenant := hscope x hx hstamp hstrip
    by_cases h0 : scope = 0
    · exact .inl h0
    · exact .inr (by simpa [h0] using htenant)
  · obtain ⟨hqueue, htenant⟩ := h x hx hstamp hstrip
    by_cases h0 : scope = 0
    · simpa [h0] using hqueue
    · simpa [h0] using htenant

/-- A FENCE that waits, with the most that it has found to wait on. -/
def fenceWaiting (n : Nat) (x : Work) : Work := { x with result := max x.result n, phase := .waiting }

section Fence

variable {s : State} {queue : Nat} {seq : Seq48} {w : Work} {scope : Nat}

theorem fenceNow_eq (hopen : openOf s queue seq 2 = some w) (hscope : bits w.desc.param 0 2 = scope) (hlt : scope < 3) :
    fenceNow s queue seq scope = if fenceHolds s w scope = true then finish s w .ok 0 w.result
      else modWork s queue seq (fenceWaiting (fenceWaits s w scope).length) := by
  have hknown : (scope == 3) = false := by simpa using Nat.ne_of_lt hlt
  simp only [fenceNow, hopen, hscope, hknown, bne_self_eq_false, Bool.false_eq_true, if_false]
  rfl

theorem exec_fence {c : Instr} (hc : (scope = 0 ∧ c = .fenceQueue queue seq) ∨ (scope = 1 ∧ c = .fenceHub queue seq) ∨
    (scope = 2 ∧ c = .fenceFabric queue seq)) :
    scope < 3 ∧ exec c s = act s (fun s => fenceNow s queue seq scope) := by
  obtain ⟨rfl, rfl⟩ | ⟨rfl, rfl⟩ | ⟨rfl, rfl⟩ := hc <;> exact ⟨by decide, rfl⟩

end Fence

/-- Settles O27: a FENCE ends just when what its scope waits for has come, and else goes on waiting. -/
theorem fenceCompletesOnceItsScopeIsDone : Obligations.FenceCompletesOnceItsScopeIsDone := by
  intro s queue seq w scope c ha hopen hscope hc
  obtain ⟨hlt, hexec⟩ := exec_fence (s := s) hc
  have hw := workOf_of_openOf hopen
  obtain ⟨rfl, rfl⟩ := workOf_key hw
  have heff := fenceNow_eq hopen hscope hlt
  rw [hexec]
  refine ⟨fun hdone => ?ends, fun hmore => ?waits⟩
  case ends =>
    rw [if_pos ((fenceHolds_iff s w scope).mpr hdone)] at heff
    exact ⟨_, act_of_eq ha heff rfl, rfl, finish_endsAs hw ..⟩
  case waits =>
    rw [if_neg (mt (fenceHolds_iff s w scope).mp hmore)] at heff
    exact ⟨_, act_of_eq ha heff rfl, rfl, modWork_otherWorksKept s _ _ fun _ => ⟨rfl, rfl⟩, _,
      workOf_modWork_same hw fun _ => ⟨rfl, rfl⟩⟩

/-! ### WAIT_TALLY (R362) -/

theorem exec_waitTally (queue : Nat) (seq : Seq48) (s : State) :
    exec (.waitTally queue seq) s = execWaitTally queue seq s := rfl

section WaitTally

variable {s : State} {queue : Nat} {seq : Seq48} {w : Work}

/-- The counter that a WAIT_TALLY names. -/
def tallyCounter (s : State) (w : Work) : TallyCounter := Tbl.at s.order.tally (bits w.desc.param 0 6) TallyCounter.zero

/-- BYTES and PACKETS of a counter have reached a WAIT_TALLY's targets. -/
def tallyReached (k : TallyCounter) (w : Work) : Bool :=
  reached48 k.bytes (bits w.desc.arg0 0 48) && reached32 k.packets (bits w.desc.arg1 0 32)

theorem tallyReached_iff (k : TallyCounter) (w : Work) : tallyReached k w = true ↔
    (k.bytes - BitVec.ofNat 48 (bits w.desc.arg0 0 48)).toNat < 2 ^ 47 ∧
      (k.packets - BitVec.ofNat 32 (bits w.desc.arg1 0 32)).toNat < 2 ^ 31 := by
  rw [tallyReached, Bool.and_eq_true, reached48, reached32, decide_eq_true_iff, decide_eq_true_iff]

/-- A WAIT_TALLY on a counter that is not its tenant's ends with PERMISSION. -/
theorem exec_waitTally_refused (ha : awake s = true) (hopen : openOf s queue seq 3 = some w)
    (hbad : ∀ r, Tbl.find (tallyRecvs s) (bits w.desc.param 0 6) = some r → tallyValid s r = false ∨ r.tenant ≠ w.tenant) :
    exec (.waitTally queue seq) s = .next (finish s w .permission (hubNode s) 0) := by
  rw [exec_waitTally]
  refine act_of_eq ha ?_ rfl
  simp only [hopen]
  cases hr : Tbl.find (tallyRecvs s) (bits w.desc.param 0 6) with
  | none => rfl
  | some r =>
    have hrefused : (!tallyValid s r || r.tenant != w.tenant) = true := by simpa using hbad r hr
    simp only [hrefused, if_true]

/-- A WAIT_TALLY on a counter of its tenant ends at its targets, or when its source is lost, and else waits. -/
theorem exec_waitTally_bound (ha : awake s = true) (hopen : openOf s queue seq 3 = some w) {r : TallyRecv}
    (hr : Tbl.find (tallyRecvs s) (bits w.desc.param 0 6) = some r) (hvalid : tallyValid s r = true) (htenant : r.tenant = w.tenant) :
    exec (.waitTally queue seq) s = .next (
      if tallyReached (tallyCounter s w) w = true then finish s w .ok 0 (tallyCounter s w).bytes.toNat
      else if declaredLost s r.src = true then finish s w .nodeUnreachable r.src 0
      else modWork s queue seq (fun x => { x with phase := .waiting })) := by
  rw [exec_waitTally]
  refine act_of_eq ha ?_ ?_
  · simp only [hopen, hr, hvalid, htenant, bne_self_eq_false, Bool.not_true, Bool.or_self, Bool.false_eq_true, if_false]
    rfl
  · split
    · rfl
    · split <;> rfl

end WaitTally

/-- Settles O28: of the four outcomes of a WAIT_TALLY, three end it and one leaves it waiting. -/
theorem waitTallyCompletesAtItsTargets : Obligations.WaitTallyCompletesAtItsTargets := by
  intro s queue seq w ha hopen
  have hw := workOf_of_openOf hopen
  obtain ⟨rfl, rfl⟩ := workOf_key hw
  refine ⟨fun hbad => ⟨_, exec_waitTally_refused ha hopen hbad, rfl, finish_endsAs hw ..⟩, fun r hr hvalid htenant => ?_⟩
  have hexec := exec_waitTally_bound ha hopen hr hvalid htenant
  have hiff := tallyReached_iff (tallyCounter s w) w
  refine ⟨fun hreached => ?reached, fun hnot hlost => ?lost, fun hnot hlives => ?waits⟩
  case reached =>
    rw [if_pos (hiff.mpr hreached)] at hexec
    exact ⟨_, hexec, rfl, finish_endsAs hw ..⟩
  case lost =>
    rw [if_neg (mt hiff.mp hnot), if_pos hlost] at hexec
    exact ⟨_, hexec, rfl, finish_endsAs hw ..⟩
  case waits =>
    rw [if_neg (mt hiff.mp hnot), if_neg (by simp [hlives])] at hexec
    exact ⟨_, hexec, rfl, modWork_otherWorksKept s _ _ fun _ => ⟨rfl, rfl⟩, workOf_modWork_same hw fun _ => ⟨rfl, rfl⟩⟩

/-! ### Tally credits (R360, R353) -/

theorem txOf_closeTx_other (s : State) {tag k : Nat} (h : k ≠ tag) : txOf (closeTx s tag) k = txOf s k := by
  simp only [txOf, closeTx_fabric, List.find?_filter]
  refine congrArg (fun p => List.find? p s.fabric.outstanding) (funext fun o => ?_)
  by_cases ho : o.tag = k
  · simp [ho, h]
  · simp [ho]

theorem creditCounter_eq (c : TallyCounter) (seq : Seq48) (bytes packets : Nat) : creditCounter c seq bytes packets =
    if c.seen = false ∨ Seq48.before c.lastSeq seq = true then
      { bytes := c.bytes + BitVec.ofNat 48 bytes, packets := c.packets + BitVec.ofNat 32 packets, lastSeq := seq, seen := true }
    else c := by
  simp only [creditCounter, Bool.or_eq_true, Bool.not_eq_true']

/-- A descriptor whose credit has gone out owes none. -/
def credited (x : Work) : Work := { x with tallyBytes := 0, tallyPkts := 0 }

/-- The hub with a credit's transaction open, the credit itself not yet sent. -/
def creditSent (s : State) (queue : Nat) (seq : Seq48) (w : Work) (ch dest : Nat) : State :=
  openTx (modWork s queue seq credited) dest (.credit queue seq) w.tenant ch 0

theorem exec_tallyCreditSend (queue : Nat) (seq : Seq48) (s : State) :
    exec (.tallyCreditSend queue seq) s = execTallyCreditSend queue seq s := rfl

/-- TALLY_CREDIT_SEND of a descriptor whose credit is due. -/
theorem exec_tallyCreditSend_due {s : State} {queue : Nat} {seq : Seq48} {w : Work} {ch : Nat} {b : TallySend}
    (ha : awake s = true) (hw : workOf s queue seq = some w) (hdone : w.phase = .done) (howes : owesCredit w = true)
    (hopen : tallyOpen s queue seq = false)
    (hfirst : ∀ x ∈ s.works, x.queue = queue → Seq48.before x.seq seq = true → owesCredit x = false)
    (hbind : (tallySends s).find? (fun e => e.2.queue == queue) = some (ch, b)) :
    ∃ u, exec (.tallyCreditSend queue seq) s = .next u ∧
      u = { creditSent s queue seq w ch b.dest with
        outbox := s.outbox ++ [.tallyCredit b.dest ch s.fabric.nextTag seq w.tallyBytes w.tallyPkts]
        fabric := { (creditSent s queue seq w ch b.dest).fabric with ports := u.fabric.ports } } := by
  have hearlier : s.works.any (fun x => x.queue == queue && Seq48.before x.seq seq && owesCredit x) = false := by
    simpa using hfirst
  have hdue : (!owesCredit w || w.phase != .done || tallyOpen s queue seq ||
      s.works.any (fun x => x.queue == queue && Seq48.before x.seq seq && owesCredit x)) = false := by
    simp [howes, hdone, hopen, hearlier]
  have hsends (f : Work → Work) : tallySends (modWork s queue seq f) = tallySends s := rfl
  rw [exec_tallyCreditSend]
  refine act_emit (t := creditSent s queue seq w ch b.dest) ha ?_
  simp only [hw, hdue, hsends, hbind, Bool.false_eq_true, if_false]
  rfl

theorem exec_tallyCredit (src channel tag : Nat) (seq : Seq48) (bytes packets : Nat) (s : State) :
    exec (.tallyCredit src channel tag seq bytes packets) s = execTallyCredit src channel tag seq bytes packets s := rfl

/-- TALLY_CREDIT at its counter: the counter takes the credit, which is acknowledged. -/
theorem exec_tallyCredit_bound {s : State} {src channel : Nat} {id : Nat} {r : TallyRecv} (ha : awake s = true)
    (hbind : (tallyRecvs s).find? (fun e => e.2.src == src && e.2.channel == channel && tallyValid s e.2) = some (id, r))
    (tag : Nat) (seq : Seq48) (bytes packets : Nat) :
    ∃ u, exec (.tallyCredit src channel tag seq bytes packets) s = .next u ∧
      u = { s with
        outbox := s.outbox ++ [.creditAck src tag]
        order := { s.order with
          tally := Tbl.change s.order.tally id TallyCounter.zero (fun c => creditCounter c seq bytes packets) }
        fabric := { s.fabric with ports := u.fabric.ports } } := by
  rw [exec_tallyCredit]
  refine act_emit (t := { s with order := { s.order with
    tally := Tbl.change s.order.tally id TallyCounter.zero (fun c => creditCounter c seq bytes packets) } }) ha ?_
  simp only [hbind]

theorem exec_tallyCredit_unbound {s : State} {src channel : Nat} (ha : awake s = true)
    (hbind : (tallyRecvs s).find? (fun e => e.2.src == src && e.2.channel == channel && tallyValid s e.2) = none)
    (tag : Nat) (seq : Seq48) (bytes packets : Nat) :
    ∃ u, exec (.tallyCredit src channel tag seq bytes packets) s = .next u ∧ Sends s u [.creditAck src tag] := by
  rw [exec_tallyCredit]
  exact act_sends ha (by simp only [hbind])

theorem exec_creditAck (src tag : Nat) (s : State) : exec (.creditAck src tag) s = execCreditAck src tag s := rfl

theorem exec_creditAck_credit {s : State} {tag : Nat} {o : Outstanding} {q : Nat} {n : Seq48} (ha : awake s = true)
    (ho : txOf s tag = some o) (hawait : o.await = .credit q n) :
    exec (.creditAck o.node tag) s = .next (closeTx s tag) := by
  rw [exec_creditAck]
  exact act_of_eq ha (by simp only [ho, hawait, beq_self_eq_true, if_true]) rfl

/-- Settles O32: a credit goes out once it is due, is counted once by its SEQ, and is closed by its acknowledgement. -/
theorem tallyCreditsCountOnce : Obligations.TallyCreditsCountOnce := by
  refine ⟨fun s queue seq w ch b ha hw hdone howes hopen hfirst hbind => ?sends,
    fun s src channel tag seq bytes packets id r ha hbind => ?counts,
    fun s src channel tag seq bytes packets ha hbind => exec_tallyCredit_unbound ha hbind tag seq bytes packets,
    fun s src tag o q n ha ho hawait hnode => ?closes⟩
  case sends =>
    obtain ⟨u, hu, honly⟩ := exec_tallyCreditSend_due ha hw hdone howes hopen hfirst hbind
    refine ⟨u, hu, ?_⟩
    rw [honly]
    exact ⟨rfl, workOf_modWork_same (f := credited) hw fun _ => ⟨rfl, rfl⟩,
      modWork_otherWorksKept s queue seq (f := credited) fun _ => ⟨rfl, rfl⟩, rfl⟩
  case counts =>
    obtain ⟨u, hu, honly⟩ := exec_tallyCredit_bound ha hbind tag seq bytes packets
    refine ⟨u, hu, ?_⟩
    rw [honly]
    exact ⟨rfl, fun c hc => Tbl.at_change_other _ _ _ hc, (Tbl.at_change_same ..).trans (creditCounter_eq ..), rfl⟩
  case closes =>
    obtain rfl := hnode
    exact ⟨_, exec_creditAck_credit ha ho hawait, txOf_closeTx_same s tag, fun k hk => txOf_closeTx_other s hk, rfl⟩

end Sys2Proof.Machine

/-! GLAZE and the version messages (R384 to R389): PublishFixesItsOutcome, GlazeDiscardsRefreshesAndLearns,
VersionMessagesAndLeases. -/

namespace Sys2Proof.Machine

open Sys2Proof

/-! ### Drafts (R382, R389) -/

/-- A draft of a tenant and a writer node in a region. -/
def DraftKey (region tenant writer : Nat) (d : Draft) : Prop := d.region = region ∧ d.tenant = tenant ∧ d.writer = writer

theorem draftKey_iff (region tenant writer : Nat) (d : Draft) :
    (d.region == region && d.tenant == tenant && d.writer == writer) = true ↔ DraftKey region tenant writer d := by
  simp [DraftKey, and_assoc]

theorem renewDraft_drafts (s : State) (region tenant writer : Nat) : (renewDraft s region tenant writer).order.drafts =
    s.order.drafts.map (fun d =>
      if d.region = region ∧ d.tenant = tenant ∧ d.writer = writer then { d with renewed := s.now } else d) := by
  simp only [renewDraft, draftKey_iff, DraftKey]

theorem draftOf_renewDraft (s : State) (region tenant writer : Nat) :
    draftOf (renewDraft s region tenant writer) region tenant writer =
      (draftOf s region tenant writer).map (fun d => { d with renewed := s.now }) := by
  rw [draftOf, renewDraft_drafts, List.find?_map]
  unfold draftOf
  have hkey : (fun d : Draft => d.region == region && d.tenant == tenant && d.writer == writer) ∘ (fun d =>
      if d.region = region ∧ d.tenant = tenant ∧ d.writer = writer then { d with renewed := s.now } else d) =
      fun d => d.region == region && d.tenant == tenant && d.writer == writer := by
    funext d
    by_cases h : d.region = region ∧ d.tenant = tenant ∧ d.writer = writer <;> simp [h]
  rw [hkey]
  cases hd : s.order.drafts.find? (fun d => d.region == region && d.tenant == tenant && d.writer == writer) with
  | none => rfl
  | some d =>
    have hhit := List.find?_some hd
    exact congrArg some (if_pos ((draftKey_iff region tenant writer d).mp hhit))

theorem mem_dropDrafts {s : State} {region tenant writer : Nat} {d : Draft} :
    d ∈ (dropDrafts s (fun d => d.region == region && d.tenant == tenant && d.writer == writer)).order.drafts ↔
      d ∈ s.order.drafts ∧ ¬ (d.region = region ∧ d.tenant = tenant ∧ d.writer = writer) := by
  rw [dropDrafts, List.mem_filter, Bool.not_eq_true', ← Bool.not_eq_true, draftKey_iff, DraftKey]

/-! ### PUBLISH (R385, R386) -/

section Publish

variable {s : State} {queue : Nat} {seq : Seq48} {w : Work} {r : Nat} {x : PubRegion}

theorem exec_glazePublish (queue : Nat) (seq : Seq48) (s : State) :
    exec (.glazePublish queue seq) s = execGlazePublish queue seq s := rfl

/-- What stands before every PUBLISH that fixes its outcome: its region is here, with no flip to come, and its gate is open. -/
structure Publishes (s : State) (queue : Nat) (seq : Seq48) (w : Work) (r : Nat) (x : PubRegion) : Prop where
  opened : openOf s queue seq 4 = some w
  mode : glazeMode w.desc = 0
  region : namedRegion s w.tenant w.desc.ptr0 = some (r, x)
  flips : flipPending s r = false
  gate : gateOpen s w = true

/-- The hub with the lease of the PUBLISH's draft renewed. -/
def publishRenewed (s : State) (w : Work) (r : Nat) : State := renewDraft s r w.tenant (glazeWriter w.desc)

theorem Publishes.exec_empty (h : Publishes s queue seq w r x) (ha : awake s = true)
    (hempty : ∀ d, draftOf s r w.tenant (glazeWriter w.desc) = some d → d.granules = []) :
    exec (.glazePublish queue seq) s = .next (finish (publishRenewed s w r) w .ok 0 x.version) := by
  rw [exec_glazePublish]
  refine act_of_eq ha ?_ rfl
  simp only [h.opened, h.mode, h.region, h.flips, h.gate, draftOf_renewDraft, bne_self_eq_false, Bool.not_true, Bool.or_self,
    Bool.false_eq_true, if_false]
  cases hd : draftOf s r w.tenant (glazeWriter w.desc) with
  | none => rfl
  | some d => simp only [Option.map_some, hempty d hd, List.isEmpty_nil, if_true]; rfl

section Draft

variable {d : Draft}

theorem Publishes.exec_conflict (h : Publishes s queue seq w r x) (ha : awake s = true)
    (hd : draftOf s r w.tenant (glazeWriter w.desc) = some d) (hne : d.granules ≠ []) (hlast : x.lastWins = false)
    (harg : w.desc.arg0 ≠ x.version) :
    exec (.glazePublish queue seq) s = .next (finish (publishRenewed s w r) w .conflict 0 x.version) := by
  rw [exec_glazePublish]
  refine act_of_eq ha ?_ rfl
  have hfull : d.granules.isEmpty = false := by simpa using hne
  have hother : (!x.lastWins && w.desc.arg0 != x.version) = true := by simpa [hlast] using harg
  simp only [h.opened, h.mode, h.region, h.flips, h.gate, draftOf_renewDraft, hd, Option.map_some, hfull, hother,
    bne_self_eq_false, Bool.not_true, Bool.or_self, Bool.false_eq_true, if_false, if_true]
  rfl

theorem Publishes.exec_flips (h : Publishes s queue seq w r x) (ha : awake s = true)
    (hd : draftOf s r w.tenant (glazeWriter w.desc) = some d) (hne : d.granules ≠ [])
    (hwins : x.lastWins = true ∨ w.desc.arg0 = x.version) :
    exec (.glazePublish queue seq) s = .next (modWork (finish (publishRenewed s w r) w .ok 0 (x.version + 1)) queue seq
      (fun y => { y with follow := [.flip r w.tenant (glazeWriter w.desc) (x.version + 1)] })) := by
  rw [exec_glazePublish]
  refine act_of_eq ha ?_ rfl
  have hfull : d.granules.isEmpty = false := by simpa using hne
  have hsame : (!x.lastWins && w.desc.arg0 != x.version) = false := by
    obtain hl | hv := hwins
    · simp [hl]
    · simp [hv]
  simp only [h.opened, h.mode, h.region, h.flips, h.gate, draftOf_renewDraft, hd, Option.map_some, hfull, hsame,
    bne_self_eq_false, Bool.not_true, Bool.or_self, Bool.false_eq_true, if_false]
  rfl

end Draft

end Publish

/-- Settles O29: the draft's lease is renewed, and what the draft holds fixes how the PUBLISH ends; its flip follows it. -/
theorem publishFixesItsOutcome : Obligations.PublishFixesItsOutcome := by
  intro s queue seq w r x ha hopen hmode hregion hflips hgate
  have h : Publishes s queue seq w r x := ⟨hopen, hmode, hregion, hflips, hgate⟩
  have hw := workOf_of_openOf hopen
  obtain ⟨rfl, rfl⟩ := workOf_key hw
  have hrenewed := renewDraft_drafts s r w.tenant (glazeWriter w.desc)
  have hends := finish_endsAs (s := publishRenewed s w r) (w := w) hw
  refine ⟨fun hempty => ⟨_, h.exec_empty ha hempty, ⟨rfl, hrenewed⟩, hends ..⟩,
    fun d hd hne => ⟨fun hlast harg => ⟨_, h.exec_conflict ha hd hne hlast harg, ⟨rfl, hrenewed⟩, hends ..⟩,
      fun hwins => ⟨_, h.exec_flips ha hd hne hwins, ⟨rfl, hrenewed⟩, ?_⟩⟩⟩
  obtain ⟨hwork, hothers⟩ := hends .ok 0 (x.version + 1)
  exact ⟨workOf_modWork_same hwork fun _ => ⟨rfl, rfl⟩, hothers.trans (modWork_otherWorksKept _ _ _ fun _ => ⟨rfl, rfl⟩)⟩

/-! ### DISCARD (R385) -/

theorem exec_glazeDiscard (queue : Nat) (seq : Seq48) (s : State) :
    exec (.glazeDiscard queue seq) s = execGlazeDiscard queue seq s := rfl

theorem exec_glazeDiscard_drops {s : State} {queue : Nat} {seq : Seq48} {w : Work} {r : Nat} {x : PubRegion}
    (ha : awake s = true) (hopen : openOf s queue seq 4 = some w) (hmode : glazeMode w.desc = 1)
    (hregion : namedRegion s w.tenant w.desc.ptr0 = some (r, x)) (hgate : gateOpen s w = true) :
    exec (.glazeDiscard queue seq) s = .next (finish (dropDrafts s (fun d =>
      d.region == r && d.tenant == w.tenant && d.writer == glazeWriter w.desc)) w .ok 0 x.version) := by
  rw [exec_glazeDiscard]
  refine act_of_eq ha ?_ rfl
  simp only [hopen, hmode, hregion, hgate, bne_self_eq_false, Bool.not_true, Bool.false_eq_true, if_false]

/-! ### REFRESH and VERSION (R385, R389) -/

/-- The hub with other cached sectors. -/
def withSectors (sectors : List PubSector) (s : State) : State := { s with order := { s.order with sectors := sectors } }

/-- What REFRESH leaves of the cached sectors, and VERSION leaves all of: those before its region, or of another node. -/
def KeptSectors (s : State) (d : Descriptor) (sectors : List PubSector) : Prop := ∀ p, p ∈ sectors ↔ p ∈ s.order.sectors ∧
  (glazeMode d = 2 → ¬ (p.node = saNode d.ptr0 ∧ saOff d.ptr0 ≤ 128 * p.sector))

/-- The sectors that `dropRegion` keeps. -/
def sectorsOff (s : State) (sa : Nat) : List PubSector :=
  s.order.sectors.filter (fun p => !(p.node == saNode sa && decide (saOff sa ≤ 128 * p.sector)))

theorem dropRegion_eq (s : State) (sa : Nat) : dropRegion s sa = withSectors (sectorsOff s sa) s := rfl

theorem keptSectors_refresh {s : State} {d : Descriptor} (hmode : glazeMode d = 2) :
    KeptSectors s d (sectorsOff s d.ptr0) := by
  intro p
  rw [sectorsOff, List.mem_filter, Bool.not_eq_true', ← Bool.not_eq_true, Bool.and_eq_true, beq_iff_eq, decide_eq_true_iff]
  exact and_congr_right fun _ => ⟨fun h _ => h, fun h => h hmode⟩

theorem keptSectors_version {s : State} {d : Descriptor} (hmode : glazeMode d = 3) : KeptSectors s d s.order.sectors :=
  fun _ => (and_iff_left fun h => absurd (hmode.symm.trans h) (by decide)).symm

/-- REFRESH and VERSION learn the version of their region, with the sectors cached that they keep. -/
theorem exec_glazeLearns {s : State} {queue : Nat} {seq : Seq48} {w : Work} {c : Instr} (hopen : openOf s queue seq 4 = some w)
    (hready : w.phase = .ready) (hgate : gateOpen s w = true)
    (hc : (glazeMode w.desc = 2 ∧ c = .glazeRefresh queue seq) ∨ (glazeMode w.desc = 3 ∧ c = .glazeVersion queue seq)) :
    ∃ sectors, KeptSectors s w.desc sectors ∧ ∃ f, exec c s = act s f ∧ f s = learnVersion (withSectors sectors s) w := by
  obtain ⟨hmode, rfl⟩ | ⟨hmode, rfl⟩ := hc
  · refine ⟨_, keptSectors_refresh hmode, _, (rfl : execGlazeRefresh queue seq s = act s _), ?_⟩
    simp only [hopen, hmode, hready, hgate, beq_self_eq_true, Bool.and_self, if_true, dropRegion_eq]
  · refine ⟨_, keptSectors_version hmode, _, (rfl : execGlazeVersion queue seq s = act s _), ?_⟩
    simp only [hopen, hmode, hready, hgate, beq_self_eq_true, Bool.and_self, if_true]
    rfl

theorem learnVersion_home {s : State} {w : Work} {r : Nat} {x : PubRegion} (hnode : saNode w.desc.ptr0 = hubNode s)
    (hregion : namedRegion s w.tenant w.desc.ptr0 = some (r, x)) :
    learnVersion s w = finish (renewDraft s r w.tenant (hubNode s)) w .ok 0 x.version := by
  simp only [learnVersion, hnode, beq_self_eq_true, if_true, hregion]

/-- A GLAZE that has asked another hub for the version of its region. -/
def versionAsked (s : State) (w : Work) : State :=
  modWork (openTx s (saNode w.desc.ptr0) (.version w.queue w.seq) w.tenant w.desc.ptr0 0) w.queue w.seq
    (fun x => { x with phase := .waiting })

theorem learnVersion_far {s : State} {w : Work} (hnode : saNode w.desc.ptr0 ≠ hubNode s)
    (hwf : saWellFormed w.desc.ptr0 = true) (hhub : (domainHubs s).contains (saNode w.desc.ptr0) = true)
    (hreach : reachable s (saNode w.desc.ptr0) = true) :
    learnVersion s w = emit (versionAsked s w)
      (.version (saNode w.desc.ptr0) 0x45 s.fabric.nextTag (saOff w.desc.ptr0) .ok w.tenant) := by
  have haway : (saNode w.desc.ptr0 == hubNode s) = false := by simpa using hnode
  simp only [learnVersion, haway, hwf, hhub, hreach, Bool.not_true, Bool.or_self, Bool.false_eq_true, if_false]
  rfl

/-- Settles O30: DISCARD drops the drafts of its key; REFRESH and VERSION differ only in the sectors they keep. -/
theorem glazeDiscardsRefreshesAndLearns : Obligations.GlazeDiscardsRefreshesAndLearns := by
  refine ⟨fun s queue seq w r x ha hopen hmode hregion hgate => ?discard,
    fun s queue seq w c ha hopen hready hgate hc => ⟨fun r x hnode hregion => ?home, fun hnode hwf hhub hreach => ?far⟩⟩
  case discard =>
    have hw := workOf_of_openOf hopen
    obtain ⟨rfl, rfl⟩ := workOf_key hw
    exact ⟨_, exec_glazeDiscard_drops ha hopen hmode hregion hgate, rfl, fun d => mem_dropDrafts, finish_endsAs hw ..⟩
  all_goals
    have hw := workOf_of_openOf hopen
    obtain ⟨rfl, rfl⟩ := workOf_key hw
    obtain ⟨sectors, hkept, f, hexec, heff⟩ := exec_glazeLearns hopen hready hgate hc
    rw [hexec]
  case home =>
    have hlearn := learnVersion_home (s := withSectors sectors s) hnode hregion
    exact ⟨_, act_of_eq ha (heff.trans hlearn) rfl, hkept, finish_endsAs (s := withSectors sectors s) hw .., rfl⟩
  case far =>
    have hlearn := learnVersion_far (s := withSectors sectors s) hnode hwf hhub hreach
    obtain ⟨t, ht, honly⟩ := act_emit ha (heff.trans hlearn)
    refine ⟨t, ht, ?_⟩
    rw [honly]
    exact ⟨hkept, modWork_otherWorksKept s _ _ fun _ => ⟨rfl, rfl⟩, workOf_modWork_same hw fun _ => ⟨rfl, rfl⟩, rfl,
      ⟨_, List.mem_append_right _ (List.mem_singleton.mpr rfl), rfl, rfl, rfl⟩, rfl⟩

/-! ### Version messages -/

theorem exec_versionReq (m : MsgHeader) (s : State) : exec (.versionReq m) s = execVersionReq m s := rfl

theorem exec_versionRsp (m : MsgHeader) (status : Status) (version : Nat) (s : State) :
    exec (.versionRsp m status version) s = execVersionRsp m status version s := rfl

theorem exec_versionReq_refused {s : State} {m : MsgHeader} (ha : awake s = true)
    (hno : isMember s m.src = false ∨ namedRegion s m.tenant (saOf (hubNode s) m.offset) = none) :
    ∃ t, exec (.versionReq m) s = .next t ∧ Sends s t [.version m.src 0x27 m.tag m.offset .permission 0] := by
  have hnone : (if isMember s m.src then namedRegion s m.tenant (saOf (hubNode s) m.offset) else none) = none := by
    obtain h | h := hno <;> simp [h]
  rw [exec_versionReq]
  refine act_sends ha ?_
  simp only [hnone]
  rfl

theorem exec_versionReq_answers {s : State} {m : MsgHeader} {r : Nat} {x : PubRegion} (ha : awake s = true)
    (hm : isMember s m.src = true) (hregion : namedRegion s m.tenant (saOf (hubNode s) m.offset) = some (r, x)) :
    ∃ t, exec (.versionReq m) s = .next t ∧ t = { renewDraft s r m.tenant m.src with
      outbox := s.outbox ++ [.version m.src 0x27 m.tag m.offset .ok x.version]
      fabric := { s.fabric with ports := t.fabric.ports } } := by
  rw [exec_versionReq]
  refine act_emit (t := renewDraft s r m.tenant m.src) ha ?_
  simp only [hm, hregion, if_true]
  rfl

/-- The hub after an answer to a VERSION_REQ: it remembers the version that the answer brings. -/
def versionLearned (s : State) (o : Outstanding) (status : Status) (version : Nat) : State :=
  if status == .ok then learned s o.addr version else s

theorem versionLearned_only (s : State) (o : Outstanding) (status : Status) (version : Nat) :
    versionLearned s o status version =
      { s with order := { s.order with learned := (versionLearned s o status version).order.learned } } := by
  unfold versionLearned
  split <;> rfl

theorem exec_versionRsp_asked {s : State} {m : MsgHeader} {o : Outstanding} {q : Nat} {n : Seq48} {w : Work}
    (ha : awake s = true) (ho : txOf s m.tag = some o) (hawait : o.await = .version q n) (hnode : o.node = m.src)
    (hw : workOf s q n = some w) (status : Status) (version : Nat) :
    exec (.versionRsp m status version) s =
      .next (finish (versionLearned (closeTx s m.tag) o status version) w status m.src version) := by
  have honly := versionLearned_only (closeTx s m.tag) o status version
  have hwork : workOf (versionLearned (closeTx s m.tag) o status version) q n = some w := by
    rw [honly]
    exact hw
  rw [exec_versionRsp]
  refine act_of_eq ha ?_ (by rw [honly]; rfl)
  unfold versionLearned at hwork ⊢
  simp only [ho, hawait, hnode, bne_self_eq_false, Bool.false_eq_true, if_false, hwork]

/-- The sectors that a VERSION_NOTICE of a region leaves: those of its version or a newer one, and of other regions (R387). -/
def sectorsFrom (s : State) (m : MsgHeader) (version : Nat) : List PubSector :=
  s.order.sectors.filter (fun p => !(p.node == m.src && p.region == m.offset && decide (p.version < version)))

theorem mem_sectorsFrom {s : State} {m : MsgHeader} {version : Nat} {p : PubSector} : p ∈ sectorsFrom s m version ↔
    p ∈ s.order.sectors ∧ ¬ (p.node = m.src ∧ p.region = m.offset ∧ p.version < version) := by
  rw [sectorsFrom, List.mem_filter, Bool.not_eq_true', ← Bool.not_eq_true, Bool.and_eq_true, Bool.and_eq_true, beq_iff_eq,
    beq_iff_eq, decide_eq_true_iff, and_assoc]

theorem exec_versionNotice_drops {s : State} (ha : awake s = true) (m : MsgHeader) (version : Nat) :
    exec (.versionNotice m version) s =
      .next (learned (withSectors (sectorsFrom s m version) s) (saOf m.src m.offset) version) :=
  (act_of_eq ha rfl rfl : execVersionNotice m version s = _)

theorem exec_draftLeaseExpiry_drops {s : State} (ha : awake s = true) (region tenant writer : Nat) :
    exec (.draftLeaseExpiry region tenant writer) s = .next (dropDrafts s (fun d =>
      d.region == region && d.tenant == tenant && d.writer == writer)) :=
  (act_of_eq ha rfl rfl : execDraftLeaseExpiry region tenant writer s = _)

/-- Settles O31: the home answers from its regions; an answer ends what asked, a notice drops sectors, an expiry a draft. -/
theorem versionMessagesAndLeases : Obligations.VersionMessagesAndLeases := by
  refine ⟨fun s m ha => ⟨exec_versionReq_refused ha, fun r x hm hregion => ?request⟩,
    fun s m status version o q n w ha ho hawait hnode hw => ?answer,
    fun s m version ha => ⟨_, exec_versionNotice_drops ha m version, rfl, Tbl.find_put_same .., fun p => mem_sectorsFrom⟩,
    fun s region tenant writer ha => ⟨_, exec_draftLeaseExpiry_drops ha region tenant writer, rfl, fun d => mem_dropDrafts⟩⟩
  case request =>
    obtain ⟨t, ht, honly⟩ := exec_versionReq_answers ha hm hregion
    refine ⟨t, ht, ?_⟩
    rw [honly]
    exact ⟨rfl, rfl⟩
  case answer =>
    obtain ⟨rfl, rfl⟩ := workOf_key hw
    have hexec := exec_versionRsp_asked ha ho hawait hnode hw status version
    rw [versionLearned_only] at hexec
    exact ⟨_, hexec, finish_endsAs hw .., txOf_closeTx_same s m.tag, rfl⟩

end Sys2Proof.Machine

/-! Held lines at a member (R374 to R378): HeldMessagesAtAMember. -/

namespace Sys2Proof.Machine

open Sys2Proof

/-! ### Commands that send several messages -/

/-- What a command does that ends with messages: its effect, the messages in order, and their flits. -/
theorem act_emitAll {s t : State} {f : State → State} {os : List Out} (ha : awake s = true) (hf : f s = emitAll t os) :
    ∃ u, act s f = .next u ∧
      u = { t with outbox := t.outbox ++ os, fabric := { t.fabric with ports := u.fabric.ports } } := by
  obtain ⟨ports, h⟩ := act_ports s f ha
  refine ⟨_, h, ?_⟩
  rw [hf]
  rfl

theorem emit_emitAll (s : State) (os : List Out) (o : Out) : emit (emitAll s os) o = emitAll s (os ++ [o]) := by
  simp [emit, emitAll]

/-! ### The copies that a member holds (R153, R375) -/

section Copies

variable {s : State} {home line : Nat} {c : HeldCopy}

theorem heldCopy_key (h : heldCopy s home line = some c) : c.node = home ∧ c.line = line := by
  simpa using List.find?_some h

theorem heldCopy_dropCopy (s : State) (home line : Nat) : heldCopy (dropCopy s home line) home line = none := by
  rw [heldCopy, List.find?_eq_none]
  intro c hc
  have hkept := (List.mem_filter.mp hc).2
  rwa [Bool.not_eq_true', ← Bool.not_eq_true] at hkept

theorem heldCopy_setCopy (h : heldCopy s home line = some c) (state : LineState) :
    heldCopy (setCopy s home line state) home line = some { c with state := state } := by
  have hkey : (fun c : HeldCopy => c.node == home && c.line == line) ∘ (fun c : HeldCopy =>
      if c.node == home && c.line == line then { c with state := state } else c) =
      fun c => c.node == home && c.line == line := by
    funext c
    rw [Function.comp_apply]
    split <;> rfl
  have hhit := List.find?_some h
  unfold heldCopy at h ⊢
  rw [setCopy, List.find?_map, hkey, h]
  exact congrArg some (if_pos hhit)

/-- A far cache with room takes the copy in, in the place of an older one. -/
theorem addCopy_room (hroom : s.order.copies.length < 524288) (c : HeldCopy) : addCopy s c =
    { s with order := { s.order with copies := (dropCopy s c.node c.line).order.copies ++ [c] } } := by
  have hfar : s.order.copies.length < farLines := hroom
  simp only [addCopy, hfar, if_true]
  rfl

theorem heldCopy_addCopy (hroom : s.order.copies.length < 524288) (c : HeldCopy) :
    heldCopy (addCopy s c) c.node c.line = some c := by
  have hnone := heldCopy_dropCopy s c.node c.line
  rw [addCopy_room hroom]
  unfold heldCopy at hnone ⊢
  rw [List.find?_append, hnone]
  simp

end Copies

/-! ### Forwards, invalidations and recalls at a member (R374 to R376) -/

section Forwards

variable {s : State} {m : MsgHeader} {c : HeldCopy}

theorem exec_fwdShared (m : MsgHeader) (requester : Nat) (s : State) :
    exec (.fwdShared m requester) s = execFwdShared m requester s := rfl

theorem exec_fwdOwn (m : MsgHeader) (requester : Nat) (s : State) :
    exec (.fwdOwn m requester) s = execFwdOwn m requester s := rfl

/-- The state of a copy whose data a FWD_SHARED has sent on. -/
def sharedOn (c : HeldCopy) : LineState := if dirtyCopy c then .owned else .shared

theorem exec_fwdShared_held (ha : awake s = true) (hc : heldCopy s m.src (m.offset / 128) = some c) (requester : Nat) :
    ∃ u, exec (.fwdShared m requester) s = .next u ∧ u = { setCopy s m.src (m.offset / 128) (sharedOn c) with
      outbox := s.outbox ++ [.line requester 0x23 0 m.tag (m.offset / 128 * 128) 1 .ok c.data]
      fabric := { s.fabric with ports := u.fabric.ports } } := by
  obtain ⟨hnode, hline⟩ := heldCopy_key hc
  rw [exec_fwdShared]
  refine act_emit (t := setCopy s m.src (m.offset / 128) (sharedOn c)) ha ?_
  simp only [msgLine, hc, hnode, hline]
  rfl

theorem exec_fwdOwn_held (ha : awake s = true) (hc : heldCopy s m.src (m.offset / 128) = some c) (requester : Nat) :
    ∃ u, exec (.fwdOwn m requester) s = .next u ∧ u = { dropCopy s m.src (m.offset / 128) with
      outbox := s.outbox ++ [.line requester 0x23 0 m.tag (m.offset / 128 * 128) 3 .ok c.data,
        .line m.src 0x26 0 m.tag (m.offset / 128 * 128) 0 .ok []]
      fabric := { s.fabric with ports := u.fabric.ports } } := by
  obtain ⟨hnode, hline⟩ := heldCopy_key hc
  rw [exec_fwdOwn]
  refine act_emitAll (t := dropCopy s m.src (m.offset / 128)) ha ?_
  simp only [msgLine, hc, hnode, hline]
  exact emit_emitAll _ [_] _

theorem exec_invalidates (ha : awake s = true) (hc : heldCopy s m.src (m.offset / 128) = some c) {i : Instr}
    (hi : i = .inv m ∨ i = .recall m) : ∃ u, exec i s = .next u ∧ u = { dropCopy s m.src (m.offset / 128) with
      outbox := s.outbox ++ [.line m.src 0x26 0 m.tag (m.offset / 128 * 128) 0 .ok (if dirtyCopy c then c.data else [])]
      fabric := { s.fabric with ports := u.fabric.ports } } := by
  have hexec : exec i s = act s (fun s => invalidate s m) := by obtain rfl | rfl := hi <;> rfl
  rw [hexec]
  refine act_emit (t := dropCopy s m.src (m.offset / 128)) ha ?_
  simp only [invalidate, msgLine, hc]
  rfl

end Forwards

/-! ### What a member has asked for (R376 to R378) -/

section Misses

variable {s : State} {m : MsgHeader} {x : LineMiss}

theorem missOf_line {line : Nat} (h : missOf s line = some x) : x.line = line := by
  simpa using List.find?_some h

theorem mem_dropMiss {y : LineMiss} :
    y ∈ (dropMiss s x).order.misses ↔ y ∈ s.order.misses ∧ ¬ (y.node = x.node ∧ y.line = x.line) := by
  rw [dropMiss, List.mem_filter, Bool.not_eq_true', ← Bool.not_eq_true, Bool.and_eq_true, beq_iff_eq, beq_iff_eq]

/-- The hub with a request of a home's line given the ticket of its NACK. -/
def ticketed (s : State) (home line ticket : Nat) : State :=
  { s with order := { s.order with misses := s.order.misses.map (fun y =>
      if y.node == home && y.line == line then { y with ticket := some ticket } else y) } }

theorem missOf_ticketed {line : Nat} (h : missOf s line = some x) (ticket : Nat) :
    missOf (ticketed s x.node line ticket) line = some { x with ticket := some ticket } := by
  have hline : (fun y : LineMiss => y.line == line) ∘ (fun y : LineMiss =>
      if y.node == x.node && y.line == line then { y with ticket := some ticket } else y) = fun y => y.line == line := by
    funext y
    rw [Function.comp_apply]
    split <;> rfl
  have hhit : (x.node == x.node && x.line == line) = true := by simp [missOf_line h]
  unfold missOf at h ⊢
  rw [ticketed, List.find?_map, hline, h]
  exact congrArg some (if_pos hhit)

theorem exec_data (m : MsgHeader) (status : Status) (granted : LineState) (line : List Byte) (s : State) :
    exec (.data m status granted line) s = execData m status granted line s := rfl

theorem exec_grant (m : MsgHeader) (s : State) : exec (.grant m) s = execGrant m s := rfl

theorem exec_nack (m : MsgHeader) (ticket : Nat) (s : State) : exec (.nack m ticket) s = execNack m ticket s := rfl

/-- The copy that DATA brings of the line asked for. -/
def copyBrought (x : LineMiss) (granted : LineState) (line : List Byte) : HeldCopy :=
  { node := x.node, line := x.line, tenant := x.tenant, state := granted, data := line }

theorem exec_data_asked (ha : awake s = true) (hx : missOf s (m.offset / 128) = some x)
    (hhome : Tbl.find s.order.directory (m.offset / 128) = none) (hroom : s.order.copies.length < 524288)
    (granted : LineState) {line : List Byte} (hlen : line.length = 128) :
    exec (.data m .ok granted line) s = .next (addCopy (dropMiss s x) (copyBrought x granted line)) := by
  have hline := missOf_line hx
  have hwhole : line.take 128 ++ zeros (128 - line.length) = line := by
    rw [hlen, List.take_of_length_le (Nat.le_of_eq hlen)]
    exact List.append_nil line
  rw [exec_data]
  refine act_of_eq ha ?_ ?_
  · simp only [msgLine, hhome, hx, hwhole, copyBrought, hline, bne_self_eq_false, Bool.false_eq_true, if_false]
  · rw [addCopy_room (s := dropMiss s x) hroom]
    rfl

theorem exec_grant_asked (ha : awake s = true) (hx : missOf s (m.offset / 128) = some x) (hnode : x.node = m.src)
    (hup : x.request = .upgrade) :
    exec (.grant m) s = .next (setCopy (dropMiss s x) m.src (m.offset / 128) .modified) := by
  rw [exec_grant]
  refine act_of_eq ha ?_ rfl
  simp only [msgLine, hx, hnode, hup, missOf_line hx, beq_self_eq_true, Bool.and_self, if_true]

theorem exec_nack_asked (ha : awake s = true) (hx : missOf s (m.offset / 128) = some x) (hnode : x.node = m.src)
    (ticket : Nat) : ∃ u, exec (.nack m ticket) s = .next u ∧ u = { ticketed s x.node (m.offset / 128) ticket with
      outbox := s.outbox ++ [.line m.src 0x70 x.tenant m.tag (m.offset / 128 * 128) ticket .ok []]
      fabric := { s.fabric with ports := u.fabric.ports } } := by
  rw [exec_nack]
  refine act_emit (t := ticketed s x.node (m.offset / 128) ticket) ha ?_
  simp only [msgLine, hx, hnode, missOf_line hx, bne_self_eq_false, Bool.false_eq_true, if_false]
  rfl

end Misses

/-- Settles O38: what a member does to its copy and sends, message by message; an answer ends its own request alone. -/
theorem heldMessagesAtAMember : Obligations.HeldMessagesAtAMember := by
  refine ⟨fun s m requester c ha hc => ⟨?fwdShared, ?fwdOwn, fun i hi => ?drops⟩,
    fun s m x ha hx hnode => ⟨fun granted line hhome hroom hlen => ?data, fun c hup hc => ?grant, fun ticket => ?nack⟩⟩
  case fwdShared =>
    obtain ⟨u, hu, honly⟩ := exec_fwdShared_held ha hc requester
    refine ⟨u, hu, ?_⟩
    rw [honly]
    exact ⟨rfl, heldCopy_setCopy hc _, rfl⟩
  case fwdOwn =>
    obtain ⟨u, hu, honly⟩ := exec_fwdOwn_held ha hc requester
    refine ⟨u, hu, ?_⟩
    rw [honly]
    exact ⟨rfl, heldCopy_dropCopy .., rfl⟩
  case drops =>
    obtain ⟨u, hu, honly⟩ := exec_invalidates ha hc hi
    refine ⟨u, hu, ?_⟩
    rw [honly]
    exact ⟨rfl, heldCopy_dropCopy .., rfl⟩
  case data =>
    have hheld := heldCopy_addCopy (s := dropMiss s x) hroom (copyBrought x granted line)
    refine ⟨_, exec_data_asked ha hx hhome hroom granted hlen, ?_, ?_, fun y => ?_⟩
    · rw [← missOf_line hx, ← hnode]
      exact hheld
    · rw [addCopy_room (s := dropMiss s x) hroom]
      rfl
    · rw [addCopy_room (s := dropMiss s x) hroom]
      exact mem_dropMiss
  case grant =>
    exact ⟨_, exec_grant_asked ha hx hnode hup, heldCopy_setCopy (s := dropMiss s x) hc .modified, rfl, fun y => mem_dropMiss⟩
  case nack =>
    obtain ⟨u, hu, honly⟩ := exec_nack_asked ha hx hnode ticket
    refine ⟨u, hu, ?_⟩
    rw [honly]
    exact ⟨rfl, missOf_ticketed hx ticket, rfl⟩

end Sys2Proof.Machine

/-! Held lines at their home (R374 to R378): HeldRequestsAreServedAtTheHome. -/

namespace Sys2Proof

theorem Tbl.find_alter_same {α : Type} {t : Tbl α} {k : Nat} {v : α} (h : Tbl.find t k = some v) (f : α → α) :
    Tbl.find (Tbl.alter t k f) k = some (f v) := by
  rw [Tbl.find_alter, if_pos rfl, h, Option.map_some]

theorem Tbl.find_alter_other {α : Type} (t : Tbl α) {k key : Nat} (f : α → α) (h : key ≠ k) :
    Tbl.find (Tbl.alter t k f) key = Tbl.find t key := by
  rw [Tbl.find_alter, if_neg h]

end Sys2Proof

namespace Sys2Proof.Machine

open Sys2Proof

/-! ### The directory (R372 to R374) -/

/-- The hub with a line's entry put in, and a count of grants. -/
def withEntry (line : Nat) (e : DirEntry) (grants : Nat) (s : State) : State :=
  { s with order := { s.order with directory := Tbl.put s.order.directory line e, grants := grants } }

/-- The hub with a line's entry changed, and a count of grants. -/
def changeEntry (line : Nat) (f : DirEntry → DirEntry) (grants : Nat) (s : State) : State :=
  { s with order := { s.order with directory := Tbl.alter s.order.directory line f, grants := grants } }

/-- A line's entry when a NACK has given its next ticket out, and when a ticket has had its turn (R378). -/
def ticketIssued (e : DirEntry) : DirEntry := { e with next := (e.next + 1) % 128 }
def ticketServed (e : DirEntry) : DirEntry := { e with serve := (e.serve + 1) % 128 }

theorem mem_holders {e : DirEntry} {n : Nat} :
    n ∈ holders e ↔ n ∈ e.sharers ∨ e.state ≠ .shared ∧ n = e.owner := by
  unfold holders
  split
  next h => simp_all
  next h => simp_all [or_comm]

/-! ### A member's request that is served (R376, R378) -/

section Request

variable {s : State} {m : MsgHeader} {request : LineRequest} {e : DirEntry}

/-- A member's request that its home takes: of a hub of the domain, for a line that it may have. -/
structure Takes (s : State) (m : MsgHeader) (request : LineRequest) : Prop where
  hub : (domainHubs s).contains m.src = true
  status : lineStatus s m (request != .readShared) = .ok

/-- A request is served, for its kind. -/
def serveLine (s : State) (m : MsgHeader) (request : LineRequest) : State :=
  if request == .readShared then serveShared s m else serveOwn s m request

theorem Takes.idle (h : Takes s m request) (he : Tbl.find s.order.directory (m.offset / 128) = some e) (hidle : e.busy = none) :
    memberRequest s m request = serveLine s m request := by
  simp only [memberRequest, msgLine, h.hub, h.status, he, hidle, bne_self_eq_false, Bool.not_true, Bool.false_eq_true, if_false,
    Option.isSome_none]
  rfl

theorem Takes.absent (h : Takes s m request) (hnone : Tbl.find s.order.directory (m.offset / 128) = none)
    (hroom : directoryFull s (lineRegion s (m.offset / 128)) = false) : memberRequest s m request = serveLine s m request := by
  simp only [memberRequest, msgLine, h.hub, h.status, hnone, hroom, bne_self_eq_false, Bool.not_true, Bool.false_eq_true,
    if_false]
  rfl

theorem Takes.busy (h : Takes s m request) (he : Tbl.find s.order.directory (m.offset / 128) = some e)
    (hbusy : e.busy.isSome = true) : memberRequest s m request =
      emit (changeEntry (m.offset / 128) ticketIssued s.order.grants s)
        (.line m.src 0x25 0 m.tag (m.offset / 128 * 128) e.next .ok []) := by
  simp only [memberRequest, msgLine, h.hub, h.status, he, hbusy, nackLine, bne_self_eq_false, Bool.not_true,
    Bool.false_eq_true, if_false, if_true]
  rfl

end Request

/-! ### READ_SHARED (R376) -/

section Shared

variable {s : State} {m : MsgHeader} {e : DirEntry}

/-- The entry of a line without one, once a READ_SHARED has made its member the E holder. -/
def exclusiveEntry (s : State) (node : Nat) : DirEntry :=
  { firstHolder s .exclusive node with granted := s.order.grants + 1 }

theorem serveShared_absent (hnone : Tbl.find s.order.directory (m.offset / 128) = none) : serveShared s m =
    emit (withEntry (m.offset / 128) (exclusiveEntry s m.src) (s.order.grants + 1) s)
      (.line m.src 0x23 0 m.tag (m.offset / 128 * 128) 2 .ok (readMem s (m.offset / 128 * 128) 128)) := by
  have hcounted : Tbl.find (countGrant s).order.directory (m.offset / 128) = none := hnone
  simp only [serveShared, msgLine, hcounted]
  rfl

/-- The entry of a line in a state once a READ_SHARED has made its member a sharer: an E holder becomes a sharer, an M holder
keeps the line in O. -/
def sharedEntry (state : LineState) (grants node : Nat) (e : DirEntry) : DirEntry :=
  match state with
  | .shared => { e with sharers := dedup (e.sharers ++ [node]), granted := grants }
  | .exclusive => { e with state := .shared, sharers := dedup (e.sharers ++ [e.owner, node]), granted := grants }
  | _ => { e with state := .owned, sharers := dedup (e.sharers ++ [node]), granted := grants }

/-- What a READ_SHARED of a line with an entry sends: data from home, or a forward to the holder. -/
def sharedAnswer (s : State) (m : MsgHeader) (e : DirEntry) : Out :=
  if e.state = .shared then .line m.src 0x23 0 m.tag (m.offset / 128 * 128) 1 .ok (readMem s (m.offset / 128 * 128) 128)
  else .line e.owner 0x40 0 0 (m.offset / 128 * 128) m.src .ok []

theorem serveShared_entry (he : Tbl.find s.order.directory (m.offset / 128) = some e) : serveShared s m =
    emit (changeEntry (m.offset / 128) (sharedEntry e.state (s.order.grants + 1) m.src) (s.order.grants + 1) s)
      (sharedAnswer s m e) := by
  have hcounted : Tbl.find (countGrant s).order.directory (m.offset / 128) = some e := he
  simp only [serveShared, msgLine, hcounted, sharedAnswer]
  cases e.state with
  | shared => rfl
  | exclusive => rfl
  | modified => rfl
  | owned => rfl

/-- What holds of a line's entry after a READ_SHARED, whatever its state was. -/
theorem sharedEntry_keeps (state : LineState) (grants node : Nat) (e : DirEntry) :
    (sharedEntry state grants node e).owner = e.owner ∧ (sharedEntry state grants node e).busy = e.busy ∧
      node ∈ (sharedEntry state grants node e).sharers ∧ ∀ n ∈ e.sharers, n ∈ (sharedEntry state grants node e).sharers := by
  unfold sharedEntry
  split <;> exact ⟨rfl, rfl, by simp, fun n hn => by simp [hn]⟩

theorem sharedEntry_of_shared {e : DirEntry} (h : e.state = .shared) (grants node : Nat) :
    (sharedEntry e.state grants node e).state = .shared := by
  simp only [sharedEntry, h]

theorem sharedEntry_of_exclusive {e : DirEntry} (h : e.state = .exclusive) (grants node : Nat) :
    (sharedEntry e.state grants node e).state = .shared ∧ e.owner ∈ (sharedEntry e.state grants node e).sharers := by
  simp [sharedEntry, h]

theorem sharedEntry_of_dirty {e : DirEntry} (h : e.state = .modified ∨ e.state = .owned) (grants node : Nat) :
    (sharedEntry e.state grants node e).state = .owned := by
  obtain h | h := h <;> simp only [sharedEntry, h]

end Shared

/-! ### READ_OWN and UPGRADE (R376) -/

section Own

variable {s : State} {m : MsgHeader} {request : LineRequest} {e : DirEntry}

/-- The entry of a line that a member holds in M, alone. -/
def ownedEntry (grants node : Nat) (e : DirEntry) : DirEntry :=
  { e with state := .modified, owner := node, sharers := [], busy := none, waiting := [], granted := grants }

/-- The hub that has granted a line in M. -/
def grantedOwn (line node : Nat) (s : State) : State :=
  changeEntry line (ownedEntry (s.order.grants + 1) node) (s.order.grants + 1) s

theorem finishTx_upgrade (hwaiting : e.waiting = []) (s : State) (line node tag : Nat) :
    finishTx s line { e with busy := some (.member node tag .upgrade) } =
      emit (grantedOwn line node s) (.line node 0x24 0 tag (line * 128) 0 .ok []) := by
  simp only [finishTx, hwaiting]
  rfl

theorem finishTx_readOwn (hwaiting : e.waiting = []) (hshared : e.state = .shared) (s : State) (line node tag : Nat) :
    finishTx s line { e with busy := some (.member node tag .readOwn) } =
      emit (grantedOwn line node s) (.line node 0x23 0 tag (line * 128) 3 .ok (readMem s (line * 128) 128)) := by
  simp only [finishTx, hwaiting, hshared]
  rfl

/-- A line without an entry is granted in M at once, with data from home. -/
theorem serveOwn_absent (hnone : Tbl.find s.order.directory (m.offset / 128) = none)
    (hown : request = .readOwn ∨ request = .upgrade) : serveOwn s m request =
      emit (grantedOwn (m.offset / 128) m.src (withEntry (m.offset / 128) (firstHolder s .shared m.src) s.order.grants s))
        (.line m.src 0x23 0 m.tag (m.offset / 128 * 128) 3 .ok (readMem s (m.offset / 128 * 128) 128)) := by
  refine Eq.trans ?_ (finishTx_readOwn (e := firstHolder s .shared m.src) rfl rfl
    (withEntry (m.offset / 128) (firstHolder s .shared m.src) s.order.grants s) (m.offset / 128) m.src m.tag)
  simp only [serveOwn, msgLine, hnone, Tbl.find_put_same]
  obtain rfl | rfl := hown <;> rfl

/-- A line that the requester alone holds is granted in M at once, without data. -/
theorem serveOwn_alone (he : Tbl.find s.order.directory (m.offset / 128) = some e) (hwaiting : e.waiting = [])
    (hholds : m.src ∈ holders e) (halone : ∀ n ∈ holders e, n = m.src) : serveOwn s m .upgrade =
      emit (grantedOwn (m.offset / 128) m.src s) (.line m.src 0x24 0 m.tag (m.offset / 128 * 128) 0 .ok []) := by
  have hnone : (holders e).filter (· != m.src) = [] := List.filter_eq_nil_iff.mpr fun n hn => by simp [halone n hn]
  have hcontains : (holders e).contains m.src = true := by simpa using hholds
  rw [← finishTx_upgrade hwaiting]
  simp only [serveOwn, msgLine, he, hnone, hcontains]
  rfl

theorem foldl_sendLine (kind line aux : Nat) (ns : List Nat) (s : State) :
    ns.foldl (fun s n => sendLine s n kind line aux .ok []) s =
      emitAll s (ns.map fun n => .line n kind 0 0 (line * 128) aux .ok []) := by
  induction ns generalizing s with
  | nil => simp [emitAll]
  | cons n ns ih => rw [List.foldl_cons, ih]; simp [sendLine, emit, emitAll]

/-- The entry of a line whose other copies are being invalidated for a member's transaction. -/
def invalidating (tx : LineTx) (others : List Nat) (e : DirEntry) : DirEntry := { e with busy := some tx, acksDue := others }

/-- A shared line's other copies are invalidated first. -/
theorem serveOwn_shared (he : Tbl.find s.order.directory (m.offset / 128) = some e) (hshared : e.state = .shared)
    (hothers : ∃ n ∈ holders e, n ≠ m.src) (request : LineRequest) : ∃ tx, serveOwn s m request =
      emitAll (changeEntry (m.offset / 128) (invalidating tx ((holders e).filter (· != m.src))) s.order.grants s)
        (((holders e).filter (· != m.src)).map fun n => .line n 0x42 0 0 (m.offset / 128 * 128) 0 .ok []) := by
  have hsome : ((holders e).filter (· != m.src)).isEmpty = false := by simpa using hothers
  have hclean : (e.state == .modified || e.state == .owned) = false := by rw [hshared]; rfl
  refine ⟨.member m.src m.tag (if request == .upgrade && !(holders e).contains m.src then .readOwn else request), ?_⟩
  simp only [serveOwn, msgLine, he, hsome, startTx, hclean, Bool.false_and, Bool.false_eq_true, if_false]
  exact foldl_sendLine ..

/-- The commands that ask for a line to write it. -/
theorem exec_owns {c : Instr} (hc : c = .readOwn m ∨ c = .upgrade m) : ∃ request, (request = .readOwn ∨ request = .upgrade) ∧
    ∀ s, exec c s = act s (fun s => memberRequest s m request) := by
  obtain rfl | rfl := hc
  · exact ⟨.readOwn, .inl rfl, fun _ => rfl⟩
  · exact ⟨.upgrade, .inr rfl, fun _ => rfl⟩

theorem Takes.of_own (hhub : (domainHubs s).contains m.src = true) (hst : lineStatus s m true = .ok)
    (hown : request = .readOwn ∨ request = .upgrade) : Takes s m request :=
  ⟨hhub, by obtain rfl | rfl := hown <;> exact hst⟩

theorem serveLine_own (hown : request = .readOwn ∨ request = .upgrade) : serveLine s m request = serveOwn s m request := by
  obtain rfl | rfl := hown <;> rfl

end Own

/-! ### RETRY (R378) -/

section Retry

variable {s : State} {m : MsgHeader} {request : LineRequest} {ticket : Nat} {e : DirEntry}

theorem exec_retry (m : MsgHeader) (request : LineRequest) (ticket : Nat) (s : State) :
    exec (.retry m request ticket) s = execRetry m request ticket s := rfl

theorem exec_retry_serves (ha : awake s = true) (he : Tbl.find s.order.directory (m.offset / 128) = some e)
    (hidle : e.busy = none) : exec (.retry m request e.serve) s =
      act (changeEntry (m.offset / 128) ticketServed s.order.grants s) (fun s => memberRequest s m request) := by
  have hawake : awake (changeEntry (m.offset / 128) ticketServed s.order.grants s) = true := ha
  rw [exec_retry, execRetry, act_awake _ _ ha, act_awake _ _ hawake]
  simp only [msgLine, he, hidle, bne_self_eq_false, Option.isSome_none, Bool.or_self, Bool.false_eq_true, if_false]
  rfl

theorem exec_retry_nacks (ha : awake s = true) (he : Tbl.find s.order.directory (m.offset / 128) = some e)
    (hticket : ticket ≠ e.serve) : ∃ u, exec (.retry m request ticket) s = .next u ∧
      Sends s u [.line m.src 0x25 0 m.tag (m.offset / 128 * 128) ticket .ok []] := by
  have hother : (e.busy.isSome || ticket != e.serve) = true := by simp [hticket]
  rw [exec_retry]
  refine act_sends ha ?_
  simp only [msgLine, he, hother, if_true]
  rfl

end Retry

/-! ### EVICT and INV_ACK (R375, R376) -/

section Answers

variable {s : State} {m : MsgHeader} {e : DirEntry}

theorem exec_evict (m : MsgHeader) (dirty : List Byte) (s : State) : exec (.evict m dirty) s = execEvict m dirty s := rfl

theorem exec_invAck (m : MsgHeader) (line : List Byte) (s : State) :
    exec (.invAck m line) s = act s (fun s => lineAnswer s m.src (m.offset / 128) line) := rfl

/-- The data of a line is there, and no longer than the line. -/
theorem line_whole {data : List Byte} (hlen : data.length = 128) : data.isEmpty = false ∧ data.take 128 = data := by
  refine ⟨List.isEmpty_eq_false_iff.mpr ?_, List.take_of_length_le (Nat.le_of_eq hlen)⟩
  rintro rfl
  exact absurd hlen (by decide)

/-- The bytes of a line after its data is written back. -/
theorem memByte_setMem_line {data : List Byte} (hwf : Memory.wf s.store.mem = true) (hlen : data.length = 128) (off : Nat) :
    (∀ i, (h : i < data.length) → memByte (setMem s off data).store.mem (off + i) = data[i]) ∧
      ∀ a, a < off ∨ off + 128 ≤ a → memByte (setMem s off data).store.mem a = memByte s.store.mem a :=
  ⟨fun _ hi => memByte_memWrite_inside _ _ _ _ hwf hi, fun _ ha => memByte_memWrite_outside _ _ _ _ hwf (hlen ▸ ha)⟩

/-- The entry of a line that its owner has given up to the sharers that are left. -/
def disowned (sharers : List Nat) (e : DirEntry) : DirEntry := { e with state := .shared, sharers := sharers }

/-- The hub with a line taken away from its owner. -/
def ownerGone (line : Nat) (sharers : List Nat) (s : State) : State :=
  if sharers = [] then freeLine s line else modLine s line (disowned sharers)

theorem exec_evict_owner (ha : awake s = true) (he : Tbl.find s.order.directory (m.offset / 128) = some e)
    (hidle : e.busy = none) (howner : e.owner = m.src) (hdirty : e.state = .modified ∨ e.state = .owned)
    {dirty : List Byte} (hlen : dirty.length = 128) : exec (.evict m dirty) s =
      .next (ownerGone (m.offset / 128) (e.sharers.filter (· != m.src)) (setMem s (m.offset / 128 * 128) dirty)) := by
  have hstate : e.state ≠ .shared := by obtain h | h := hdirty <;> simp [h]
  have hholds : (holders e).contains m.src = true := by simpa using mem_holders.mpr (.inr ⟨hstate, howner.symm⟩)
  have howns : (e.state != .shared && e.owner == m.src) = true := by simp [hstate, howner]
  obtain ⟨hdata, hwhole⟩ := line_whole hlen
  rw [exec_evict]
  refine act_of_eq ha ?_ ?_
  · simp only [msgLine, he, hidle, hholds, howns, hdata, hwhole, Bool.not_true, Bool.not_false, Bool.and_self,
      Bool.false_eq_true, if_false, if_true, Option.isSome_none, List.isEmpty_iff]
    rfl
  · unfold ownerGone
    split <;> rfl

/-- The entry of a line that a node has acknowledged to hold no longer. -/
def acked (node : Nat) (e : DirEntry) : DirEntry :=
  { e with acksDue := e.acksDue.filter (· != node), sharers := e.sharers.filter (· != node) }

theorem exec_invAck_more (ha : awake s = true) (he : Tbl.find s.order.directory (m.offset / 128) = some e)
    (hbusy : e.busy.isSome = true) (hdue : m.src ∈ e.acksDue) (hmore : ∃ n ∈ e.acksDue, n ≠ m.src) {data : List Byte}
    (hlen : data.length = 128) : exec (.invAck m data) s =
      .next (modLine (setMem s (m.offset / 128 * 128) data) (m.offset / 128) (fun _ => acked m.src e)) := by
  have hnow : (e.busy.isNone || !e.acksDue.contains m.src) = false := by
    obtain ⟨tx, htx⟩ := Option.isSome_iff_exists.mp hbusy
    simp [htx, hdue]
  have hleft : (e.acksDue.filter (· != m.src)).isEmpty = false := by simpa using hmore
  obtain ⟨hdata, hwhole⟩ := line_whole hlen
  rw [exec_invAck]
  refine act_of_eq ha ?_ rfl
  simp only [lineAnswer, he, hnow, hleft, hdata, hwhole, Bool.false_eq_true, if_false]
  rfl

end Answers

/-- Settles O37: what the home makes of a line's entry and what it sends, request by request. -/
theorem heldRequestsAreServedAtTheHome : Obligations.HeldRequestsAreServedAtTheHome := by
  refine ⟨fun s m ha hhub hst => ⟨fun hnone hroom => ?first, fun e he hidle => ?shares⟩,
    fun s m ha hhub hst => ⟨fun hnone hroom c hc => ?owns, fun e he hidle hwaiting hholds halone => ?upgrades,
      fun e c he hidle hshared hothers hc => ?invalidates, fun e c he hbusy hc => ?nacks⟩,
    fun s m request ticket e c ha he hidle hc => ⟨fun hticket => ?serves, exec_retry_nacks ha he⟩,
    fun s m dirty e ha hwf he hidle howner hdirty hlen => ?evicts,
    fun s m data e ha hwf he hbusy hdue hmore hlen => ?acks⟩
  case first =>
    have htakes : Takes s m .readShared := ⟨hhub, hst⟩
    obtain ⟨u, hu, honly⟩ := act_emit (f := fun s => memberRequest s m .readShared) ha
      ((htakes.absent hnone hroom).trans (serveShared_absent hnone))
    refine ⟨u, hu, ?_⟩
    rw [honly]
    exact ⟨⟨rfl, fun k hk => Tbl.find_put_other _ _ hk⟩, rfl, _, Tbl.find_put_same .., rfl, rfl, rfl, rfl⟩
  case shares =>
    have htakes : Takes s m .readShared := ⟨hhub, hst⟩
    obtain ⟨u, hu, honly⟩ := act_emit (f := fun s => memberRequest s m .readShared) ha
      ((htakes.idle he hidle).trans (serveShared_entry he))
    obtain ⟨howner, hbusy, hmember, hsharers⟩ := sharedEntry_keeps e.state (s.order.grants + 1) m.src e
    refine ⟨u, hu, ?_⟩
    rw [honly]
    refine ⟨⟨rfl, fun k hk => Tbl.find_alter_other _ _ hk⟩, _, Tbl.find_alter_same he _, howner, hbusy.trans hidle, hmember,
      hsharers, fun h => ⟨sharedEntry_of_shared h .., ?_⟩, fun h => sharedEntry_of_exclusive h ..,
      fun h => sharedEntry_of_dirty h .., fun h => ?_⟩
    · rw [sharedAnswer, if_pos h]
      rfl
    · rw [sharedAnswer, if_neg h]
      rfl
  case owns =>
    obtain ⟨request, hown, hexec⟩ := exec_owns hc
    have htakes := Takes.of_own hhub hst hown
    obtain ⟨u, hu, honly⟩ := act_emit (f := fun s => memberRequest s m request) ha
      ((htakes.absent hnone hroom).trans ((serveLine_own hown).trans (serveOwn_absent hnone hown)))
    refine ⟨u, (hexec s).trans hu, ?_⟩
    rw [honly]
    exact ⟨⟨rfl, fun k hk => (Tbl.find_alter_other _ _ hk).trans (Tbl.find_put_other _ _ hk)⟩, rfl, _,
      Tbl.find_alter_same (Tbl.find_put_same ..) _, rfl, rfl, rfl⟩
  case upgrades =>
    have htakes := Takes.of_own hhub hst (.inr rfl)
    obtain ⟨u, hu, honly⟩ := act_emit (f := fun s => memberRequest s m .upgrade) ha
      ((htakes.idle he hidle).trans (serveOwn_alone he hwaiting hholds halone))
    refine ⟨u, hu, ?_⟩
    rw [honly]
    exact ⟨⟨rfl, fun k hk => Tbl.find_alter_other _ _ hk⟩, rfl, _, Tbl.find_alter_same he _, rfl, rfl, rfl, rfl⟩
  case invalidates =>
    obtain ⟨request, hown, hexec⟩ := exec_owns hc
    have htakes := Takes.of_own hhub hst hown
    obtain ⟨tx, heff⟩ := serveOwn_shared he hshared hothers request
    obtain ⟨u, hu, honly⟩ := act_emitAll (f := fun s => memberRequest s m request) ha
      ((htakes.idle he hidle).trans ((serveLine_own hown).trans heff))
    refine ⟨u, (hexec s).trans hu, ?_⟩
    rw [honly]
    exact ⟨⟨rfl, fun k hk => Tbl.find_alter_other _ _ hk⟩, rfl, _, Tbl.find_alter_same he _, rfl, rfl, rfl⟩
  case nacks =>
    obtain ⟨request, hown, hexec⟩ := exec_owns hc
    obtain ⟨u, hu, honly⟩ := act_emit (f := fun s => memberRequest s m request) ha
      ((Takes.of_own hhub hst hown).busy he hbusy)
    refine ⟨u, (hexec s).trans hu, ?_⟩
    rw [honly]
    exact ⟨⟨rfl, fun k hk => Tbl.find_alter_other _ _ hk⟩, rfl, Tbl.find_alter_same he _⟩
  case serves =>
    rw [hticket, exec_retry_serves ha he hidle]
    obtain ⟨rfl, rfl⟩ | ⟨rfl, rfl⟩ | ⟨rfl, rfl⟩ := hc <;> rfl
  case evicts =>
    obtain ⟨hin, hout⟩ := memByte_setMem_line hwf hlen (m.offset / 128 * 128)
    refine ⟨_, exec_evict_owner ha he hidle howner hdirty hlen, ?_⟩
    unfold ownerGone
    split
    · exact ⟨rfl, rfl, hin, hout, Tbl.find_del_same ..⟩
    · exact ⟨rfl, rfl, hin, hout, Tbl.find_alter_same he (disowned _)⟩
  case acks =>
    obtain ⟨hin, hout⟩ := memByte_setMem_line hwf hlen (m.offset / 128 * 128)
    exact ⟨_, exec_invAck_more ha he hbusy hdue hmore hlen, rfl, rfl, hin, hout,
      Tbl.find_alter_same he (fun _ => acked m.src e)⟩

end Sys2Proof.Machine
